-- ==== Sys2Proof/Word.lean ====
section
/-! DEFINITION. The plain words of the LDV340: bytes, 16-bit cells, the 32-bit millisecond time base and
the difference of two of its values (00_scope.md 3.2). -/

namespace Sys2Proof

/-- One byte of the host line or of a settings image. -/
abbrev Byte := BitVec 8

/-- A 16-bit quantity: a pilot cell, a CRC-16, the report mask. -/
abbrev Word16 := BitVec 16

/-- A value of the time base: milliseconds since the last full restart, modulo 2^32. -/
abbrev Time := BitVec 32

/-- The milliseconds from `since` to `now`, taken modulo 2^32, so that a wrap of the counter between the two
does not disturb it (R3, R56, R70). -/
def elapsed (now since : Time) : Nat := (now - since).toNat

end Sys2Proof
end

