-- ==== Sys2Proof/Syntax.lean ====
section
/-! DEFINITION. The commands: one constructor per row of spec/opcode_table.json, in the table's order. A
row's operands are what arrives from outside the part with that event: contact levels, frame bits,
a pilot half, a byte, a strap, the memory's answer to a write. A row whose event takes its matter
from the part's own state (a timer, a queue, a message in assembly) has none. -/

namespace Sys2Proof

/-- How a full restart that no command asked for begins (R178: POWER_ON or PIN), and whether RESET_N is still low
after it (Table 0.8, R109). -/
inductive PowerCause where
  /-- Power-on, RESET_N high. -/
  | powerOn
  /-- Power-on with RESET_N still low. -/
  | powerOnHeld
  /-- RESET_N, high again. -/
  | pin
  /-- RESET_N, still low. -/
  | pinHeld
  deriving DecidableEq, Repr

/-- One command of the block: a step of the part's table of operations and events. -/
inductive Instr where
  /-- FULL_RESTART: power-on or RESET_N, with the straps BAUD1 and BAUD0 read at it (R64, R178). -/
  | fullRestart (cause : PowerCause) (baud1 baud0 : Bool)
  /-- FULL_RESTART_BY_COMMAND: the restart that RESTART FULL set going (R177), with the straps. -/
  | fullRestartByCommand (baud1 baud0 : Bool)
  /-- TIME_BASE_EVENT: the 1 ms event, with the levels of BKR_A, BKR_B and BKR_READY at its scan (R65, R67). -/
  | timeBaseEvent (bkrA bkrB bkrReady : Bool)
  /-- SAMPLE_SET_ARRIVAL: the fall of SP_FRM after `nbits` bits; `frame` is the number those bits spell,
  first bit most significant (R1, Table 1.1). -/
  | sampleSetArrival (nbits frame : Nat)
  /-- LOSS_DECLARED (R3). -/
  | lossDeclared
  /-- TRIP_TIMER_EXPIRY (R70). -/
  | tripTimerExpiry
  /-- CLOSE_TIMER_EXPIRY (R72). -/
  | closeTimerExpiry
  /-- DEAD_TIMER_EXPIRY (R83). -/
  | deadTimerExpiry
  /-- HOLD_EXCEEDED (R85). -/
  | holdExceeded
  /-- RECLAIM_TIMER_EXPIRY (R90). -/
  | reclaimTimerExpiry
  /-- SCAN_EVENT (R48). -/
  | scanEvent
  /-- BACKING_WRITE_COMPLETION: the nonvolatile memory's answer, STORED (`true`) or WRITE_FAILED (R46). -/
  | backingWriteCompletion (stored : Bool)
  /-- FIRE_LEVEL_EXPIRY (R56). -/
  | fireLevelExpiry
  /-- SLOT_EVENT, with the 32 bits of the up half it takes in, in the order of Table 7.1 (R115). -/
  | slotEvent (up : BitVec 32)
  /-- TAKE_TIMEOUT (R121). -/
  | takeTimeout
  /-- DOWN_MESSAGE_END (R119). -/
  | downMessageEnd
  /-- HOLDING_TIMEOUT (R129). -/
  | holdingTimeout
  /-- REFUSING_END (R128). -/
  | refusingEnd
  /-- COOL_DOWN_END (R130). -/
  | coolDownEnd
  /-- STATUS: delivery of the assembled STATUS message (R127, R136). -/
  | status
  /-- SWITCH_DONE: delivery of the assembled SWITCH_DONE message (R127, R145). -/
  | switchDone
  /-- START_REQUEST: delivery of the assembled START_REQUEST message (R127, R157). -/
  | startRequest
  /-- START_DONE: delivery of the assembled START_DONE message (R127, R165). -/
  | startDone
  /-- START_ABANDON: delivery of the assembled START_ABANDON message (R127, R159). -/
  | startAbandon
  /-- POLL_TIMER_EXPIRY (R132). -/
  | pollTimerExpiry
  /-- REPLY_WAIT_EXPIRY for one station (R133). -/
  | replyWaitExpiry (station : Nat)
  /-- SWITCH_WAIT_EXPIRY (R145, R147). -/
  | switchWaitExpiry
  /-- DWELL_EXPIRY (R146). -/
  | dwellExpiry
  /-- SETTLING_END (R151). -/
  | settlingEnd
  /-- WHOLE_SECOND_BOUNDARY (R161). -/
  | wholeSecondBoundary
  /-- REQUEST_LIFETIME_EXPIRY for one drive (R159). -/
  | requestLifetimeExpiry (drive : Nat)
  /-- START_WINDOW_EXPIRY (R165). -/
  | startWindowExpiry
  /-- HOST_RECORD_ARRIVAL: judgement of the oldest record the parser has completed (R169). -/
  | hostRecordArrival
  /-- RECEIVE_TIMEOUT (R168). -/
  | receiveTimeout
  /-- TRANSMISSION_START (R171). -/
  | transmissionStart
  /-- TRANSMISSION_END (R171). -/
  | transmissionEnd
  /-- ECHO: execution of the command at the head of the command queue (R170, R174). -/
  | echo
  /-- READ_STATUS (R174). -/
  | readStatus
  /-- READ_MEASURE (R39, R174). -/
  | readMeasure
  /-- READ_IMAGE (R174). -/
  | readImage
  /-- LOAD_IMAGE (R44). -/
  | loadImage
  /-- CHECK_IMAGES (R51). -/
  | checkImages
  /-- SET_FIRE_LEVEL (R55). -/
  | setFireLevel
  /-- SELECT_GROUP (R59). -/
  | selectGroup
  /-- TRIP (R95). -/
  | trip
  /-- CLOSE (R96). -/
  | close
  /-- RESET_LOCKOUT (R97). -/
  | resetLockout
  /-- SET_PERMIT (R111). -/
  | setPermit
  /-- ACK_CONDITIONS (R110). -/
  | ackConditions
  /-- START_HUNT (R141). -/
  | startHunt
  /-- STOP_HUNT (R150). -/
  | stopHunt
  /-- REQUEST_START (R158). -/
  | requestStart
  /-- CANCEL_START (R159). -/
  | cancelStart
  /-- PILOT_QUERY (R135). -/
  | pilotQuery
  /-- SET_REPORT_MASK (R173). -/
  | setReportMask
  /-- RESTART_LINK (R176). -/
  | restartLink
  /-- RESTART_FULL (R177). -/
  | restartFull
  /-- HOST_BYTE_RECEIVED: one byte on HOST_RXD (R168). -/
  | hostByteReceived (b : Byte)
  deriving DecidableEq, Repr

end Sys2Proof
end

