-- ==== Sys2Proof/Config.lean ====
section
/-! DEFINITION. The values the manual leaves open, as constants without a body: nothing can evaluate them or
prove a value of them. -/

namespace Sys2Proof

/-- The bytes that a backing copy holds after a backing write that failed or was ended by a full restart.
R46 says only that this content "will fail its check when it is next loaded". The argument is the
value of the model's counter `freeIx` when the write failed (assumption log entry 3). -/
opaque Config.spoiledContent : Nat → List Byte

/-- How far the CRC kept with such a backing copy lies from the CRC of its content. Only the fact that the
two differ is used: `spoiledCrc` in Machine/Images.lean adds a nonzero offset made from this value
(assumption log entry 3). -/
opaque Config.spoiledOffset : Nat → Nat

end Sys2Proof
end

