-- ==== Sys2Proof/Machine/Settings.lean ====
section
/-! DEFINITION. The conditions and their actions, the contents of the twelve settings images, the built-in
PLANT defaults (Table 3.8), group S (Table 3.9) and the fixed and default action table (Table 6.3). -/

namespace Sys2Proof.Machine

/-- One value for each of the five measured channels. -/
structure Five (α : Type) where
  ia : α
  ib : α
  ic : α
  inn : α
  vn : α
  deriving DecidableEq, Repr

/-- The same function on all five channels. -/
def Five.map {α β : Type} (f : α → β) (v : Five α) : Five β := ⟨f v.ia, f v.ib, f v.ic, f v.inn, f v.vn⟩

/-- Two five-channel values joined channel by channel. -/
def Five.zip {α β γ : Type} (f : α → β → γ) (v : Five α) (w : Five β) : Five γ :=
  ⟨f v.ia w.ia, f v.ib w.ib, f v.ic w.ic, f v.inn w.inn, f v.vn w.vn⟩

/-- One value for each of the three phases. -/
structure Three (α : Type) where
  a : α
  b : α
  c : α
  deriving DecidableEq, Repr

/-- The same function on all three phases. -/
def Three.map {α β : Type} (f : α → β) (v : Three α) : Three β := ⟨f v.a, f v.b, f v.c⟩

/-- Two three-phase values joined phase by phase. -/
def Three.zip {α β γ : Type} (f : α → β → γ) (v : Three α) (w : Three β) : Three γ :=
  ⟨f v.a w.a, f v.b w.b, f v.c w.c⟩

/-- The twelve conditions of Table 6.1, in condition number order. -/
inductive Cond where
  | sampleLoss
  | integrity
  | breakerFail
  | closeFail
  | breakerNotReady
  | fireStale
  | fireRegime
  | huntActive
  | earthFaultStanding
  | stationSilent
  | liveLine
  | hostHold
  deriving DecidableEq, Repr

/-- The condition number of Table 6.1. -/
def Cond.number : Cond → Nat
  | .sampleLoss => 1
  | .integrity => 2
  | .breakerFail => 3
  | .closeFail => 4
  | .breakerNotReady => 5
  | .fireStale => 6
  | .fireRegime => 7
  | .huntActive => 8
  | .earthFaultStanding => 9
  | .stationSilent => 10
  | .liveLine => 11
  | .hostHold => 12

/-- All conditions, lowest number first. -/
def Cond.all : List Cond :=
  [.sampleLoss, .integrity, .breakerFail, .closeFail, .breakerNotReady, .fireStale, .fireRegime,
   .huntActive, .earthFaultStanding, .stationSilent, .liveLine, .hostHold]

/-- One value for each condition: "a collection of exactly twelve, ordered by condition number"
(06_conditions_and_actions.md 6.1). -/
structure CondTable (α : Type) where
  sampleLoss : α
  integrity : α
  breakerFail : α
  closeFail : α
  breakerNotReady : α
  fireStale : α
  fireRegime : α
  huntActive : α
  earthFaultStanding : α
  stationSilent : α
  liveLine : α
  hostHold : α
  deriving DecidableEq, Repr

/-- The value of one condition. -/
def CondTable.get {α : Type} (t : CondTable α) : Cond → α
  | .sampleLoss => t.sampleLoss
  | .integrity => t.integrity
  | .breakerFail => t.breakerFail
  | .closeFail => t.closeFail
  | .breakerNotReady => t.breakerNotReady
  | .fireStale => t.fireStale
  | .fireRegime => t.fireRegime
  | .huntActive => t.huntActive
  | .earthFaultStanding => t.earthFaultStanding
  | .stationSilent => t.stationSilent
  | .liveLine => t.liveLine
  | .hostHold => t.hostHold

/-- The table with one condition's value replaced. -/
def CondTable.set {α : Type} (t : CondTable α) (c : Cond) (v : α) : CondTable α :=
  match c with
  | .sampleLoss => { t with sampleLoss := v }
  | .integrity => { t with integrity := v }
  | .breakerFail => { t with breakerFail := v }
  | .closeFail => { t with closeFail := v }
  | .breakerNotReady => { t with breakerNotReady := v }
  | .fireStale => { t with fireStale := v }
  | .fireRegime => { t with fireRegime := v }
  | .huntActive => { t with huntActive := v }
  | .earthFaultStanding => { t with earthFaultStanding := v }
  | .stationSilent => { t with stationSilent := v }
  | .liveLine => { t with liveLine := v }
  | .hostHold => { t with hostHold := v }

/-- The table whose value at each condition is `f` of that condition. -/
def CondTable.build {α : Type} (f : Cond → α) : CondTable α :=
  ⟨f .sampleLoss, f .integrity, f .breakerFail, f .closeFail, f .breakerNotReady, f .fireStale, f .fireRegime,
   f .huntActive, f .earthFaultStanding, f .stationSilent, f .liveLine, f .hostHold⟩

/-- The mode of a condition (Table 6.2). -/
inductive Mode where
  | live
  | sticky
  deriving DecidableEq, Repr

/-- A set of the five actions (section 6.2). -/
structure Actions where
  blockHard : Bool
  blockHold : Bool
  barStarts : Bool
  barHunt : Bool
  alarmPin : Bool
  deriving DecidableEq, Repr

/-- The empty set of actions. -/
def Actions.none : Actions := ⟨false, false, false, false, false⟩

/-- The union of two sets of actions (R104). -/
def Actions.union (x y : Actions) : Actions :=
  ⟨x.blockHard || y.blockHard, x.blockHold || y.blockHold, x.barStarts || y.barStarts,
   x.barHunt || y.barHunt, x.alarmPin || y.alarmPin⟩

/-- One entry of an action table: the mode and the added actions (Table 3.3, fields 12 to 23). -/
structure ActionEntry where
  mode : Mode
  added : Actions
  deriving DecidableEq, Repr

/-- The fixed actions of Table 6.3. -/
def fixedActions : Cond → Actions
  | .sampleLoss => ⟨true, false, true, true, false⟩
  | .integrity => ⟨true, false, false, false, false⟩
  | .closeFail => ⟨true, false, false, false, false⟩
  | .huntActive => ⟨true, false, true, false, false⟩
  | .liveLine => ⟨true, false, true, false, false⟩
  | .breakerFail => Actions.none
  | .breakerNotReady => Actions.none
  | .fireStale => Actions.none
  | .fireRegime => Actions.none
  | .earthFaultStanding => Actions.none
  | .stationSilent => Actions.none
  | .hostHold => Actions.none

/-- The default modes and added actions of Table 6.3. -/
def defaultActionTable : CondTable ActionEntry where
  sampleLoss := ⟨.live, Actions.none⟩
  integrity := ⟨.sticky, Actions.none⟩
  breakerFail := ⟨.sticky, ⟨true, false, false, false, true⟩⟩
  closeFail := ⟨.sticky, Actions.none⟩
  breakerNotReady := ⟨.live, ⟨false, true, false, false, false⟩⟩
  fireStale := ⟨.live, ⟨false, false, false, false, true⟩⟩
  fireRegime := ⟨.live, Actions.none⟩
  huntActive := ⟨.live, Actions.none⟩
  earthFaultStanding := ⟨.live, ⟨false, false, false, false, true⟩⟩
  stationSilent := ⟨.live, ⟨false, false, false, true, false⟩⟩
  liveLine := ⟨.live, Actions.none⟩
  hostHold := ⟨.live, ⟨false, true, false, false, false⟩⟩

/-- The index of the built-in group S (R54). Stored groups have the indices 0 to 3. -/
def groupSIndex : Nat := 7

/-- The content of the PLANT image (Table 3.3). A regime map entry is a group index: 0 to 3 in a stored
image, `groupSIndex` in the defaults (R53). -/
structure Plant where
  tripTimeout : Nat
  closeTimeout : Nat
  season : Bool
  defaultValidity : Nat
  regimeMap : List Nat
  alarmRank : Nat
  actions : CondTable ActionEntry
  takeTimeout : Nat
  pollInterval : Nat
  replyWait : Nat
  silentCount : Nat
  switchWait : Nat
  essentialBase : Nat
  productionBase : Nat
  loweringStep : Nat
  deriving DecidableEq, Repr

/-- The built-in PLANT defaults of Table 3.8. -/
def plantDefaults : Plant where
  tripTimeout := 150
  closeTimeout := 300
  season := true
  defaultValidity := 240
  regimeMap := [7, 7, 7, 7, 7, 7]
  alarmRank := 4
  actions := defaultActionTable
  takeTimeout := 50
  pollInterval := 10
  replyWait := 1000
  silentCount := 3
  switchWait := 10
  essentialBase := 10
  productionBase := 20
  loweringStep := 5

/-- The role of a line station (Table 3.4). -/
inductive Role where
  | sectionaliser
  | drivePanel
  deriving DecidableEq, Repr

/-- One entry of the STATIONS image. -/
structure StationEntry where
  address : Nat
  role : Role
  deriving DecidableEq, Repr

/-- The class of a drive (Table 3.7). -/
inductive DriveClass where
  | essential
  | production
  deriving DecidableEq, Repr

/-- One entry of the DRIVES image. Station 0 means that requests come from the host. -/
structure DriveEntry where
  drive : Nat
  station : Nat
  cls : DriveClass
  windowLength : Nat
  lifetime : Nat
  deriving DecidableEq, Repr

/-- One step of the HUNT image. -/
structure HuntStep where
  station : Nat
  dwell : Nat
  deriving DecidableEq, Repr

/-- One point of a curve (Table 2.4). -/
structure CurvePoint where
  threshold : Nat
  rate : Nat
  deriving DecidableEq, Repr

/-- The content of a curve: sixteen points and the reset rate (Table 2.4). -/
structure Curve where
  points : List CurvePoint
  resetRate : Nat
  deriving DecidableEq, Repr

/-- The settings of an inverse-time element. -/
structure TimeElement where
  enabled : Bool
  pickup : Nat
  startPickup : Nat
  curve : Nat
  tms : Nat
  eligible : Bool
  deriving DecidableEq, Repr

/-- The settings of a definite-time phase or earth element. -/
structure HighElement where
  enabled : Bool
  pickup : Nat
  startPickup : Nat
  delay : Nat
  eligible : Bool
  deriving DecidableEq, Repr

/-- What the sensitive earth-fault element does on operation (Table 2.1). -/
inductive SefMode where
  | trip
  | hunt
  | alarm
  deriving DecidableEq, Repr

/-- The settings of the sensitive earth-fault element. -/
structure SefElement where
  enabled : Bool
  pickup : Nat
  vnPickup : Nat
  delay : Nat
  mode : SefMode
  deriving DecidableEq, Repr

/-- The content of a settings group (Table 3.5). EF_TIME and EF_HIGH have no start pickup: their field repeats
the pickup and nothing reads it (R29). `quietLevel` and `huntClear` are absent in group S (Table 3.9). -/
structure GroupSettings where
  revision : Nat
  rank : Nat
  phTime : TimeElement
  phHigh : HighElement
  efTime : TimeElement
  efHigh : HighElement
  sef : SefElement
  shotLimit : Nat
  deadTimes : List Nat
  reclaim : Nat
  maxHold : Nat
  startsAllowed : Bool
  quietLevel : Option Nat
  huntEnabled : Bool
  huntClear : Option Nat
  deriving DecidableEq, Repr

/-- Group S (R54, Table 3.9). A disabled inverse-time element uses none of its other fields. -/
def groupS : GroupSettings where
  revision := 0
  rank := 5
  phTime := ⟨false, 0, 0, 0, 0, false⟩
  phHigh := ⟨true, 1600, 1600, 10, false⟩
  efTime := ⟨false, 0, 0, 0, 0, false⟩
  efHigh := ⟨true, 200, 200, 10, false⟩
  sef := ⟨true, 40, 0, 300, .trip⟩
  shotLimit := 0
  deadTimes := [10000, 10000, 10000, 10000]
  reclaim := 10000
  maxHold := 0
  startsAllowed := false
  quietLevel := none
  huntEnabled := false
  huntClear := none

/-- The in-force set: the content of the active group and of each curve it uses (Table 3.11). -/
structure InForce where
  settings : GroupSettings
  phCurve : Option Curve
  efCurve : Option Curve
  deriving DecidableEq, Repr

/-- The twelve images in scan order (Table 3.1). -/
inductive ImageId where
  | plant
  | stations
  | curve0
  | curve1
  | curve2
  | curve3
  | group0
  | group1
  | group2
  | group3
  | hunt
  | drives
  deriving DecidableEq, Repr

/-- All images in scan order. -/
def ImageId.all : List ImageId :=
  [.plant, .stations, .curve0, .curve1, .curve2, .curve3, .group0, .group1, .group2, .group3, .hunt, .drives]

/-- The image scanned after this one: after DRIVES comes PLANT again (R48). -/
def ImageId.next : ImageId → ImageId
  | .plant => .stations
  | .stations => .curve0
  | .curve0 => .curve1
  | .curve1 => .curve2
  | .curve2 => .curve3
  | .curve3 => .group0
  | .group0 => .group1
  | .group1 => .group2
  | .group2 => .group3
  | .group3 => .hunt
  | .hunt => .drives
  | .drives => .plant

/-- The kind byte of an image header (R179). -/
def ImageId.kind : ImageId → Nat
  | .plant => 1
  | .stations => 2
  | .curve0 => 3
  | .curve1 => 3
  | .curve2 => 3
  | .curve3 => 3
  | .group0 => 4
  | .group1 => 4
  | .group2 => 4
  | .group3 => 4
  | .hunt => 5
  | .drives => 6

/-- The index byte of an image header (Table 3.1). -/
def ImageId.index : ImageId → Nat
  | .curve1 => 1
  | .curve2 => 2
  | .curve3 => 3
  | .group1 => 1
  | .group2 => 2
  | .group3 => 3
  | .plant => 0
  | .stations => 0
  | .curve0 => 0
  | .group0 => 0
  | .hunt => 0
  | .drives => 0

/-- The image a kind and an index name, or nothing when Table 3.1 has none. -/
def ImageId.ofKindIndex (kind index : Nat) : Option ImageId :=
  ImageId.all.find? fun i => i.kind == kind && i.index == index

/-- The image of stored group `g`. -/
def ImageId.ofGroup (g : Nat) : Option ImageId := ImageId.ofKindIndex 4 g

/-- The image of curve `k`. -/
def ImageId.ofCurve (k : Nat) : Option ImageId := ImageId.ofKindIndex 3 k

/-- One value for each image: "exactly twelve records in scan position order" (section 3.1). -/
structure ImageTable (α : Type) where
  plant : α
  stations : α
  curve0 : α
  curve1 : α
  curve2 : α
  curve3 : α
  group0 : α
  group1 : α
  group2 : α
  group3 : α
  hunt : α
  drives : α
  deriving DecidableEq, Repr

/-- The value of one image. -/
def ImageTable.get {α : Type} (t : ImageTable α) : ImageId → α
  | .plant => t.plant
  | .stations => t.stations
  | .curve0 => t.curve0
  | .curve1 => t.curve1
  | .curve2 => t.curve2
  | .curve3 => t.curve3
  | .group0 => t.group0
  | .group1 => t.group1
  | .group2 => t.group2
  | .group3 => t.group3
  | .hunt => t.hunt
  | .drives => t.drives

/-- The table with one image's value replaced. -/
def ImageTable.set {α : Type} (t : ImageTable α) (i : ImageId) (v : α) : ImageTable α :=
  match i with
  | .plant => { t with plant := v }
  | .stations => { t with stations := v }
  | .curve0 => { t with curve0 := v }
  | .curve1 => { t with curve1 := v }
  | .curve2 => { t with curve2 := v }
  | .curve3 => { t with curve3 := v }
  | .group0 => { t with group0 := v }
  | .group1 => { t with group1 := v }
  | .group2 => { t with group2 := v }
  | .group3 => { t with group3 := v }
  | .hunt => { t with hunt := v }
  | .drives => { t with drives := v }

/-- The same function on all twelve images. -/
def ImageTable.map {α β : Type} (f : α → β) (t : ImageTable α) : ImageTable β :=
  ⟨f t.plant, f t.stations, f t.curve0, f t.curve1, f t.curve2, f t.curve3, f t.group0, f t.group1, f t.group2,
   f t.group3, f t.hunt, f t.drives⟩

end Sys2Proof.Machine
end

