-- ==== Sys2Proof/Machine/Types.lean ====
section
/-! DEFINITION. The records that each block of the LDV340 owns, as plain data, and the reports and replies it
creates. Names follow the tables of the manual; State.lean puts the blocks together. -/

namespace Sys2Proof.Machine

/-! ## Chapter 1: sample port and measurement unit -/

/-- Sample port states (Table 1.2). -/
inductive PortState where
  | start
  | tracking
  | lost
  deriving DecidableEq, Repr

/-- The sample port's items (section 1.1.2). -/
structure SamplePort where
  state : PortState
  lastSeq : Option (BitVec 4)
  lastArrival : Time
  deriving DecidableEq, Repr

/-- One window entry: a sample value in codes and its clip mark (section 1.2, R2). -/
structure Sample where
  value : Int
  clip : Bool
  deriving DecidableEq, Repr

/-- The fourteen squared multiples of Table 1.4; an absent one is `none`. -/
structure Multiples where
  phTime : Three (Option Nat)
  phHigh : Three (Option Nat)
  efTime : Option Nat
  efHigh : Option Nat
  sef : Option Nat
  sefVn : Option Nat
  huntClear : Option Nat
  quiet : Three (Option Nat)
  deriving DecidableEq, Repr

/-- The latest evaluation record (R13). -/
structure EvalRecord where
  present : Bool
  time : Time
  group : Nat
  startPickups : Bool
  e : Five Nat
  clipped : Five Bool
  q : Multiples
  deriving DecidableEq, Repr

/-- The measurement unit's state (Table 1.3). A window lists its entries oldest first. -/
structure Measurement where
  windows : Five (List Sample)
  sums : Five Nat
  fill : Nat
  phase : Nat
  latest : EvalRecord
  deriving DecidableEq, Repr

/-! ## Chapter 2: protection unit -/

/-- Protection elements (Table 2.1). -/
inductive Element where
  | phTime
  | efTime
  | phHigh
  | efHigh
  | sef
  deriving DecidableEq, Repr

/-- Channels on which elements work. -/
inductive Channel where
  | ia
  | ib
  | ic
  | inn
  deriving DecidableEq, Repr

/-- The protection unit's state (Table 2.2); EARTH_FAULT_STANDING stands in the condition records. -/
structure Protection where
  phTime : Three Nat
  efTime : Nat
  phHigh : Three Nat
  efHigh : Nat
  sef : Nat
  sefOperated : Bool
  suspended : Bool
  deriving DecidableEq, Repr

/-- One entry of a trip (R31). -/
structure TripEntry where
  element : Element
  channel : Channel
  q : Nat
  deriving DecidableEq, Repr

/-- A trip as issued (R31). -/
structure Trip where
  entries : List TripEntry
  eligible : Bool
  group : Nat
  revision : Nat
  startPickups : Bool
  time : Time
  deriving DecidableEq, Repr

/-! ## Chapter 3: settings store and regime unit -/

/-- Last check result (Table 3.2). -/
inductive CheckResult where
  | notChecked
  | good
  | mismatch
  | notPresent
  deriving DecidableEq, Repr

/-- A nonvolatile backing copy. `spoiled k` is a copy whose content will fail its check when it is next
loaded (R46); what it holds is the free value `Config.spoiledContent k`. -/
inductive Backing where
  | unwritten
  | written (content : List Byte) (crc : Word16)
  | spoiled (k : Nat)
  deriving DecidableEq, Repr

/-- One image: its directory record (Table 3.2), its working copy (header and content, R179) and its backing
copy. The working copy of an image that is not present is empty. -/
structure Image where
  present : Bool
  valid : Bool
  retained : Bool
  revision : Option Nat
  storedCrc : Word16
  lastCheck : CheckResult
  working : List Byte
  backing : Backing
  deriving DecidableEq, Repr

/-- The directory record of an image as READ_IMAGE and READ_STATUS return it (Table 3.2). -/
structure DirRecord where
  image : ImageId
  present : Bool
  valid : Bool
  retained : Bool
  revision : Option Nat
  storedCrc : Word16
  lastCheck : CheckResult
  deriving DecidableEq, Repr

/-- A backing write in flight: the image, and the content and CRC being copied (R46). -/
structure BackingWrite where
  image : ImageId
  content : List Byte
  crc : Word16
  started : Time
  deriving DecidableEq, Repr

/-- The settings store (sections 3.1 and 3.4). -/
structure Store where
  images : ImageTable Image
  write : Option BackingWrite
  scanPos : ImageId
  checking : Option ImageId
  deriving DecidableEq, Repr

/-- Fire level state (Table 3.10). -/
structure FireLevel where
  level : Option Nat
  setTime : Time
  validity : Nat
  expired : Bool
  effective : Nat
  deriving DecidableEq, Repr

/-- Why the candidate is S when the selection was a stored group (Table 3.11). -/
inductive Fallback where
  | notPresent
  | invalid
  | curveUnfit
  | rankLow
  deriving DecidableEq, Repr

/-- The regime unit (Tables 3.10 and 3.11) with the refresh mark of R47. Groups are indices; `override` is
`none` for AUTO. -/
structure Regime where
  fire : FireLevel
  override : Option Nat
  candidate : Nat
  fallback : Option Fallback
  pending : Option Nat
  active : Nat
  inForce : InForce
  refreshGroup : Bool
  refreshCurve : Bool
  deriving DecidableEq, Repr

/-! ## Chapter 4: breaker interface -/

/-- Accepted breaker states (Table 4.1). -/
inductive BreakerPos where
  | none
  | closed
  | opened
  | travel
  | faulty
  deriving DecidableEq, Repr

/-- Accepted ready states (Table 4.1). -/
inductive ReadyState where
  | none
  | active
  | inactive
  deriving DecidableEq, Repr

/-- Origin of a trip. -/
inductive TripOrigin where
  | protection
  | manual
  deriving DecidableEq, Repr

/-- Origin of a close. -/
inductive CloseOrigin where
  | automatic
  | manual
  deriving DecidableEq, Repr

/-- Trip memo (Table 4.1). -/
structure TripMemo where
  origin : TripOrigin
  time : Time
  deriving DecidableEq, Repr

/-- Close memo (Table 4.1). -/
structure CloseMemo where
  origin : CloseOrigin
  time : Time
  deriving DecidableEq, Repr

/-- The breaker interface (Table 4.1). A timer is its loaded value, or `none` when stopped; it runs from its
memo's request time (R70, R72). The scans hold (BKR_A, BKR_B) and BKR_READY. -/
structure Breaker where
  prevPos : Option (Bool × Bool)
  accepted : BreakerPos
  prevReady : Option Bool
  ready : ReadyState
  tripOut : Bool
  closeOut : Bool
  tripMemo : Option TripMemo
  closeMemo : Option CloseMemo
  tripTimer : Option Nat
  closeTimer : Option Nat
  deriving DecidableEq, Repr

/-- Origin of a breaker change (R66). -/
inductive ChangeOrigin where
  | trip
  | close
  | external
  | initial
  deriving DecidableEq, Repr

/-- Result of a trip request (R68). -/
inductive TripResult where
  | asserted
  | alreadyAsserted
  | alreadyOpen
  deriving DecidableEq, Repr

/-- Refusal reasons of a close request (R71). -/
inductive CloseRefusal where
  | tripActive
  | hardBlock
  | notOpen
  | alreadyAsserted
  deriving DecidableEq, Repr

/-! ## Chapter 5: reclose sequencer -/

/-- Sequencer states (Table 5.1). -/
inductive SeqState where
  | ready
  | opening
  | deadTime
  | closing
  | reclaim
  | lockout
  deriving DecidableEq, Repr

/-- Lockout causes with their details (Table 5.3). -/
inductive LockoutCause where
  | notEligible
  | shotsUsed (shots limit : Nat)
  | hardBlock (reason : Cond)
  | holdExceeded (used limit : Nat)
  | breakerFail
  | closeFail (origin : CloseOrigin)
  | closeRefused (reason : CloseRefusal)
  | externalOpen
  | manualTrip
  | unsequencedTrip
  | powerOnOpen
  deriving DecidableEq, Repr

/-- The last trip record (Table 5.2). -/
structure LastTrip where
  origin : TripOrigin
  eligible : Bool
  time : Time
  group : Nat
  deriving DecidableEq, Repr

/-- The sequencer record (Table 5.2). `closedLast` is the model's own: whether the latest accepted CLOSED or
OPEN was CLOSED, which R91 needs to tell a closing from a return to CLOSED (assumption log entry 8). -/
structure Sequencer where
  state : SeqState
  shots : Nat
  loaded : Option Nat
  remaining : Option Nat
  held : Bool
  holdUsed : Nat
  lastTrip : Option LastTrip
  closeOrigin : Option CloseOrigin
  closeWithdrawn : Bool
  cause : Option LockoutCause
  posAwaited : Bool
  closedLast : Bool
  deriving DecidableEq, Repr

/-- Events of a SEQUENCE report (R99). -/
inductive SeqEvent where
  | protectionTrip
  | manualTrip
  | openAccepted
  | breakerFail
  | expiry
  | closedOk
  | closeTimeout
  | closeRefused
  | hardReason
  | holdExceeded
  | groupChange
  | externalChange
  | manualClose
  | resetLockout
  | initial
  deriving DecidableEq, Repr

/-! ## Chapter 6: condition monitor -/

/-- A condition record (Table 6.2); the number is the record's place in the table, and "in force" is
`CondRec.inForce` in Flags.lean. -/
structure CondRec where
  active : Bool
  latched : Bool
  mode : Mode
  actions : Actions
  deriving DecidableEq, Repr

/-- The condition monitor: the twelve records, the block set as two sets in number order, the bars and the
pin ALARM_OUT (section 6.3). -/
structure Monitor where
  recs : CondTable CondRec
  hard : List Cond
  hold : List Cond
  startBar : Bool
  huntBar : Bool
  alarm : Bool
  deriving DecidableEq, Repr

/-- Cause of a CONDITION report (R112). -/
inductive CondCause where
  | owner
  | table
  | ack
  deriving DecidableEq, Repr

/-! ## Chapter 7: pilot bus controller -/

/-- Down message classes, in arbiter order (Table 7.5). -/
inductive DownClass where
  | hunt
  | admission
  | host
  | poll
  deriving DecidableEq, Repr

/-- Down message kinds (Table 7.3). -/
inductive DownKind where
  | query
  | openSwitch
  | closeSwitch
  | grant
  | release
  deriving DecidableEq, Repr

/-- A down message (R117). -/
structure DownMessage where
  cls : DownClass
  dest : Nat
  kind : DownKind
  cells : List Word16
  deriving DecidableEq, Repr

/-- A waiting message with the place it took: its class's kept place or an open place (R122). -/
structure QueueEntry where
  msg : DownMessage
  kept : Bool
  deriving DecidableEq, Repr

/-- Down stages (Table 7.4). -/
inductive DownStage where
  | freeChannel
  | offering
  | ending
  deriving DecidableEq, Repr

/-- Outcomes of a down message (Table 7.4). -/
inductive DownOutcome where
  | delivered
  | refused
  | noTake
  deriving DecidableEq, Repr

/-- Down channel state (Table 7.4). -/
structure DownChannel where
  stage : DownStage
  msg : Option DownMessage
  cell : Nat
  phase : Bool
  echoLooks : Nat
  echoSeen : Bool
  idleLooks : Nat
  slotsOffered : Nat
  loadedTake : Nat
  endingLeft : Nat
  outcome : Option DownOutcome
  deriving DecidableEq, Repr

/-- Up stages (Table 7.6). -/
inductive UpStage where
  | openToContest
  | holding
  | refusing
  | closed
  deriving DecidableEq, Repr

/-- The cool-down of the last holder (R130). -/
structure CoolDown where
  address : Nat
  left : Nat
  deriving DecidableEq, Repr

/-- Up channel state (Table 7.6). `look` is the first look of a pair: the cell and its phase. The model's own:
`complete` marks a message that has ended with its declared count and awaits its delivery in the same
slot event, `refusalShown` says that a refusing slot has been settled (assumption log entries 6, 7). -/
structure UpChannel where
  stage : UpStage
  holder : Option Nat
  cells : List Word16
  declared : Option Nat
  lastPhase : Option Bool
  look : Option (Word16 × Bool)
  idleLooks : Nat
  noProgress : Nat
  refusingLeft : Nat
  refusalShown : Bool
  coolDown : Option CoolDown
  complete : Bool
  deriving DecidableEq, Repr

/-- The content of a down half that the part settles (Table 7.1). -/
structure DownHalf where
  free : Bool
  holder : Nat
  offer : Bool
  phase : Bool
  cell : Word16
  upTake : Bool
  upTakePhase : Bool
  deriving DecidableEq, Repr

/-- Presence of a station (Table 7.7). -/
inductive Presence where
  | unknown
  | present
  | silent
  deriving DecidableEq, Repr

/-- Switch state of a station (Table 7.7). -/
inductive SwitchState where
  | unknown
  | opened
  | closed
  deriving DecidableEq, Repr

/-- Answer state of a station (R133). -/
inductive AnswerState where
  | none
  | inFlight
  | answered
  | waiting (deadline : Time)
  deriving DecidableEq, Repr

/-- Station runtime record (Table 7.7). -/
structure Station where
  address : Nat
  role : Role
  presence : Presence
  switch : SwitchState
  indicator : Bool
  lock : Bool
  missed : Nat
  answer : AnswerState
  hostMark : Bool
  openedByHunt : Bool
  deriving DecidableEq, Repr

/-- The pilot bus controller: both channels, the down queue in joining order, the down half now on the pair
(absent before slot 2), the poll timer and cursor (R132) and the station table. -/
structure Pilot where
  down : DownChannel
  queue : List QueueEntry
  up : UpChannel
  half : Option DownHalf
  pollRemaining : Nat
  cursor : Option Nat
  stations : List Station
  deriving DecidableEq, Repr

/-- Query result of a STATION report (R135). -/
inductive QueryResult where
  | answered
  | unanswered
  deriving DecidableEq, Repr

/-- The station fields of one part of a STATION report (Table 7.8). -/
structure StationView where
  time : Time
  presence : Presence
  switch : SwitchState
  indicator : Bool
  lock : Bool
  deriving DecidableEq, Repr

/-! ## Chapter 8: hunt controller -/

/-- A millisecond timer with its loaded value. -/
structure MsTimer where
  loaded : Nat
  remaining : Nat
  deriving DecidableEq, Repr

/-- Hunt states (Table 8.1). -/
inductive HuntState where
  | idle
  | deferred
  | opening
  | dwell
  | restoring
  | settling
  deriving DecidableEq, Repr

/-- What started a hunt. -/
inductive HuntOrigin where
  | sef
  | host
  deriving DecidableEq, Repr

/-- Step phases (Table 8.2). -/
inductive StepPhase where
  | held
  | sent
  | answerWait
  deriving DecidableEq, Repr

/-- The one pilot message of the hunt controller in the queue or on the channel (Table 8.2, R148). -/
structure HuntMessage where
  kind : DownKind
  station : Nat
  inFlight : Bool
  stale : Bool
  deriving DecidableEq, Repr

/-- Step results (Table 8.3). -/
inductive StepResult where
  | cleared
  | persists
  | noResponse
  | refused
  | restoreFailed
  | interrupted
  deriving DecidableEq, Repr

/-- Step record (Table 8.3). -/
structure StepRecord where
  number : Nat
  station : Nat
  result : StepResult
  time : Time
  judgedQ : Option Nat
  pointTime : Option Time
  deriving DecidableEq, Repr

/-- Outcomes of a hunt (Table 8.6). -/
inductive HuntOutcome where
  | found
  | notFound
  | aborted
  | notStarted
  deriving DecidableEq, Repr

/-- Causes of an aborted hunt (Table 8.4). -/
inductive AbortCause where
  | trip
  | huntBar
  | stop
  | group
  | restoreFailed
  | breakerNotClosed
  deriving DecidableEq, Repr

/-- NOT_STARTED reasons (Table 8.5). -/
inductive NotStarted where
  | notIdle
  | huntDisabled
  | planUnfit
  | stationsUnfit
  | huntBar
  | sequencerNotReady
  | breakerNotClosed
  deriving DecidableEq, Repr

/-- The cause field of the last-result record (Table 8.4). -/
inductive HuntCause where
  | abort (c : AbortCause)
  | notStarted (r : NotStarted)
  deriving DecidableEq, Repr

/-- Last-result record (Table 8.4). -/
structure LastResult where
  outcome : HuntOutcome
  cause : Option HuntCause
  bars : Option (List Cond)
  origin : Option HuntOrigin
  startTime : Option Time
  endTime : Time
  planLength : Option Nat
  stepsDone : Nat
  leftOpen : Option Nat
  unsettled : Option Nat
  indicators : List Nat
  deriving DecidableEq, Repr

/-- Hunt controller state (Table 8.2), with the start time (R142) and the judgement kept for the step record
(R146). -/
structure Hunt where
  state : HuntState
  origin : Option HuntOrigin
  plan : Option (List HuntStep)
  step : Nat
  phase : Option StepPhase
  switchTimer : Option MsTimer
  dwellTimer : Option MsTimer
  openStation : Option Nat
  outstanding : Option HuntMessage
  indicators : List Nat
  results : List StepRecord
  last : Option LastResult
  startTime : Option Time
  judgedQ : Option Nat
  pointTime : Option Time
  deriving DecidableEq, Repr

/-! ## Chapter 9: start admission unit -/

/-- Level of a drive (Table 9.1). -/
inductive Level where
  | normal
  | lowered
  deriving DecidableEq, Repr

/-- State of a drive's start (Table 9.1). -/
inductive DriveRequest where
  | none
  | pending (arrival deadline : Time)
  | window
  deriving DecidableEq, Repr

/-- Drive runtime record (Table 9.1). -/
structure Drive where
  drive : Nat
  station : Nat
  cls : DriveClass
  windowLength : Nat
  lifetime : Nat
  level : Level
  request : DriveRequest
  deriving DecidableEq, Repr

/-- Second state (Table 9.2). -/
inductive SecondState where
  | empty
  | quiet
  | spoiled
  deriving DecidableEq, Repr

/-- Grant state of a window (Table 9.2). -/
inductive GrantState where
  | hostDrive
  | held
  | waiting
  | inFlight
  | delivered
  deriving DecidableEq, Repr

/-- The open start window (Table 9.2). -/
structure StartWindow where
  drive : Nat
  station : Nat
  opened : Time
  loaded : Nat
  remaining : Nat
  grant : GrantState
  deriving DecidableEq, Repr

/-- The one pilot message of the admission unit (Table 9.2, R164); `kind` is GRANT or RELEASE. -/
structure StartMessage where
  kind : DownKind
  drive : Nat
  station : Nat
  inFlight : Bool
  stale : Bool
  deriving DecidableEq, Repr

/-- A RELEASE to be queued when the outstanding message ends (Table 9.2). -/
structure ReleaseDue where
  drive : Nat
  station : Nat
  deriving DecidableEq, Repr

/-- Admission unit state (Tables 9.1 and 9.2). -/
structure Admission where
  drives : List Drive
  queue : List Nat
  quiet : Nat
  second : SecondState
  window : Option StartWindow
  outstanding : Option StartMessage
  releaseDue : Option ReleaseDue
  deriving DecidableEq, Repr

/-- Events of a START report (R166). -/
inductive StartEvent where
  | requested
  | rejected
  | expired
  | withdrawn
  | granted
  | ended
  | releaseUndelivered
  deriving DecidableEq, Repr

/-- Causes and reasons of a START report (R166). -/
inductive StartCause where
  | drivesUnfit
  | unknownDrive
  | wrongStation
  | cancelled
  | abandoned
  | removed
  | expired
  | done
  | tripped
  | breakerChange
  | grantUndelivered
  deriving DecidableEq, Repr

/-! ## Reports -/

/-- The restart check of one image in START_UP and PASS (R51, R178). -/
structure PassEntry where
  present : Bool
  valid : Bool
  retained : Bool
  lastCheck : CheckResult
  deriving DecidableEq, Repr

/-- Cause of a full restart (R178). -/
inductive RestartCause where
  | powerOn
  | pin
  | command
  deriving DecidableEq, Repr

/-- START_UP (R178). -/
structure StartUpReport where
  time : Time
  cause : RestartCause
  lineRate : Nat
  images : ImageTable PassEntry
  group : Nat
  revision : Nat
  fallback : Option Fallback
  season : Bool
  effective : Nat
  deriving DecidableEq, Repr

/-- TRIP (R31, R32). It carries the whole trip, eligibility included (assumption log entry 49). -/
structure TripReport where
  trip : Trip
  shots : Nat
  deriving DecidableEq, Repr

/-- SEQUENCE (R99). -/
structure SequenceReport where
  time : Time
  previous : SeqState
  state : SeqState
  event : SeqEvent
  shots : Nat
  loaded : Option Nat
  cause : Option LockoutCause
  breaker : BreakerPos
  origin : Option ChangeOrigin
  group : Nat
  revision : Nat
  deriving DecidableEq, Repr

/-- CONDITION (R112). -/
structure ConditionReport where
  time : Time
  cond : Cond
  cause : CondCause
  active : Bool
  latched : Bool
  inForce : Bool
  mode : Mode
  actions : Actions
  hard : List Cond
  hold : List Cond
  startBar : Bool
  huntBar : Bool
  alarm : Bool
  deriving DecidableEq, Repr

/-- Cause of a taking-into-force (R62). -/
inductive GroupCause where
  | newGroup
  | reloaded
  | curveReloaded
  deriving DecidableEq, Repr

/-- GROUP (R60, R62). -/
inductive GroupReport where
  | taken (time : Time) (group revision previous previousRevision effective : Nat) (byOverride : Bool)
      (fallback : Option Fallback) (cause : GroupCause)
  | overrideCancelled (time : Time) (group rank effective : Nat)
  deriving DecidableEq, Repr

/-- IMAGE (R46, R50, R51). -/
inductive ImageReport where
  | stored (image : ImageId)
  | writeFailed (image : ImageId)
  | mismatch (image : ImageId)
  | pass (results : ImageTable PassEntry)
  deriving DecidableEq, Repr

/-- HUNT_STEP (R147). -/
structure HuntStepReport where
  time : Time
  record : StepRecord
  step : Nat
  planLength : Nat
  deriving DecidableEq, Repr

/-- START (R166). A source of 0 is HOST. `window` is the loaded length and the time it was open. -/
structure StartReport where
  time : Time
  drive : Nat
  event : StartEvent
  cause : Option StartCause
  source : Option Nat
  level : Option Level
  request : Option DriveRequest
  requirement : Option Nat
  quiet : Nat
  window : Option (Nat × Nat)
  deriving DecidableEq, Repr

/-- STATION (Table 7.8). -/
structure StationReport where
  address : Nat
  first : StationView
  latest : StationView
  query : Option QueryResult
  deriving DecidableEq, Repr

/-- OVERRUN (R172). -/
structure OverrunReport where
  time : Time
  lost : Nat
  firstLoss : Time
  deriving DecidableEq, Repr

/-- A report (Table 10.3), by its kind. -/
inductive Report where
  | startUp (r : StartUpReport)
  | trip (r : TripReport)
  | sequence (r : SequenceReport)
  | condition (r : ConditionReport)
  | group (r : GroupReport)
  | image (time : Time) (r : ImageReport)
  | huntStep (r : HuntStepReport)
  | huntEnd (time : Time) (r : LastResult)
  | start (r : StartReport)
  | station (r : StationReport)
  | overrun (r : OverrunReport)
  deriving DecidableEq, Repr

/-! ## Replies -/

/-- Reply statuses (Table 10.2). -/
inductive Status where
  | ok
  | accepted
  | busy
  | refused
  | badArgument
  | badKind
  | badCheck
  | queueFull
  deriving DecidableEq, Repr

/-- Reason codes (Table 10.6). -/
inductive Reason where
  | notPresent
  | invalid
  | curveUnfit
  | rankLow
  | state
  | notOpen
  | hardBlock
  | hold
  | mechanismNotReady
  | tripActive
  | alreadyAsserted
  | notInLockout
  | noPosition
  | notIdle
  | huntDisabled
  | planUnfit
  | stationsUnfit
  | huntBar
  | sequencerNotReady
  | breakerNotClosed
  | notRunning
  | drivesUnfit
  | stationDrive
  | notPending
  | outputActive
  deriving DecidableEq, Repr

/-- The breaker interface items of READ_STATUS (R76): a timer's remaining time, or `none` when stopped. -/
structure BreakerStatus where
  accepted : BreakerPos
  ready : ReadyState
  tripOut : Bool
  closeOut : Bool
  tripMemo : Option TripMemo
  closeMemo : Option CloseMemo
  tripRemaining : Option Nat
  closeRemaining : Option Nat
  deriving DecidableEq, Repr

/-- READ_STATUS section 1 (R174). -/
structure SystemStatus where
  time : Time
  seq : Sequencer
  breaker : BreakerStatus
  active : Nat
  activeRevision : Nat
  pending : Option (Nat × Nat)
  candidate : Nat
  fallback : Option Fallback
  override : Option Nat
  fire : FireLevel
  season : Bool
  lostRecords : Nat
  deriving DecidableEq, Repr

/-- READ_STATUS section 2: the records with their in-force fields, and the derived state. -/
structure ConditionStatus where
  time : Time
  recs : CondTable (CondRec × Bool)
  hard : List Cond
  hold : List Cond
  startBar : Bool
  huntBar : Bool
  alarm : Bool
  deriving DecidableEq, Repr

/-- READ_STATUS section 3. -/
structure ImageStatus where
  time : Time
  directory : List DirRecord
  scanPos : ImageId
  checking : Option ImageId
  write : Option ImageId
  deriving DecidableEq, Repr

/-- READ_STATUS section 4. -/
structure StationStatus where
  time : Time
  stations : List Station
  downStage : DownStage
  upStage : UpStage
  holder : Option Nat
  inFlight : Option DownMessage
  queue : List (DownClass × Nat)
  cursor : Option Nat
  deriving DecidableEq, Repr

/-- READ_STATUS section 5 (R153), with each station's opened-by-hunt flag. -/
structure HuntStatus where
  time : Time
  state : HuntState
  origin : Option HuntOrigin
  step : Nat
  phase : Option StepPhase
  switchRemaining : Option Nat
  dwellRemaining : Option Nat
  openStation : Option Nat
  outstanding : Option HuntMessage
  plan : Option (List HuntStep)
  results : List StepRecord
  last : Option LastResult
  openedFlags : List (Nat × Bool)
  deriving DecidableEq, Repr

/-- READ_STATUS section 6 (R166). -/
structure AdmissionStatus where
  time : Time
  admission : Admission
  deriving DecidableEq, Repr

/-- What a reply carries after its status byte (R174, Table 10.5), by its kind. -/
inductive ReplyBody where
  | empty
  | bytes (data : List Byte)
  | system (s : SystemStatus)
  | conditions (s : ConditionStatus)
  | images (s : ImageStatus)
  | stations (s : StationStatus)
  | hunt (s : HuntStatus)
  | admission (s : AdmissionStatus)
  | measure (record : EvalRecord) (protection : Protection)
  | image (dir : DirRecord) (content : Option (List Byte)) (defaults : Option (List Byte))
  /-- BAD_ARGUMENT: the field number, then the command's own content. -/
  | field (number : Nat) (content : ReplyBody)
  /-- REFUSED: the reason code, the condition it names if any, then the command's own content. -/
  | reason (r : Reason) (condition : Option Cond) (content : ReplyBody)
  | loadResult (kind index : Nat) (field contradicted : Option Nat)
  | fireLevel (level : Option Nat) (validity effective : Nat)
  | group (override pending : Option Nat)
  | tripResult (r : TripResult) (state : SeqState)
  | seqState (s : SeqState)
  | lockoutReset (s : SeqState) (hard : List Cond)
  | permit (active latched inForce : Bool) (hard hold : List Cond)
  | acknowledged (yes no hard hold : List Cond)
  | huntState (s : HuntState)
  | huntStopped (s : HuntState) (last : Option LastResult)
  | startPending (alreadyPending : Bool) (level : Level) (requirement quiet : Nat)
  | startCancelled (request : DriveRequest) (level : Level)
  | address (station : Nat)
  | mask (m : Word16)
  | kind (k : Byte)
  deriving DecidableEq, Repr

/-- A reply's status and content; a NAK has neither (R169). -/
structure Reply where
  status : Option Status
  body : ReplyBody
  deriving DecidableEq, Repr

/-! ## Chapter 10: record interface -/

/-- Stages of the receive parser (R168). -/
inductive ParserStage where
  | syncWait
  | length
  | header
  | payload
  | check
  deriving DecidableEq, Repr

/-- The receive parser: its stage, the fields received so far, and when the last byte came (R168). -/
structure Parser where
  stage : ParserStage
  length : Byte
  header : List Byte
  payload : List Byte
  check : List Byte
  lastByte : Time
  deriving DecidableEq, Repr

/-- A received record (Table 10.1). -/
structure HostRecord where
  length : Byte
  kind : Byte
  tag : Byte
  payload : List Byte
  check : Word16
  deriving DecidableEq, Repr

/-- A command waiting for execution. -/
structure Command where
  kind : Byte
  tag : Byte
  payload : List Byte
  deriving DecidableEq, Repr

/-- The two restart commands (R176, R177). -/
inductive RestartKind where
  | link
  | full
  deriving DecidableEq, Repr

/-- A place of the reply queue: filled when `reply` is present. `restart` marks the OK reply of a restart
command, whose transmission's end acts (R176, R177). -/
structure ReplyPlace where
  kind : Nat
  tag : Byte
  reply : Option Reply
  restart : Option RestartKind
  deriving DecidableEq, Repr

/-- The transmitter: idle, or sending a reply (whose place is still the head of the queue) or a report. -/
inductive Transmitter where
  | idle
  | reply (p : ReplyPlace)
  | report (r : Report)
  deriving DecidableEq, Repr

/-- Whether a restart command holds back execution: not at all, until its reply is sent, or (RESTART FULL)
with its reply sent, until both coil outputs are released (R176, R177). -/
inductive RestartHold where
  | none
  | link
  | full
  | fullSent
  deriving DecidableEq, Repr

/-- The record interface (Table 10.7). `arrived` holds completed records whose judgement (R169) is due. The
permits are the active fields of LIVE_LINE and HOST_HOLD. -/
structure HostIf where
  lineRate : Nat
  parser : Parser
  arrived : List HostRecord
  commands : List Command
  replies : List ReplyPlace
  reports : List Report
  mask : Word16
  overrun : Bool
  lostReports : Nat
  firstLoss : Time
  lostRecords : Nat
  tx : Transmitter
  restart : RestartHold
  deriving DecidableEq, Repr

/-- The model's own: which events of the present 1 ms event are still to be taken (assumption log entry 1).
`inSlot` holds from a slot event to the next 1 ms event. -/
structure Due where
  slot : Bool
  inSlot : Bool
  scan : Bool
  second : Bool
  settle : Bool
  restart : Bool
  /-- The maximum hold that hold time used exceeded at a 1 ms event of this dead time (R85). -/
  holdOver : Option Nat
  deriving DecidableEq, Repr

end Sys2Proof.Machine
end

