-- ==== Sys2Proof/Machine/Operands.lean ====
section
/-! DEFINITION. The bit fields, byte orders and check sequences of what arrives from outside and of what the
part sends: sample frames (Table 1.1), pilot halves and cells (Tables 7.1 to 7.3), CRC-16 (00_scope.md 3.3),
multi-byte fields (00_scope.md 3.4), and the codes of replies, reports and commands (Tables 10.2 to 10.6). -/

namespace Sys2Proof.Machine

/-! ## Check sequences -/

/-- The bits of a word, most significant first. -/
def bitsMsb {n : Nat} (v : BitVec n) : List Bool := (List.range n).map fun i => v.getMsbD i

/-- One bit of CRC-16: generator x^16 + x^12 + x^5 + 1 (00_scope.md 3.3). -/
def crc16Bit (c : Word16) (b : Bool) : Word16 := if c.msb != b then (c <<< 1) ^^^ 0x1021 else c <<< 1

/-- One byte of CRC-16, most significant bit first. -/
def crc16Byte (c : Word16) (b : Byte) : Word16 := (bitsMsb b).foldl crc16Bit c

/-- CRC-16 of a list of bytes: initial value 0xFFFF, no final inversion (00_scope.md 3.3). -/
def crc16 (bs : List Byte) : Word16 := bs.foldl crc16Byte 0xFFFF

/-- One bit of the 8-bit pilot check: generator x^8 + x^2 + x + 1 (R114). -/
def crc8Bit (c : Byte) (b : Bool) : Byte := if c.msb != b then (c <<< 1) ^^^ 0x07 else c <<< 1

/-- The 8-bit pilot check of a list of bits in the order sent: initial value 0, no final inversion (R114). -/
def crc8 (bits : List Bool) : Byte := bits.foldl crc8Bit 0

/-! ## Multi-byte fields, most significant byte first -/

/-- The byte at offset `i`. -/
def u8 (bs : List Byte) (i : Nat) : Nat := (bs.getD i 0).toNat

/-- The 2-byte field at offset `i`. -/
def u16 (bs : List Byte) (i : Nat) : Nat := u8 bs i * 256 + u8 bs (i + 1)

/-- The 4-byte field at offset `i`. -/
def u32 (bs : List Byte) (i : Nat) : Nat := u16 bs i * 65536 + u16 bs (i + 2)

/-- A number as one byte. -/
def byte1 (v : Nat) : List Byte := [BitVec.ofNat 8 v]

/-- A number as two bytes, high byte first. -/
def byte2 (v : Nat) : List Byte := [BitVec.ofNat 8 (v / 256), BitVec.ofNat 8 v]

/-- Two bytes joined to a 16-bit value, high byte first. -/
def word16 (hi lo : Byte) : Word16 := hi ++ lo

/-! ## Sample frames -/

/-- Word `i` (0 to 5) of a 96-bit frame whose first bit is its most significant. -/
def frameWord (frame i : Nat) : Word16 := BitVec.ofNat 16 (frame >>> (16 * (5 - i)))

/-- R1: exactly 96 bits, the marker 0xA5 in bits 15..8 of word 5 and zero in its bits 7..5. -/
def frameWellFormed (nbits frame : Nat) : Bool :=
  nbits == 96 && (frameWord frame 5).extractLsb' 8 8 == 0xA5#8 && (frameWord frame 5).extractLsb' 5 3 == 0#3

/-- A sample set: five samples in codes, the sequence number and the overload flag (Table 1.1). -/
structure SampleSet where
  values : Five Int
  seq : BitVec 4
  overload : Bool
  deriving DecidableEq, Repr

/-- The sample set that a well-formed frame carries. -/
def sampleSetOf (frame : Nat) : SampleSet where
  values :=
    ⟨(frameWord frame 0).toInt, (frameWord frame 1).toInt, (frameWord frame 2).toInt, (frameWord frame 3).toInt,
     (frameWord frame 4).toInt⟩
  seq := (frameWord frame 5).extractLsb' 0 4
  overload := (frameWord frame 5).getLsbD 4

/-! ## Pilot halves -/

/-- The fields of a valid up half (Table 7.1). -/
structure UpHalf where
  contest : Nat
  offer : Bool
  phase : Bool
  cell : Word16
  take : Bool
  takePhase : Bool
  deriving DecidableEq, Repr

/-- The check field of an up half agrees with the check over contest through down-TAKE phase (R114, R116). -/
def upHalfValid (b : BitVec 32) : Bool := crc8 (bitsMsb (b.extractLsb' 8 24)) == b.extractLsb' 0 8

/-- The fields of an up half, or nothing when its check fails: such a half "carries nothing" (R116). -/
def readUpHalf (b : BitVec 32) : Option UpHalf :=
  if upHalfValid b then
    some
      { contest := (b.extractLsb' 28 4).toNat
        offer := b.getLsbD 27
        phase := b.getLsbD 26
        cell := b.extractLsb' 10 16
        take := b.getLsbD 9
        takePhase := b.getLsbD 8 }
  else none

/-- The bits of a down half from FREE through up-TAKE phase, in the order sent (Table 7.1). -/
def downHalfFields (h : DownHalf) : List Bool :=
  [h.free] ++ bitsMsb (BitVec.ofNat 4 h.holder) ++ [h.offer, h.phase] ++ bitsMsb h.cell ++ [h.upTake, h.upTakePhase]

/-- A whole down half as it appears on the pair: the sync pattern 01111110, the fields and their check
(Table 7.1). -/
def downHalfBits (h : DownHalf) : List Bool :=
  bitsMsb (0x7E#8) ++ downHalfFields h ++ bitsMsb (crc8 (downHalfFields h))

/-! ## Pilot cells -/

/-- The address of a header cell, bits 15..12 (Table 7.2). -/
def headerAddress (c : Word16) : Nat := (c.extractLsb' 12 4).toNat

/-- The kind code of a header cell, bits 11..8. -/
def headerKind (c : Word16) : Nat := (c.extractLsb' 8 4).toNat

/-- The cell count of a header cell, bits 7..4. -/
def headerCount (c : Word16) : Nat := (c.extractLsb' 4 4).toNat

/-- A header cell (Table 7.2). -/
def headerCell (address kind count : Nat) : Word16 := BitVec.ofNat 16 (address * 4096 + kind * 256 + count * 16)

/-- The code of a down kind (Table 7.3). -/
def downKindCode : DownKind → Nat
  | .query => 1
  | .openSwitch => 2
  | .closeSwitch => 3
  | .grant => 4
  | .release => 5

/-- The cells of a QUERY, an OPEN or a CLOSE: the header alone (Table 7.3). -/
def shortCells (kind : DownKind) (dest : Nat) : List Word16 := [headerCell dest (downKindCode kind) 1]

/-- The cells of a GRANT: header, drive number, window length (Table 7.3). -/
def grantCells (dest drive window : Nat) : List Word16 :=
  [headerCell dest (downKindCode .grant) 3, BitVec.ofNat 16 (drive % 8), BitVec.ofNat 16 window]

/-- The cells of a RELEASE: header and drive number (Table 7.3). -/
def releaseCells (dest drive : Nat) : List Word16 :=
  [headerCell dest (downKindCode .release) 2, BitVec.ofNat 16 (drive % 8)]

/-- Up message kinds (Table 7.3). -/
inductive UpKind where
  | status
  | switchDone
  | startRequest
  | startDone
  | startAbandon
  deriving DecidableEq, Repr

/-- The up kind of a code, or nothing: the kind is unknown (Table 7.3). -/
def upKindOf (code : Nat) : Option UpKind :=
  if code = 9 then some .status
  else if code = 10 then some .switchDone
  else if code = 11 then some .startRequest
  else if code = 12 then some .startDone
  else if code = 13 then some .startAbandon
  else none

/-- A content cell is well formed (R117): a switch state of 3 fails. Every result code is in range, and a
drive number is 3 bits wide (assumption log entry 16). -/
def contentWellFormed (kind : UpKind) (c : Word16) : Bool :=
  match kind with
  | .status => c.extractLsb' 0 2 != 3#2
  | .switchDone => true
  | .startRequest => true
  | .startDone => true
  | .startAbandon => true

/-- The switch state of a STATUS content cell, bits 1..0. -/
def statusSwitch (c : Word16) : SwitchState :=
  if c.extractLsb' 0 2 == 1#2 then .opened else if c.extractLsb' 0 2 == 2#2 then .closed else .unknown

/-- The fault-passage indicator of a STATUS content cell, bit 4. -/
def statusIndicator (c : Word16) : Bool := c.getLsbD 4

/-- The local lock of a STATUS content cell, bit 5. -/
def statusLock (c : Word16) : Bool := c.getLsbD 5

/-- Results of a SWITCH_DONE (Table 7.3). -/
inductive SwitchResult where
  | doneOpen
  | doneClosed
  | refusedLocal
  | failed
  deriving DecidableEq, Repr

/-- The result of a SWITCH_DONE content cell, bits 1..0. -/
def switchResultOf (c : Word16) : SwitchResult :=
  if c.extractLsb' 0 2 == 0#2 then .doneOpen
  else if c.extractLsb' 0 2 == 1#2 then .doneClosed
  else if c.extractLsb' 0 2 == 2#2 then .refusedLocal
  else .failed

/-- The drive number of a START content cell, bits 2..0. -/
def driveOfCell (c : Word16) : Nat := (c.extractLsb' 0 3).toNat

/-! ## Codes of the host line -/

/-- The line rate of the straps (Table 0.9). -/
def lineRateOf (baud1 baud0 : Bool) : Nat :=
  match baud1, baud0 with
  | false, false => 115200
  | false, true => 230400
  | true, false => 460800
  | true, true => 921600

/-- The status codes of Table 10.2. -/
def statusCode : Status → Nat
  | .ok => 0
  | .accepted => 1
  | .busy => 2
  | .refused => 3
  | .badArgument => 4
  | .badKind => 5
  | .badCheck => 6
  | .queueFull => 7

/-- The reason codes of Table 10.6. -/
def reasonCode : Reason → Nat
  | .notPresent => 1
  | .invalid => 2
  | .curveUnfit => 3
  | .rankLow => 4
  | .state => 5
  | .notOpen => 6
  | .hardBlock => 7
  | .hold => 8
  | .mechanismNotReady => 9
  | .tripActive => 10
  | .alreadyAsserted => 11
  | .notInLockout => 12
  | .noPosition => 13
  | .notIdle => 14
  | .huntDisabled => 15
  | .planUnfit => 16
  | .stationsUnfit => 17
  | .huntBar => 18
  | .sequencerNotReady => 19
  | .breakerNotClosed => 20
  | .notRunning => 21
  | .drivesUnfit => 22
  | .stationDrive => 23
  | .notPending => 24
  | .outputActive => 25

/-- The number of a report kind: its code is 0x80 plus this (Table 10.3). -/
def reportBit : Report → Nat
  | .startUp _ => 0
  | .trip _ => 1
  | .sequence _ => 2
  | .condition _ => 3
  | .group _ => 4
  | .image _ _ => 5
  | .huntStep _ => 6
  | .huntEnd _ _ => 7
  | .start _ => 8
  | .station _ => 9
  | .overrun _ => 10

/-- The time base value that a report's payload begins with: that of its creation, and for a coalesced STATION
report that of the first change (Table 10.3). -/
def reportTime : Report → Time
  | .startUp r => r.time
  | .trip r => r.trip.time
  | .sequence r => r.time
  | .condition r => r.time
  | .group (.taken t _ _ _ _ _ _ _ _) => t
  | .group (.overrideCancelled t _ _ _) => t
  | .image t _ => t
  | .huntStep r => r.time
  | .huntEnd t _ => t
  | .start r => r.time
  | .station r => r.first.time
  | .overrun r => r.time

/-- The record kind of a report (Table 10.3). -/
def reportKind (r : Report) : Nat := 0x80 + reportBit r

/-- The commands of Table 10.4. -/
inductive CommandKind where
  | echo
  | readStatus
  | readMeasure
  | readImage
  | loadImage
  | checkImages
  | setFireLevel
  | selectGroup
  | trip
  | close
  | resetLockout
  | setPermit
  | ackConditions
  | startHunt
  | stopHunt
  | requestStart
  | cancelStart
  | pilotQuery
  | setReportMask
  | restart
  deriving DecidableEq, Repr

/-- The kind byte of a command (Table 10.4). -/
def commandCode : CommandKind → Nat
  | .echo => 0x01
  | .readStatus => 0x02
  | .readMeasure => 0x03
  | .readImage => 0x04
  | .loadImage => 0x05
  | .checkImages => 0x06
  | .setFireLevel => 0x07
  | .selectGroup => 0x08
  | .trip => 0x09
  | .close => 0x0A
  | .resetLockout => 0x0B
  | .setPermit => 0x0C
  | .ackConditions => 0x0D
  | .startHunt => 0x0E
  | .stopHunt => 0x0F
  | .requestStart => 0x10
  | .cancelStart => 0x11
  | .pilotQuery => 0x12
  | .setReportMask => 0x13
  | .restart => 0x14

/-- A kind byte is a command kind of Table 10.4. -/
def isCommandKind (k : Byte) : Bool := decide (1 ≤ k.toNat) && decide (k.toNat ≤ 0x14)

/-- The payload length of Table 10.4 admits `n` bytes. LOAD_IMAGE carries its content and a 2-byte CRC. -/
def payloadLengthOk (k : CommandKind) (n : Nat) : Bool :=
  match k with
  | .echo => true
  | .loadImage => decide (2 ≤ n)
  | .readStatus => n == 1
  | .readMeasure => n == 0
  | .readImage => n == 2
  | .checkImages => n == 0
  | .setFireLevel => n == 3
  | .selectGroup => n == 1
  | .trip => n == 0
  | .close => n == 0
  | .resetLockout => n == 0
  | .setPermit => n == 2
  | .ackConditions => n == 2
  | .startHunt => n == 0
  | .stopHunt => n == 0
  | .requestStart => n == 1
  | .cancelStart => n == 1
  | .pilotQuery => n == 1
  | .setReportMask => n == 2
  | .restart => n == 1

/-- The kinds of the NAK and BAD_KIND replies (section 10.1). -/
def nakKind : Nat := 0x7F

/-- The kind of a BAD_KIND reply. -/
def badKindKind : Nat := 0x7E

/-- The kind of the reply to a command: 0x40 plus the command's kind. -/
def replyKindOf (k : Byte) : Nat := 0x40 + k.toNat

/-- The check bytes of a record: CRC-16 over LENGTH, KIND, TAG and PAYLOAD (Table 10.1). -/
def recordCrc (r : HostRecord) : Word16 := crc16 (r.length :: r.kind :: r.tag :: r.payload)

end Sys2Proof.Machine
end

