-- ==== Sys2Proof/Machine/Images.lean ====
section
/-! DEFINITION. The settings images: their layouts (R179), the range checks (R42) and cross-checks (R43) of
LOAD_IMAGE, and what a working copy or a backing copy holds. -/

namespace Sys2Proof.Machine

/-! ## Reading an image. Offsets count from the image's first byte, the header's included. -/

/-- A flag byte. -/
def flagAt (c : List Byte) (i : Nat) : Bool := u8 c i == 1

/-- One action table byte: the mode in bit 7, the actions in bits 4 to 0 (R179). -/
def actionEntryOf (b : Byte) : ActionEntry where
  mode := if b.getLsbD 7 then .sticky else .live
  added := ⟨b.getLsbD 4, b.getLsbD 3, b.getLsbD 2, b.getLsbD 1, b.getLsbD 0⟩

/-- The content of a PLANT image (Table 3.3, R179). -/
def parsePlant (c : List Byte) : Plant where
  tripTimeout := u16 c 4
  closeTimeout := u16 c 6
  season := flagAt c 8
  defaultValidity := u16 c 9
  regimeMap := [u8 c 11, u8 c 12, u8 c 13, u8 c 14, u8 c 15, u8 c 16]
  alarmRank := u8 c 17
  actions := CondTable.build fun k => actionEntryOf (c.getD (17 + k.number) 0)
  takeTimeout := u16 c 30
  pollInterval := u16 c 32
  replyWait := u16 c 34
  silentCount := u8 c 36
  switchWait := u8 c 37
  essentialBase := u8 c 38
  productionBase := u8 c 39
  loweringStep := u8 c 40

/-- One action table entry as its byte (R179). -/
def actionByte (e : ActionEntry) : Byte :=
  BitVec.ofNat 8
    ((if e.mode = .sticky then 128 else 0) + (if e.added.blockHard then 16 else 0) +
      (if e.added.blockHold then 8 else 0) + (if e.added.barStarts then 4 else 0) +
      (if e.added.barHunt then 2 else 0) + (if e.added.alarmPin then 1 else 0))

/-- PLANT settings in the layout of R179, as READ_IMAGE gives the defaults (R174). -/
def plantBytes (p : Plant) : List Byte :=
  byte1 1 ++ byte1 0 ++ byte2 37 ++ byte2 p.tripTimeout ++ byte2 p.closeTimeout ++
    byte1 (if p.season then 1 else 0) ++ byte2 p.defaultValidity ++ p.regimeMap.flatMap byte1 ++ byte1 p.alarmRank ++
    Cond.all.map (fun k => actionByte (p.actions.get k)) ++ byte2 p.takeTimeout ++ byte2 p.pollInterval ++
    byte2 p.replyWait ++ byte1 p.silentCount ++ byte1 p.switchWait ++ byte1 p.essentialBase ++
    byte1 p.productionBase ++ byte1 p.loweringStep

/-- The entries of a STATIONS image (Table 3.4). -/
def parseStations (c : List Byte) : List StationEntry :=
  (List.range (u8 c 4)).map fun j =>
    { address := u8 c (5 + 2 * j), role := if u8 c (6 + 2 * j) = 1 then .drivePanel else .sectionaliser }

/-- The steps of a HUNT image (Table 3.6). -/
def parseHunt (c : List Byte) : List HuntStep :=
  (List.range (u8 c 4)).map fun j => { station := u8 c (5 + 3 * j), dwell := u16 c (6 + 3 * j) }

/-- The entries of a DRIVES image (Table 3.7). -/
def parseDrives (c : List Byte) : List DriveEntry :=
  (List.range (u8 c 4)).map fun j =>
    { drive := u8 c (5 + 7 * j)
      station := u8 c (6 + 7 * j)
      cls := if u8 c (7 + 7 * j) = 1 then .production else .essential
      windowLength := u16 c (8 + 7 * j)
      lifetime := u16 c (10 + 7 * j) }

/-- The content of a CURVE image (Table 10.8). -/
def parseCurve (c : List Byte) : Curve where
  points := (List.range 16).map fun k => { threshold := u16 c (4 + 4 * k), rate := u16 c (6 + 4 * k) }
  resetRate := u32 c 68

/-- A SEF mode code: TRIP 0, HUNT 1, ALARM 2 (R179). -/
def sefModeOf (v : Nat) : SefMode := if v = 0 then .trip else if v = 1 then .hunt else .alarm

/-- The content of a GROUP image (Table 10.9). -/
def parseGroup (c : List Byte) : GroupSettings where
  revision := u16 c 4
  rank := u8 c 6
  phTime := ⟨flagAt c 7, u16 c 8, u16 c 10, u8 c 12, u8 c 13, flagAt c 14⟩
  phHigh := ⟨flagAt c 15, u16 c 16, u16 c 18, u8 c 20, flagAt c 21⟩
  efTime := ⟨flagAt c 22, u16 c 23, u16 c 23, u8 c 25, u8 c 26, flagAt c 27⟩
  efHigh := ⟨flagAt c 28, u16 c 29, u16 c 29, u8 c 31, flagAt c 32⟩
  sef := ⟨flagAt c 33, u16 c 34, u16 c 36, u16 c 38, sefModeOf (u8 c 40)⟩
  shotLimit := u8 c 41
  deadTimes := [u32 c 42, u32 c 46, u32 c 50, u32 c 54]
  reclaim := u32 c 58
  maxHold := u32 c 62
  startsAllowed := flagAt c 66
  quietLevel := some (u16 c 67)
  huntEnabled := flagAt c 69
  huntClear := some (u16 c 70)

/-! ## Range checks (R42): a list of field numbers, each with whether the field passes -/

/-- A value lies in a range. -/
def inRange (lo hi v : Nat) : Bool := decide (lo ≤ v) && decide (v ≤ hi)

/-- The number of the first failing field, in field order. -/
def firstFailing (checks : List (Nat × Bool)) : Option Nat := (checks.find? fun p => !p.2).map (·.1)

/-- The content length that R179 gives a kind; for STATIONS, HUNT and DRIVES it follows from field 1. -/
def contentLength (kind : Nat) (c : List Byte) : Nat :=
  if kind = 1 then 37
  else if kind = 2 then 1 + 2 * u8 c 4
  else if kind = 5 then 1 + 3 * u8 c 4
  else if kind = 6 then 1 + 7 * u8 c 4
  else 68

/-- Field 0 passes: a known kind, an index of Table 3.1 and the length of that kind (R42). -/
def headerPasses (c : List Byte) : Bool :=
  decide (4 ≤ c.length) && (ImageId.ofKindIndex (u8 c 0) (u8 c 1)).isSome &&
    u16 c 2 == contentLength (u8 c 0) c && c.length == 4 + contentLength (u8 c 0) c

/-- PLANT fields 1 to 31 (Table 3.3). -/
def plantChecks (c : List Byte) : List (Nat × Bool) :=
  [(1, inRange 40 500 (u16 c 4)), (2, inRange 50 1000 (u16 c 6)), (3, inRange 0 1 (u8 c 8)),
   (4, inRange 1 1440 (u16 c 9))] ++
  (List.range 6).map (fun j => (5 + j, inRange 0 3 (u8 c (11 + j)))) ++
  [(11, inRange 1 5 (u8 c 17))] ++
  (List.range 12).map
    (fun j => (12 + j, !(c.getD (18 + j) 0).getLsbD 6 && !(c.getD (18 + j) 0).getLsbD 5)) ++
  [(24, inRange 10 500 (u16 c 30)), (25, inRange 1 60 (u16 c 32)), (26, inRange 100 5000 (u16 c 34)),
   (27, inRange 1 10 (u8 c 36)), (28, inRange 1 30 (u8 c 37)), (29, inRange 2 60 (u8 c 38)),
   (30, inRange 2 60 (u8 c 39)), (31, inRange 1 10 (u8 c 40))]

/-- STATIONS fields (Table 3.4). -/
def stationsChecks (c : List Byte) : List (Nat × Bool) :=
  (1, inRange 0 15 (u8 c 4)) ::
  (List.range (u8 c 4)).flatMap fun j =>
    [(2 * (j + 1), inRange 1 15 (u8 c (5 + 2 * j))), (2 * (j + 1) + 1, inRange 0 1 (u8 c (6 + 2 * j)))]

/-- CURVE fields (Table 2.4): every 2-byte value is a threshold or a rate in range. That Q0 is 256 and that thresholds
rise are the cross-checks of R43 alone (assumption log entry 14). -/
def curveChecks (c : List Byte) : List (Nat × Bool) :=
  (List.range 16).flatMap
    (fun k => [(2 * k + 1, inRange 0 65535 (u16 c (4 + 4 * k))), (2 * k + 2, inRange 0 65535 (u16 c (6 + 4 * k)))]) ++
  [(33, inRange 0 1048576 (u32 c 68))]

/-- GROUP fields (Table 3.5). A start pickup's lower bound is the cross-check of R43 (assumption log entry 14). -/
def groupChecks (c : List Byte) : List (Nat × Bool) :=
  [(1, inRange 0 65535 (u16 c 4)), (2, inRange 0 5 (u8 c 6)), (3, inRange 0 1 (u8 c 7)),
   (4, inRange 8 23170 (u16 c 8)), (5, inRange 0 23170 (u16 c 10)), (6, inRange 0 3 (u8 c 12)),
   (7, inRange 1 255 (u8 c 13)), (8, inRange 0 1 (u8 c 14)),
   (9, inRange 0 1 (u8 c 15)), (10, inRange 8 23170 (u16 c 16)), (11, inRange 0 23170 (u16 c 18)),
   (12, inRange 1 255 (u8 c 20)), (13, inRange 0 1 (u8 c 21)),
   (14, inRange 0 1 (u8 c 22)), (15, inRange 8 23170 (u16 c 23)), (16, inRange 0 3 (u8 c 25)),
   (17, inRange 1 255 (u8 c 26)), (18, inRange 0 1 (u8 c 27)),
   (19, inRange 0 1 (u8 c 28)), (20, inRange 8 23170 (u16 c 29)), (21, inRange 1 255 (u8 c 31)),
   (22, inRange 0 1 (u8 c 32)),
   (23, inRange 0 1 (u8 c 33)), (24, inRange 8 23170 (u16 c 34)),
   (25, u16 c 36 == 0 || inRange 8 23170 (u16 c 36)), (26, inRange 1 65535 (u16 c 38)),
   (27, inRange 0 2 (u8 c 40)), (28, inRange 0 4 (u8 c 41)),
   (29, inRange 100 600000 (u32 c 42)), (30, inRange 100 600000 (u32 c 46)), (31, inRange 100 600000 (u32 c 50)),
   (32, inRange 100 600000 (u32 c 54)), (33, inRange 1000 600000 (u32 c 58)), (34, inRange 0 3600000 (u32 c 62)),
   (35, inRange 0 1 (u8 c 66)), (36, inRange 8 23170 (u16 c 67)), (37, inRange 0 1 (u8 c 69)),
   (38, inRange 8 23170 (u16 c 70))]

/-- HUNT fields (Table 3.6). A station field must name an address of 1 to 15 here; its role is the cross-check of R43
(assumption log entry 14). -/
def huntChecks (c : List Byte) : List (Nat × Bool) :=
  (1, inRange 1 12 (u8 c 4)) ::
  (List.range (u8 c 4)).flatMap fun j =>
    [(2 * (j + 1), inRange 1 15 (u8 c (5 + 3 * j))), (2 * (j + 1) + 1, inRange 200 60000 (u16 c (6 + 3 * j)))]

/-- DRIVES fields (Table 3.7). A station field must be 0 or an address of 1 to 15 here; its role is the cross-check of
R43 (assumption log entry 14). -/
def drivesChecks (c : List Byte) : List (Nat × Bool) :=
  (1, inRange 0 8 (u8 c 4)) ::
  (List.range (u8 c 4)).flatMap fun j =>
    [(5 * (j + 1) - 3, inRange 0 7 (u8 c (5 + 7 * j))), (5 * (j + 1) - 2, inRange 0 15 (u8 c (6 + 7 * j))),
     (5 * (j + 1) - 1, inRange 0 1 (u8 c (7 + 7 * j))), (5 * (j + 1), inRange 1000 60000 (u16 c (8 + 7 * j))),
     (5 * (j + 1) + 1, inRange 1 600 (u16 c (10 + 7 * j)))]

/-- The range checks of an image whose header passes. -/
def rangeChecks (c : List Byte) : List (Nat × Bool) :=
  if u8 c 0 = 1 then plantChecks c
  else if u8 c 0 = 2 then stationsChecks c
  else if u8 c 0 = 3 then curveChecks c
  else if u8 c 0 = 4 then groupChecks c
  else if u8 c 0 = 5 then huntChecks c
  else drivesChecks c

/-- R42: the first field that fails its range, if any. -/
def rangeFailure (c : List Byte) : Option Nat :=
  if headerPasses c then firstFailing (rangeChecks c) else some 0

/-! ## Working copies in use -/

/-- The working copy may be used: the image is present and valid. -/
def usable (i : Image) : Bool := i.present && i.valid

/-- The STATIONS entries in use, or nothing while STATIONS is not present or not valid. -/
def stationsOf (t : ImageTable Image) : Option (List StationEntry) :=
  if usable t.stations then some (parseStations t.stations.working) else none

/-- STATIONS entries list an address with a role. -/
def listsRole (l : List StationEntry) (address : Nat) (role : Role) : Bool :=
  l.any fun e => e.address == address && e.role == role

/-! ## Cross-checks (R43) -/

/-- Entry `j` of a list of keys repeats none of the earlier ones. -/
def freshAt (keys : List Nat) (j : Nat) : Bool := !((keys.take j).contains (keys.getD j 0))

/-- GROUP: a start pickup is no lower than its element's pickup. -/
def groupCross (c : List Byte) : List (Nat × Bool) :=
  [(5, decide (u16 c 8 ≤ u16 c 10)), (11, decide (u16 c 16 ≤ u16 c 18))]

/-- CURVE: Q0 is 256 and the thresholds strictly increase. -/
def curveCross (c : List Byte) : List (Nat × Bool) :=
  (1, u16 c 4 == 256) ::
  (List.range 15).map fun k => (2 * (k + 1) + 1, decide (u16 c (4 + 4 * k) < u16 c (4 + 4 * (k + 1))))

/-- STATIONS: no address repeats an earlier entry's. -/
def stationsCross (c : List Byte) : List (Nat × Bool) :=
  (List.range (u8 c 4)).map fun j => (2 * (j + 1), freshAt ((parseStations c).map (·.address)) j)

/-- HUNT: every step's station is listed as a SECTIONALISER. -/
def huntCross (stations : Option (List StationEntry)) (c : List Byte) : List (Nat × Bool) :=
  (List.range (u8 c 4)).map fun j =>
    (2 * (j + 1), (stations.map fun l => listsRole l (u8 c (5 + 3 * j)) .sectionaliser).getD false)

/-- DRIVES: no drive number repeats, and a nonzero station is listed as a DRIVE_PANEL. -/
def drivesCross (stations : Option (List StationEntry)) (c : List Byte) : List (Nat × Bool) :=
  (List.range (u8 c 4)).flatMap fun j =>
    [(5 * (j + 1) - 3, freshAt ((parseDrives c).map (·.drive)) j),
     (5 * (j + 1) - 2,
      u8 c (6 + 7 * j) == 0 || (stations.map fun l => listsRole l (u8 c (6 + 7 * j)) .drivePanel).getD false)]

/-- The kind of the present and valid HUNT or DRIVES image that a new STATIONS content would contradict, HUNT
looked at first (R43; the order is assumption log entry 15). -/
def contradicted (t : ImageTable Image) (c : List Byte) : Option Nat :=
  if usable t.hunt &&
      (parseHunt t.hunt.working).any (fun h => !listsRole (parseStations c) h.station .sectionaliser) then some 5
  else if usable t.drives &&
      (parseDrives t.drives.working).any
        (fun d => d.station != 0 && !listsRole (parseStations c) d.station .drivePanel) then some 6
  else none

/-- R43: the failing field of the cross-checks, with the contradicted kind for field 255. -/
def crossFailure (t : ImageTable Image) (c : List Byte) : Option (Nat × Option Nat) :=
  if u8 c 0 = 4 then (firstFailing (groupCross c)).map fun f => (f, none)
  else if u8 c 0 = 3 then (firstFailing (curveCross c)).map fun f => (f, none)
  else if u8 c 0 = 5 then (firstFailing (huntCross (stationsOf t) c)).map fun f => (f, none)
  else if u8 c 0 = 6 then (firstFailing (drivesCross (stationsOf t) c)).map fun f => (f, none)
  else if u8 c 0 = 2 then
    match firstFailing (stationsCross c) with
    | some f => some (f, none)
    | none => (contradicted t c).map fun k => (255, some k)
  else none

/-! ## Directory records and backing copies -/

/-- The directory record of an image (Table 3.2). -/
def dirRecord (t : ImageTable Image) (i : ImageId) : DirRecord :=
  { image := i
    present := (t.get i).present
    valid := (t.get i).valid
    retained := (t.get i).retained
    revision := (t.get i).revision
    storedCrc := (t.get i).storedCrc
    lastCheck := (t.get i).lastCheck }

/-- The fields of a record that START_UP and PASS carry (R51, R178). -/
def passEntry (i : Image) : PassEntry := ⟨i.present, i.valid, i.retained, i.lastCheck⟩

/-- The revision a directory record shows for a content: that of a GROUP image, absent for other kinds. -/
def revisionOf (i : ImageId) (c : List Byte) : Option Nat := if i.kind = 4 then some (u16 c 4) else none

/-- The CRC kept with a spoiled backing copy: any value other than its content's CRC-16, so that its check
fails (R46). -/
def spoiledCrc (k : Nat) : Word16 :=
  crc16 (Config.spoiledContent k) + 1 + BitVec.ofNat 16 (Config.spoiledOffset k % 65535)

/-- What a full restart loads from a backing copy: content and CRC, or nothing when it was never written. -/
def backingContent : Backing → Option (List Byte × Word16)
  | .unwritten => none
  | .written content crc => some (content, crc)
  | .spoiled k => some (Config.spoiledContent k, spoiledCrc k)

/-- An image after a full restart's load and check (R64 steps 1 and 2). -/
def restartImage (i : ImageId) (b : Backing) : Image :=
  match backingContent b with
  | none =>
    { present := false, valid := false, retained := false, revision := none, storedCrc := 0,
      lastCheck := .notPresent, working := [], backing := b }
  | some (content, crc) =>
    { present := true
      valid := crc16 content == crc
      retained := true
      revision := revisionOf i content
      storedCrc := crc
      lastCheck := if crc16 content = crc then .good else .mismatch
      working := content
      backing := b }

end Sys2Proof.Machine
end

