-- ==== Sys2Proof/Machine/State.lean ====
section
/-! DEFINITION. The state of the whole part, the reasons for which a step may stop, and the state after a
power-on restart whose backing copies were never written. -/

namespace Sys2Proof.Machine

/-- Why the machine stops with a fault. It has no constructor: no command of the LDV340 faults, since the spec
gives every command an effect in every state. -/
inductive Fault where
  deriving DecidableEq, Repr

/-- Why a command is refused. -/
inductive Refusal where
  /-- Raised by an arm of `exec` whose command has no meaning yet. Safe: no state follows. No arm does so. -/
  | notModelled (mnemonic : String)
  deriving DecidableEq, Repr

/-- The state of the LDV340: one field per block of Table 0.2, the time base, and the queue of commands. -/
structure State where
  /-- The time base counter (00_scope.md 3.2). -/
  time : Time
  /-- Events of the present 1 ms event still to be taken (the model's own). -/
  due : Due
  /-- The sample port (section 1.1.2). -/
  port : SamplePort
  /-- The measurement unit (Table 1.3). -/
  meas : Measurement
  /-- The protection unit (Table 2.2). -/
  prot : Protection
  /-- The settings store (sections 3.1 to 3.4). -/
  store : Store
  /-- The regime unit (Tables 3.10, 3.11). -/
  regime : Regime
  /-- The breaker interface (Table 4.1). -/
  brk : Breaker
  /-- The sequencer record (Table 5.2). -/
  seq : Sequencer
  /-- The condition monitor (Table 6.2, section 6.3). -/
  mon : Monitor
  /-- The pilot bus controller (Tables 7.4 to 7.7). -/
  pilot : Pilot
  /-- The hunt controller (Tables 8.2 to 8.4). -/
  hunt : Hunt
  /-- The start admission unit (Tables 9.1, 9.2). -/
  adm : Admission
  /-- The record interface (Table 10.7). -/
  host : HostIf
  /-- RESET_N is still low: the level of the pin as the latest full restart left it (Table 0.8; assumption log entry
  18). -/
  resetLow : Bool
  /-- Counter that indexes the free values of Config (the model's own). -/
  freeIx : Nat
  /-- Commands waiting to be taken, first in first out. -/
  pending : List Instr
  deriving DecidableEq, Repr

/-- The state with its `time` replaced. -/
def State.setTime (s : State) (v : Time) : State := { s with time := v }

/-- The state with its `due` replaced. -/
def State.setDue (s : State) (v : Due) : State := { s with due := v }

/-- The state with its `port` replaced. -/
def State.setPort (s : State) (v : SamplePort) : State := { s with port := v }

/-- The state with its `meas` replaced. -/
def State.setMeas (s : State) (v : Measurement) : State := { s with meas := v }

/-- The state with its `prot` replaced. -/
def State.setProt (s : State) (v : Protection) : State := { s with prot := v }

/-- The state with its `store` replaced. -/
def State.setStore (s : State) (v : Store) : State := { s with store := v }

/-- The state with its `regime` replaced. -/
def State.setRegime (s : State) (v : Regime) : State := { s with regime := v }

/-- The state with its `brk` replaced. -/
def State.setBrk (s : State) (v : Breaker) : State := { s with brk := v }

/-- The state with its `seq` replaced. -/
def State.setSeq (s : State) (v : Sequencer) : State := { s with seq := v }

/-- The state with its `mon` replaced. -/
def State.setMon (s : State) (v : Monitor) : State := { s with mon := v }

/-- The state with its `pilot` replaced. -/
def State.setPilot (s : State) (v : Pilot) : State := { s with pilot := v }

/-- The state with its `hunt` replaced. -/
def State.setHunt (s : State) (v : Hunt) : State := { s with hunt := v }

/-- The state with its `adm` replaced. -/
def State.setAdm (s : State) (v : Admission) : State := { s with adm := v }

/-- The state with its `host` replaced. -/
def State.setHost (s : State) (v : HostIf) : State := { s with host := v }

/-- The state with its `resetLow` replaced. -/
def State.setResetLow (s : State) (v : Bool) : State := { s with resetLow := v }

/-- The state with its `freeIx` replaced. -/
def State.setFreeIx (s : State) (v : Nat) : State := { s with freeIx := v }

/-- The state with its `pending` replaced. -/
def State.setPending (s : State) (v : List Instr) : State := { s with pending := v }

/-- A directory record whose backing copy was never written (R64 step 1). -/
def blankImage : Image where
  present := false
  valid := false
  retained := false
  revision := none
  storedCrc := 0
  lastCheck := .notPresent
  working := []
  backing := .unwritten

/-- A condition record with the default mode and actions (Table 6.3), not active and not latched. -/
def quietRecord (mode : Mode) (actions : Actions) : CondRec := ⟨false, false, mode, actions⟩

/-- The machine right after a power-on restart (R16, R40, R64, R77, R101, R113, R139, R154, R167, R178) whose
backing copies were never written and whose straps read 0, 0 (assumption log entry 2). PLANT is not present,
so the defaults of Table 3.8 are in use: season ON, effective level 5, group S in force. BREAKER_NOT_READY,
FIRE_STALE and FIRE_REGIME are active; START_UP stands alone in the report queue. -/
def State.reset : State where
  time := 0
  due := ⟨false, false, false, false, false, false, none⟩
  port := { state := .start, lastSeq := none, lastArrival := 0 }
  meas :=
    { windows := ⟨[], [], [], [], []⟩
      sums := ⟨0, 0, 0, 0, 0⟩
      fill := 0
      phase := 0
      latest :=
        { present := false
          time := 0
          group := 7
          startPickups := false
          e := ⟨0, 0, 0, 0, 0⟩
          clipped := ⟨false, false, false, false, false⟩
          q :=
            { phTime := ⟨none, none, none⟩
              phHigh := ⟨none, none, none⟩
              efTime := none
              efHigh := none
              sef := none
              sefVn := none
              huntClear := none
              quiet := ⟨none, none, none⟩ } } }
  prot := ⟨⟨0, 0, 0⟩, 0, ⟨0, 0, 0⟩, 0, 0, false, false⟩
  store :=
    { images :=
        ⟨blankImage, blankImage, blankImage, blankImage, blankImage, blankImage, blankImage, blankImage,
         blankImage, blankImage, blankImage, blankImage⟩
      write := none
      scanPos := .plant
      checking := none }
  regime :=
    { fire := { level := none, setTime := 0, validity := 0, expired := false, effective := 5 }
      override := none
      candidate := 7
      fallback := none
      pending := none
      active := 7
      inForce := ⟨groupS, none, none⟩
      refreshGroup := false
      refreshCurve := false }
  brk :=
    { prevPos := none
      accepted := .none
      prevReady := none
      ready := .none
      tripOut := false
      closeOut := false
      tripMemo := none
      closeMemo := none
      tripTimer := none
      closeTimer := none }
  seq :=
    { state := .lockout
      shots := 0
      loaded := none
      remaining := none
      held := false
      holdUsed := 0
      lastTrip := none
      closeOrigin := none
      closeWithdrawn := false
      cause := some .powerOnOpen
      posAwaited := true
      closedLast := false }
  mon :=
    { recs :=
        { sampleLoss := quietRecord .live ⟨true, false, true, true, false⟩
          integrity := quietRecord .sticky ⟨true, false, false, false, false⟩
          breakerFail := quietRecord .sticky ⟨true, false, false, false, true⟩
          closeFail := quietRecord .sticky ⟨true, false, false, false, false⟩
          breakerNotReady := ⟨true, false, .live, ⟨false, true, false, false, false⟩⟩
          fireStale := ⟨true, false, .live, ⟨false, false, false, false, true⟩⟩
          fireRegime := ⟨true, false, .live, ⟨false, false, false, false, false⟩⟩
          huntActive := quietRecord .live ⟨true, false, true, false, false⟩
          earthFaultStanding := quietRecord .live ⟨false, false, false, false, true⟩
          stationSilent := quietRecord .live ⟨false, false, false, true, false⟩
          liveLine := quietRecord .live ⟨true, false, true, false, false⟩
          hostHold := quietRecord .live ⟨false, true, false, false, false⟩ }
      hard := []
      hold := [.breakerNotReady]
      startBar := false
      huntBar := false
      alarm := true }
  pilot :=
    { down :=
        { stage := .ending
          msg := none
          cell := 1
          phase := false
          echoLooks := 0
          echoSeen := false
          idleLooks := 0
          slotsOffered := 0
          loadedTake := 50
          endingLeft := 2
          outcome := none }
      queue := []
      up :=
        { stage := .closed
          holder := none
          cells := []
          declared := none
          lastPhase := none
          look := none
          idleLooks := 0
          noProgress := 0
          refusingLeft := 0
          refusalShown := false
          coolDown := none
          complete := false }
      half := none
      pollRemaining := 10000
      cursor := none
      stations := [] }
  hunt :=
    { state := .idle
      origin := none
      plan := none
      step := 0
      phase := none
      switchTimer := none
      dwellTimer := none
      openStation := none
      outstanding := none
      indicators := []
      results := []
      last := none
      startTime := none
      judgedQ := none
      pointTime := none }
  adm :=
    { drives := []
      queue := []
      quiet := 0
      second := .empty
      window := none
      outstanding := none
      releaseDue := none }
  host :=
    { lineRate := 115200
      parser :=
        { stage := .syncWait
          length := 0
          header := []
          payload := []
          check := []
          lastByte := 0 }
      arrived := []
      commands := []
      replies := []
      reports :=
        [.startUp
          { time := 0
            cause := .powerOn
            lineRate := 115200
            images :=
              ⟨⟨false, false, false, .notPresent⟩, ⟨false, false, false, .notPresent⟩,
               ⟨false, false, false, .notPresent⟩, ⟨false, false, false, .notPresent⟩,
               ⟨false, false, false, .notPresent⟩, ⟨false, false, false, .notPresent⟩,
               ⟨false, false, false, .notPresent⟩, ⟨false, false, false, .notPresent⟩,
               ⟨false, false, false, .notPresent⟩, ⟨false, false, false, .notPresent⟩,
               ⟨false, false, false, .notPresent⟩, ⟨false, false, false, .notPresent⟩⟩
            group := 7
            revision := 0
            fallback := none
            season := true
            effective := 5 }]
      mask := 0x07FF
      overrun := false
      lostReports := 0
      firstLoss := 0
      lostRecords := 0
      tx := .idle
      restart := .none }
  resetLow := false
  freeIx := 0
  pending := []


end Sys2Proof.Machine
end

