-- ==== Sys2Proof/Machine/Flags.lean ====
section
/-! DEFINITION. The derived values: what the condition monitor derives from its records (section 6.3), the
hysteresis bands (R18), the breaker state and origin of a contact combination (Table 4.2, R66), the squared
multiple (R10), the settings in use (R53), and which time-driven events are due. -/

namespace Sys2Proof.Machine

/-! ## The condition monitor's derived state -/

/-- A condition is in force while active, or while its mode is STICKY and it is latched (Table 6.2). -/
def CondRec.inForce (r : CondRec) : Bool := r.active || (r.mode == .sticky && r.latched)

/-- The hard reasons: the conditions in force whose action set holds BLOCK_HARD (R106). -/
def hardOf (t : CondTable CondRec) : List Cond :=
  Cond.all.filter fun c => (t.get c).inForce && (t.get c).actions.blockHard

/-- The hold reasons (R106). -/
def holdOf (t : CondTable CondRec) : List Cond :=
  Cond.all.filter fun c => (t.get c).inForce && (t.get c).actions.blockHold

/-- The start bar (R108). -/
def startBarOf (t : CondTable CondRec) : Bool :=
  Cond.all.any fun c => (t.get c).inForce && (t.get c).actions.barStarts

/-- The conditions in force that carry BAR_HUNT (Table 8.4). -/
def huntBarsOf (t : CondTable CondRec) : List Cond :=
  Cond.all.filter fun c => (t.get c).inForce && (t.get c).actions.barHunt

/-- The hunt bar (R108). -/
def huntBarOf (t : CondTable CondRec) : Bool := !(huntBarsOf t).isEmpty

/-- The value that the records give ALARM_OUT (R109). -/
def alarmOf (t : CondTable CondRec) : Bool :=
  Cond.all.any fun c => (t.get c).inForce && (t.get c).actions.alarmPin

/-- The monitor with all its derived state computed from the records. -/
def monitorOf (t : CondTable CondRec) : Monitor where
  recs := t
  hard := hardOf t
  hold := holdOf t
  startBar := startBarOf t
  huntBar := huntBarOf t
  alarm := alarmOf t

/-- Some condition of the new set is not in the old one: the arrival of a reason (R107). -/
def arrives (old new : List Cond) : Bool := new.any fun c => !old.contains c

/-- The record of a condition under an action table: its mode, and its fixed with its added actions (R104). -/
def actionsUnder (table : CondTable ActionEntry) (c : Cond) : Actions :=
  (fixedActions c).union (table.get c).added

/-- A record's active field set by its owner, with latching (R102, R103). -/
def CondRec.setActive (r : CondRec) (active : Bool) : CondRec :=
  { r with active := active, latched := r.latched || (r.mode == .sticky && active && !r.active) }

/-- A record under a replaced action table (R105). -/
def CondRec.retable (r : CondRec) (mode : Mode) (actions : Actions) : CondRec :=
  { active := r.active
    latched :=
      match r.mode, mode with
      | .sticky, .live => false
      | .live, .sticky => r.active
      | .live, .live => r.latched
      | .sticky, .sticky => r.latched
    mode := mode
    actions := actions }

/-! ## Settings in use -/

/-- The PLANT settings in use: the working copy, or the defaults while it is not present or not valid (R53). -/
def plantOf (t : ImageTable Image) : Plant := if usable t.plant then parsePlant t.plant.working else plantDefaults

/-- The PLANT settings in use. -/
def State.plant (s : State) : Plant := plantOf s.store.images

/-- The active group's settings as every block reads them: the in-force set (Table 3.11). -/
def State.settings (s : State) : GroupSettings := s.regime.inForce.settings

/-! ## Protection -/

/-- The bands of Table 2.3. -/
inductive Band where
  | pickedUp
  | hold
  | dropped
  deriving DecidableEq, Repr

/-- The band of a squared multiple (R18). -/
def bandOf (q : Nat) : Band := if 256 ≤ q then .pickedUp else if 231 ≤ q then .hold else .dropped

/-- The squared multiple of a mean square and a pickup (R10). -/
def squaredMultiple (e p : Nat) : Nat := min 65535 (e * 256 / (p * p))

/-! ## Breaker contacts -/

/-- The state a contact combination (BKR_A, BKR_B) maps to (Table 4.2). -/
def positionOf (a b : Bool) : BreakerPos :=
  match a, b with
  | true, false => .closed
  | false, true => .opened
  | false, false => .travel
  | true, true => .faulty

/-- The origin of an accepted change (R66). -/
def changeOrigin (b : Breaker) (new : BreakerPos) : ChangeOrigin :=
  if b.accepted = .none then .initial
  else
    match new with
    | .opened => if b.tripMemo.isSome then .trip else if b.closeMemo.isSome then .close else .external
    | .travel => if b.tripMemo.isSome then .trip else if b.closeMemo.isSome then .close else .external
    | .closed => if b.tripMemo.isSome then .external else if b.closeMemo.isSome then .close else .external
    | .faulty => .external
    | .none => .external

/-! ## Fitness of STATIONS -/

/-- STATIONS is present and valid. -/
def stationsUsable (s : State) : Bool := usable s.store.images.stations

/-- The station side of the pilot bus can be used: the up channel is not CLOSED and STATIONS is present and valid, also
while a holding that an invalidity has cut off is still REFUSING (R52, R131; assumption log entry 31). -/
def stationsFit (s : State) : Bool := s.pilot.up.stage != .closed && stationsUsable s

/-! ## The alarm pin -/

/-- ALARM_OUT: released while RESET_N is low, else the value that the records give (R109). -/
def alarmOut (s : State) : Bool := s.mon.alarm && !s.resetLow

/-! ## Which events are due -/

/-- Loss is to be declared (R3). -/
def lossDue (s : State) : Bool := s.port.state != .lost && decide (2 ≤ elapsed s.time s.port.lastArrival)

/-- The trip timer has run its loaded timeout (R70). -/
def tripTimerDue (s : State) : Bool :=
  match s.brk.tripTimer, s.brk.tripMemo with
  | some t, some m => decide (t ≤ elapsed s.time m.time)
  | _, _ => false

/-- The close timer has run its loaded timeout (R72). -/
def closeTimerDue (s : State) : Bool :=
  match s.brk.closeTimer, s.brk.closeMemo with
  | some t, some m => decide (t ≤ elapsed s.time m.time)
  | _, _ => false

/-- The dead timer has reached 0 unheld (R83). -/
def deadTimerDue (s : State) : Bool := s.seq.state == .deadTime && !s.seq.held && s.seq.remaining == some 0

/-- Hold time used was greater than the maximum hold at a 1 ms event that increased it (R85; assumption log entry 9). -/
def holdDue (s : State) : Bool := s.seq.state == .deadTime && s.due.holdOver.isSome

/-- The reclaim timer has reached 0 (R90). -/
def reclaimDue (s : State) : Bool := s.seq.state == .reclaim && s.seq.remaining == some 0

/-- The stored fire level's validity has run out (R56). -/
def fireExpiryDue (s : State) : Bool :=
  s.regime.fire.level.isSome && !s.regime.fire.expired &&
    decide (s.regime.fire.validity * 60000 ≤ elapsed s.time s.regime.fire.setTime)

/-- A station's WAITING deadline is reached or passed (R133). -/
def replyWaitDue (s : State) (st : Station) : Bool :=
  match st.answer with
  | .waiting deadline => decide (elapsed s.time deadline < 2 ^ 31)
  | .none => false
  | .inFlight => false
  | .answered => false

/-- A millisecond timer has run out. -/
def timerDue (t : Option MsTimer) : Bool :=
  match t with
  | some t => t.remaining == 0
  | none => false

/-- A pending request's lifetime, fixed at its arrival, has run out (R159). -/
def lifetimeDue (s : State) (d : Drive) : Bool :=
  match d.request with
  | .pending arrival deadline => decide (elapsed deadline arrival ≤ elapsed s.time arrival)
  | .none => false
  | .window => false

/-- The start window's remaining time is 0 (R165). -/
def windowDue (s : State) : Bool :=
  match s.adm.window with
  | some w => w.remaining == 0
  | none => false

/-- The partial record has waited 3 ms or more (R168). -/
def receiveDue (s : State) : Bool :=
  s.host.parser.stage != .syncWait && decide (3 ≤ elapsed s.time s.host.parser.lastByte)

/-- The take timeout of the cell on offer is reached (R121). -/
def takeDue (s : State) : Bool :=
  s.pilot.down.stage == .offering && decide (s.pilot.down.loadedTake ≤ s.pilot.down.slotsOffered)

/-- Both idle ending slots have passed (R119). -/
def endingDue (s : State) : Bool := s.pilot.down.stage == .ending && s.pilot.down.endingLeft == 0

/-- The holder has made no progress for 250 slots (R129). A holding that the same slot event refused or completed is not
timed out (assumption log entry 27). -/
def holdingDue (s : State) : Bool :=
  s.pilot.up.stage == .holding && !s.pilot.up.complete && decide (250 ≤ s.pilot.up.noProgress)

/-- Both refusing slots have passed (R128). -/
def refusingDue (s : State) : Bool :=
  s.pilot.up.stage == .refusing && s.pilot.up.refusalShown && s.pilot.up.refusingLeft == 0

/-- Both cool-down slots have passed (R130). -/
def coolDownDue (s : State) : Bool :=
  match s.pilot.up.coolDown with
  | some c => c.left == 0
  | none => false

/-- The kind, source, and content cell of the up message whose delivery is due (R127). -/
def dueMessage (s : State) : Option (UpKind × Nat × Word16) :=
  if s.pilot.up.stage = .holding ∧ s.pilot.up.complete = true then
    match s.pilot.up.cells with
    | header :: rest => (upKindOf (headerKind header)).map fun k => (k, headerAddress header, rest.headD 0)
    | [] => none
  else none

end Sys2Proof.Machine
end

