-- ==== Sys2Proof/Machine/Ops.lean ====
section
/-! DEFINITION. The named operations that several blocks share: placing a report (R138, R172, R173), the down
queue (R122, R124), and reading and changing a station, drive or image record. -/

namespace Sys2Proof.Machine

/-! ## The report queue -/

/-- A report kind is enabled in the mask (R173). -/
def reportEnabled (s : State) (r : Report) : Bool := s.host.mask.getLsbD (reportBit r)

/-- A new report arrives at the report queue (R172): it joins the end, or is dropped with the overrun flag set
when the queue holds 32. -/
def placeReport (r : Report) (s : State) : State :=
  if s.host.reports.length < 32 then s.setHost { s.host with reports := s.host.reports ++ [r] }
  else
    s.setHost
      { s.host with
        overrun := true
        lostReports := min 65535 (s.host.lostReports + 1)
        firstLoss := if s.host.overrun then s.host.firstLoss else s.time }

/-- A block creates a report (R172): one of a masked kind is not created (R173). -/
def addReport (r : Report) (s : State) : State := if reportEnabled s r then placeReport r s else s

/-- A waiting STATION report takes in a later change (R138). -/
def coalesce (new old : StationReport) : StationReport :=
  { old with
    latest := new.latest
    query := match new.query with
      | some q => some q
      | none => old.query }

/-- A report is a waiting STATION report of an address. -/
def isStationReport (address : Nat) (r : Report) : Bool :=
  match r with
  | .station x => x.address == address
  | _ => false

/-- A report with a STATION change of its own address coalesced into it. -/
def coalesceInto (new : StationReport) (r : Report) : Report :=
  match r with
  | .station x => if x.address = new.address then .station (coalesce new x) else .station x
  | r => r

/-- R138: a STATION report coalesces into a waiting one of its address, or is a new report. -/
def addStationReport (new : StationReport) (s : State) : State :=
  if reportEnabled s (.station new) then
    if s.host.reports.any (isStationReport new.address) then
      s.setHost { s.host with reports := s.host.reports.map (coalesceInto new) }
    else placeReport (.station new) s
  else s

/-! ## The down queue -/

/-- The kept place of a class is free (R122). -/
def keptFree (q : List QueueEntry) (c : DownClass) : Bool := !q.any fun e => e.kept && e.msg.cls == c

/-- One of the six open places is free (R122). -/
def openFree (q : List QueueEntry) : Bool := decide ((q.filter fun e => !e.kept).length < 6)

/-- The place a message of a class would take: its kept place (`true`), an open place, or none (R122). -/
def placeFor (q : List QueueEntry) (c : DownClass) : Option Bool :=
  match c with
  | .hunt => if keptFree q .hunt then some true else if openFree q then some false else none
  | .admission => if keptFree q .admission then some true else if openFree q then some false else none
  | .host => if openFree q then some false else none
  | .poll => if openFree q then some false else none

/-- A message joins the end of the down queue, or finds no place (R122). -/
def joinQueue (m : DownMessage) (s : State) : Option State :=
  (placeFor s.pilot.queue m.cls).map fun kept =>
    s.setPilot { s.pilot with queue := s.pilot.queue ++ [{ msg := m, kept := kept }] }

/-- A requester withdraws its waiting message; no outcome is handed (R124). -/
def withdrawWaiting (c : DownClass) (s : State) : State :=
  s.setPilot { s.pilot with queue := s.pilot.queue.eraseP fun e => e.msg.cls == c }

/-- An entry is a QUERY to a station. -/
def isQueryTo (address : Nat) (m : DownMessage) : Bool := m.kind == .query && m.dest == address

/-- A QUERY to a station is waiting (R132, R135). -/
def queryWaiting (s : State) (address : Nat) : Bool := s.pilot.queue.any fun e => isQueryTo address e.msg

/-- A QUERY to a station is in flight (R132, R135). -/
def queryInFlight (s : State) (address : Nat) : Bool :=
  match s.pilot.down.msg with
  | some m => isQueryTo address m
  | none => false

/-- A QUERY message. -/
def queryMessage (c : DownClass) (address : Nat) : DownMessage :=
  { cls := c, dest := address, kind := .query, cells := shortCells .query address }

/-! ## Station records -/

/-- The station record of an address. -/
def findStation (s : State) (address : Nat) : Option Station := s.pilot.stations.find? fun x => x.address == address

/-- The station record of an address changed. -/
def updateStation (address : Nat) (f : Station → Station) (s : State) : State :=
  s.setPilot
    { s.pilot with stations := s.pilot.stations.map fun x => if x.address = address then f x else x }

/-- Every station record changed. -/
def updateStations (f : Station → Station) (s : State) : State :=
  s.setPilot { s.pilot with stations := s.pilot.stations.map f }

/-- The addresses whose fault-passage indicator is set (R142, R147). -/
def indicatorAddresses (s : State) : List Nat := (s.pilot.stations.filter (·.indicator)).map (·.address)

/-- Two sets of addresses joined, without repeats. -/
def joinSets (x y : List Nat) : List Nat := x ++ y.filter fun a => !x.contains a

/-- The station fields that a STATION report shows now (Table 7.8). -/
def stationView (s : State) (st : Station) : StationView :=
  { time := s.time, presence := st.presence, switch := st.switch, indicator := st.indicator, lock := st.lock }

/-- A STATION report of the station's present fields, with a query result or none. -/
def reportStation (st : Station) (query : Option QueryResult) (s : State) : State :=
  addStationReport
    { address := st.address, first := stationView s st, latest := stationView s st, query := query } s

/-! ## Drive records -/

/-- The drive record of a number. -/
def findDrive (s : State) (drive : Nat) : Option Drive := s.adm.drives.find? fun d => d.drive == drive

/-- The drive record of a number changed. -/
def updateDrive (drive : Nat) (f : Drive → Drive) (s : State) : State :=
  s.setAdm { s.adm with drives := s.adm.drives.map fun d => if d.drive = drive then f d else d }

/-- The requirement of a drive: its class's base, with the lowering step while LOWERED (R162). -/
def requirement (p : Plant) (d : Drive) : Nat :=
  (match d.cls with
    | .essential => p.essentialBase
    | .production => p.productionBase) +
  (match d.level with
    | .lowered => p.loweringStep
    | .normal => 0)

/-! ## Images -/

/-- The image table with one image changed. -/
def updateImage (i : ImageId) (f : Image → Image) (s : State) : State :=
  s.setStore { s.store with images := s.store.images.set i (f (s.store.images.get i)) }

/-! ## Replies -/

/-- A reply OK with its content (Table 10.2). -/
def okReply (b : ReplyBody) : Reply := ⟨some .ok, b⟩

/-- A reply BAD_ARGUMENT, naming the payload field, with the command's content of Table 10.5 (R170, R175; assumption
log entry 32). -/
def badArgumentWith (field : Nat) (content : ReplyBody) : Reply := ⟨some .badArgument, .field field content⟩

/-- A reply BAD_ARGUMENT of a command with no content to give (R175). -/
def badArgument (field : Nat) : Reply := badArgumentWith field .empty

/-- A reply REFUSED, naming the reason, with the command's content of Table 10.5 (R170, R175; assumption log entry
32). -/
def refusedFor (r : Reason) (content : ReplyBody) : Reply := ⟨some .refused, .reason r none content⟩

/-- A reply REFUSED, naming the reason and the condition that gives it, with the command's content (R170, R175). -/
def refusedBy (r : Reason) (c : Cond) (content : ReplyBody) : Reply := ⟨some .refused, .reason r (some c) content⟩

end Sys2Proof.Machine
end

