-- ==== Sys2Proof/Machine/SequencerCore.lean ====
section
/-! DEFINITION. The parts of the reclose sequencer that the condition monitor calls: the change of the record
with its SEQUENCE report (R99), the entry into LOCKOUT (R98), and the arrival and departure of hard and hold
reasons (R84, R85, R86, R89). -/

namespace Sys2Proof.Machine

/-- The SEQUENCE report of a change from `previous` to the record now held (R99). -/
def sequenceReport (previous : SeqState) (event : SeqEvent) (origin : Option ChangeOrigin) (s : State) :
    SequenceReport where
  time := s.time
  previous := previous
  state := s.seq.state
  event := event
  shots := s.seq.shots
  loaded := s.seq.loaded
  cause := s.seq.cause
  breaker := s.brk.accepted
  origin := origin
  group := s.regime.active
  revision := s.settings.revision

/-- The record becomes `r`; a change of state creates a SEQUENCE report (R99). -/
def seqTo (r : Sequencer) (event : SeqEvent) (origin : Option ChangeOrigin) (s : State) : State :=
  if r.state = s.seq.state then s.setSeq r
  else addReport (.sequence (sequenceReport s.seq.state event origin (s.setSeq r))) (s.setSeq r)

/-- The record in LOCKOUT with a cause (R98): no timer runs, nothing is held or waited for. -/
def enterLockout (cause : LockoutCause) (r : Sequencer) : Sequencer :=
  { r with
    state := .lockout
    loaded := none
    remaining := none
    held := false
    closeOrigin := none
    closeWithdrawn := false
    cause := some cause }

/-- The record in RECLAIM with its timer loaded and a number of shots done (R87, R88, R91, R92). -/
def enterReclaim (time shots : Nat) (r : Sequencer) : Sequencer :=
  { r with
    state := .reclaim
    shots := shots
    loaded := some time
    remaining := some time
    held := false
    closeOrigin := none
    closeWithdrawn := false
    cause := none }

/-- The lowest-numbered condition of a nonempty set (06_conditions_and_actions.md 6.1). -/
def lowest (l : List Cond) : Cond := l.headD .sampleLoss

/-- WITHDRAWN arrives at the sequencer: only CLOSING takes note (R82, R88, R92). -/
def seqWithdrawn (s : State) : State :=
  if s.seq.state = .closing then s.setSeq { s.seq with closeWithdrawn := true } else s

/-- A hold stands in DEAD_TIME: held becomes yes, or LOCKOUT follows at a maximum hold of 0 (R84, R85). -/
def seqHold (s : State) : State :=
  if s.settings.maxHold = 0 then seqTo (enterLockout (.holdExceeded s.seq.holdUsed 0) s.seq) .holdExceeded none s
  else s.setSeq { s.seq with held := true }

/-- The cause of a hard reason's arrival in CLOSING: CLOSE_FAIL when it is among the reasons that arrive,
otherwise the lowest-numbered hard reason (R89). -/
def closingCause (oldHard : List Cond) (s : State) : LockoutCause :=
  if s.mon.hard.contains .closeFail && !oldHard.contains .closeFail then
    .closeFail (s.seq.closeOrigin.getD .automatic)
  else .hardBlock (lowest s.mon.hard)

/-- A change of the block set arrives at the sequencer (R84, R85, R86, R89); the new sets stand in the
monitor. Only DEAD_TIME and CLOSING act on it. -/
def seqBlockChange (oldHard oldHold : List Cond) (s : State) : State :=
  match s.seq.state with
  | .deadTime =>
    if arrives oldHard s.mon.hard then
      seqTo (enterLockout (.hardBlock (lowest s.mon.hard)) s.seq) .hardReason none s
    else if arrives oldHold s.mon.hold then seqHold s
    else if s.seq.held && s.mon.hold.isEmpty then
      s.setSeq { s.seq with held := false, remaining := s.seq.loaded }
    else s
  | .closing =>
    if arrives oldHard s.mon.hard then seqTo (enterLockout (closingCause oldHard s) s.seq) .hardReason none s
    else s
  | .ready => s
  | .opening => s
  | .reclaim => s
  | .lockout => s

end Sys2Proof.Machine
end

