-- ==== Sys2Proof/Machine/Monitor.lean ====
section
/-! DEFINITION. The condition monitor (Chapter 6): an owner's change of its condition, the replacement of the
action table, and the hand-on of the derived state. The hunt bar's hand-on to the hunt controller (R108) is in
Hunt.lean, whose abort itself reports a change of HUNT_ACTIVE here. -/

namespace Sys2Proof.Machine

/-- A close in progress is withdrawn: CLOSE_OUT released, its timer stopped, its memo removed (R73). -/
def releaseClose (s : State) : State :=
  s.setBrk { s.brk with closeOut := false, closeTimer := none, closeMemo := none }

/-- The breaker interface takes a change of the hard reasons: an arrival while CLOSE_OUT is asserted withdraws
the close and hands WITHDRAWN to the sequencer (R73). -/
def breakerHardChange (oldHard : List Cond) (s : State) : State :=
  if s.brk.closeOut && arrives oldHard s.mon.hard then seqWithdrawn (releaseClose s) else s

/-- The monitor takes new records: the derived state is recomputed and a change of the block set is handed to
the breaker interface and to the sequencer; unchanged sets hand nothing on (R106, R107, R109). -/
def adoptRecords (t : CondTable CondRec) (s : State) : State :=
  if s.mon.hard = hardOf t ∧ s.mon.hold = holdOf t then s.setMon (monitorOf t)
  else seqBlockChange s.mon.hard s.mon.hold (breakerHardChange s.mon.hard (s.setMon (monitorOf t)))

/-- The CONDITION report of a record as it stands (R112). -/
def conditionReport (c : Cond) (cause : CondCause) (s : State) : ConditionReport where
  time := s.time
  cond := c
  cause := cause
  active := (s.mon.recs.get c).active
  latched := (s.mon.recs.get c).latched
  inForce := (s.mon.recs.get c).inForce
  mode := (s.mon.recs.get c).mode
  actions := (s.mon.recs.get c).actions
  hard := s.mon.hard
  hold := s.mon.hold
  startBar := s.mon.startBar
  huntBar := s.mon.huntBar
  alarm := s.mon.alarm

/-- The report of `conditionReport` is created (R112). -/
def reportCondition (cause : CondCause) (s : State) (c : Cond) : State :=
  addReport (.condition (conditionReport c cause s)) s

/-- An owner reports its condition's active state (R102): a report equal to the field held changes nothing. -/
def ownerReport (c : Cond) (active : Bool) (s : State) : State :=
  if (s.mon.recs.get c).active = active then s
  else
    reportCondition .owner
      (adoptRecords (s.mon.recs.set c ((s.mon.recs.get c).setActive active)) s) c

/-- The records under the action table in use (R104, R105). -/
def retabled (table : CondTable ActionEntry) (t : CondTable CondRec) : CondTable CondRec :=
  CondTable.build fun c => (t.get c).retable (table.get c).mode (actionsUnder table c)

/-- The conditions whose latched field differs between two record tables, in number order. -/
def latchChanges (old new : CondTable CondRec) : List Cond :=
  Cond.all.filter fun c => (old.get c).latched != (new.get c).latched

/-- The monitor takes new records and creates a CONDITION report for each changed latch, in condition number order (R105,
R110; for the order at a replaced table, assumption log entry 11). -/
def replaceRecords (cause : CondCause) (t : CondTable CondRec) (s : State) : State :=
  (latchChanges s.mon.recs t).foldl (reportCondition cause) (adoptRecords t s)

end Sys2Proof.Machine
end

