-- ==== Sys2Proof/Machine/Hunt.lean ====
section
/-! DEFINITION. The hunt controller (Chapter 8), and the condition monitor's hand-on of the hunt bar to it
(R108): `setCondition` is the arrival of R102 as every owner outside this file reports it. -/

namespace Sys2Proof.Machine

/-! ## Messages -/

/-- The step of the plan snapshot that the step index names. -/
def currentStep (s : State) : HuntStep := (s.hunt.plan.getD []).getD (s.hunt.step - 1) ⟨0, 0⟩

/-- An OPEN or CLOSE of class HUNT. -/
def huntMessage (kind : DownKind) (station : Nat) : DownMessage :=
  { cls := .hunt, dest := station, kind := kind, cells := shortCells kind station }

/-- The controller sends an OPEN or CLOSE: held back behind a stale message, or handed to the down queue; nothing
when the queue finds no place, which R122 answers with NO_TAKE (R144, R146). -/
def sendHunt (kind : DownKind) (station : Nat) (s : State) : Option State :=
  if s.hunt.outstanding.isSome then some (s.setHunt { s.hunt with phase := some .held })
  else
    (joinQueue (huntMessage kind station) s).map fun s1 =>
      s1.setHunt
        { s1.hunt with
          phase := some .sent
          outstanding := some { kind := kind, station := station, inFlight := false, stale := false } }

/-- The step or hunt that owns the outstanding message ends: a waiting one is withdrawn, one in flight becomes
STALE (R148). -/
def dropOutstanding (s : State) : State :=
  match s.hunt.outstanding with
  | none => s
  | some m =>
    if m.inFlight then s.setHunt { s.hunt with outstanding := some { m with stale := true } }
    else withdrawWaiting .hunt (s.setHunt { s.hunt with outstanding := none })

/-- The station unsettled, taken in the event of the end: the station of a CURRENT message in flight, else the
station a step was waiting for (R149). -/
def unsettledAt (waited : Option Nat) (s : State) : Option Nat :=
  match s.hunt.outstanding with
  | some m => if m.inFlight && !m.stale then some m.station else waited
  | none => waited

/-! ## Ends of steps and hunts -/

/-- A step ends with a result: its record, the indicators now set, and a HUNT_STEP report (R147). -/
def endStep (result : StepResult) (s : State) : State :=
  let record : StepRecord :=
    { number := s.hunt.step
      station := (currentStep s).station
      result := result
      time := s.time
      judgedQ := s.hunt.judgedQ
      pointTime := s.hunt.pointTime }
  addReport
    (.huntStep
      { time := s.time, record := record, step := s.hunt.step, planLength := (s.hunt.plan.getD []).length })
    (s.setHunt
      { s.hunt with
        results := s.hunt.results ++ [record]
        indicators := joinSets s.hunt.indicators (indicatorAddresses s)
        phase := none
        judgedQ := none
        pointTime := none
        switchTimer := none
        dwellTimer := none })

/-- A hunt leaves its running states with a last-result record and a HUNT_END report, and HUNT_ACTIVE follows
the state (R140, R149). The HUNT_END report comes before the CONDITION report of HUNT_ACTIVE (assumption log entry
11). -/
def finishHunt (r : LastResult) (results : List StepRecord) (next : HuntState) (s : State) : State :=
  ownerReport .huntActive (next != .idle)
    (addReport (.huntEnd s.time r)
      (s.setHunt
        { s.hunt with
          state := next
          origin := none
          phase := none
          switchTimer := none
          dwellTimer := none
          results := results
          last := some r
          startTime := none }))

/-- The end of a hunt that had started (R149). -/
def endHunt (outcome : HuntOutcome) (cause : Option AbortCause) (bars : Option (List Cond)) (unsettled : Option Nat)
    (next : HuntState) (s : State) : State :=
  finishHunt
    { outcome := outcome
      cause := cause.map .abort
      bars := bars
      origin := s.hunt.origin
      startTime := s.hunt.startTime
      endTime := s.time
      planLength := some (s.hunt.plan.getD []).length
      stepsDone := s.hunt.results.length
      leftOpen := s.hunt.openStation
      unsettled := unsettled
      indicators := s.hunt.indicators }
    s.hunt.results next s

/-- The last-result record of a hunt that never started a step: NOT_STARTED, or an abort in DEFERRED (R141,
R143, R150; assumption log entry 10). -/
def emptyResult (outcome : HuntOutcome) (cause : HuntCause) (bars : Option (List Cond)) (origin : Option HuntOrigin)
    (s : State) : LastResult where
  outcome := outcome
  cause := some cause
  bars := bars
  origin := origin
  startTime := none
  endTime := s.time
  planLength := none
  stepsDone := 0
  leftOpen := none
  unsettled := none
  indicators := []

/-! ## Steps -/

/-- A station can be sent an OPEN: it has a record and is not SILENT (R144). -/
def stationAnswers (s : State) (address : Nat) : Bool :=
  match findStation s address with
  | some st => st.presence != .silent
  | none => false

/-- The next steps of the plan begin, first of the list first, until one sends or holds its OPEN; a step that
cannot ends NO_RESPONSE at once, and the end of the plan ends the hunt NOT_FOUND (R144, R147). -/
def beginSteps (unsettled : Option Nat) : List HuntStep → State → State
  | [], s => endHunt .notFound none none unsettled .idle s
  | st :: rest, s =>
    let s1 := s.setHunt { s.hunt with step := s.hunt.step + 1, state := .opening }
    if stationAnswers s1 st.station then
      match sendHunt .openSwitch st.station s1 with
      | some s2 => s2
      | none => beginSteps unsettled rest (endStep .noResponse s1)
    else beginSteps unsettled rest (endStep .noResponse s1)

/-- The hunt goes on after the step that has ended (R147). -/
def continueHunt (unsettled : Option Nat) (s : State) : State :=
  beginSteps unsettled ((s.hunt.plan.getD []).drop s.hunt.step) s

/-- A step ends NO_RESPONSE, REFUSED or PERSISTS and the hunt goes on. -/
def stepOver (result : StepResult) (unsettled : Option Nat) (s : State) : State :=
  continueHunt unsettled (endStep result s)

/-- A station that cannot be closed again ends the hunt ABORTED (R147). -/
def restoreFailed (unsettled : Option Nat) (s : State) : State :=
  endHunt .aborted (some .restoreFailed) none unsettled .idle (endStep .restoreFailed s)

/-! ## Aborts -/

/-- A hunt in DEFERRED, OPENING, DWELL or RESTORING is aborted (R150). An abort in DEFERRED empties the results list and
records no item of a plan (assumption log entry 10). -/
def huntAbort (cause : AbortCause) (s : State) : State :=
  let bars := if cause = .huntBar then some (huntBarsOf s.mon.recs) else none
  let next := if cause = .trip then HuntState.settling else HuntState.idle
  match s.hunt.state with
  | .idle => s
  | .settling => s
  | .deferred => finishHunt (emptyResult .aborted (.abort cause) bars s.hunt.origin s) [] next s
  | .opening =>
    let waited := if s.hunt.phase = some .answerWait then some (currentStep s).station else none
    endHunt .aborted (some cause) bars (unsettledAt waited s) next (endStep .interrupted (dropOutstanding s))
  | .dwell =>
    endHunt .aborted (some cause) bars (unsettledAt none s) next (endStep .interrupted (dropOutstanding s))
  | .restoring =>
    let waited := if s.hunt.phase = some .answerWait then some (currentStep s).station else none
    endHunt .aborted (some cause) bars (unsettledAt waited s) next (endStep .interrupted (dropOutstanding s))

/-- The hunt bar's becoming active between two states is handed to the hunt controller (R108). -/
def huntBarArrival (before after : State) : State :=
  if !before.mon.huntBar && after.mon.huntBar then huntAbort .huntBar after else after

/-- An owner reports its condition's active state, with the hunt bar's hand-on (R102, R108). -/
def setCondition (c : Cond) (active : Bool) (s : State) : State := huntBarArrival s (ownerReport c active s)

/-- The action table in use replaces modes and action sets (R105). -/
def applyTable (s : State) : State :=
  huntBarArrival s (replaceRecords .table (retabled s.plant.actions s.mon.recs) s)

/-! ## Starting a hunt -/

/-- Tests 2 to 7 of Table 8.5, in order: the reason of the first that fails. Test 4 reads the up stage and the image
(assumption log entry 31). -/
def huntTests (s : State) : Option NotStarted :=
  if !s.settings.huntEnabled then some .huntDisabled
  else if !usable s.store.images.hunt then some .planUnfit
  else if !stationsFit s then some .stationsUnfit
  else if s.mon.huntBar then some .huntBar
  else if s.seq.state ≠ .ready then some .sequencerNotReady
  else if s.brk.accepted ≠ .closed then some .breakerNotClosed
  else none

/-- A hunt starts (R142): snapshot, flags and results cleared, HUNT_ACTIVE active and reported, then step 1 begun. Where
HUNT_ACTIVE itself carries BAR_HUNT, the bar arrives after step 1 has begun (for both orders, assumption log entry
11). -/
def startHuntNow (origin : Option HuntOrigin) (s : State) : State :=
  let plan := parseHunt s.store.images.hunt.working
  let s1 := updateStations (fun st => { st with openedByHunt := false }) s
  let s2 :=
    s1.setHunt
      { s1.hunt with
        state := .opening
        origin := origin
        plan := some plan
        step := 0
        phase := none
        switchTimer := none
        dwellTimer := none
        openStation := none
        indicators := indicatorAddresses s1
        results := []
        startTime := some s.time
        judgedQ := none
        pointTime := none }
  let s3 := beginSteps none plan (ownerReport .huntActive true s2)
  huntBarArrival s s3

/-- A request whose tests pass: the hunt waits in DEFERRED while a start window is open, and starts otherwise
(R141). -/
def admitHunt (origin : HuntOrigin) (s : State) : State :=
  if s.adm.window.isSome then
    huntBarArrival s
      (ownerReport .huntActive true (s.setHunt { s.hunt with state := .deferred, origin := some origin }))
  else startHuntNow (some origin) s

/-- A hunt request makes the start tests of Table 8.5 (R141). -/
def requestTests (s : State) : Option NotStarted :=
  if s.hunt.state ≠ .idle then some .notIdle else huntTests s

/-- The bar conditions of a hunt that is not started: for cause HUNT_BAR alone (Table 8.4). -/
def barsOf (reason : NotStarted) (s : State) : Option (List Cond) :=
  if reason = .huntBar then some (huntBarsOf s.mon.recs) else none

/-- A hunt that fails its tests is reported NOT_STARTED and replaces the last-result record (R141, R143). -/
def huntNotStarted (reason : NotStarted) (origin : Option HuntOrigin) (s : State) : State :=
  finishHunt (emptyResult .notStarted (.notStarted reason) (barsOf reason s) origin s) [] .idle s

/-- A hunt request of the protection unit (R28, R141). With NOT_IDLE only the report is made. -/
def huntRequestSef (s : State) : State :=
  match requestTests s with
  | none => admitHunt .sef s
  | some .notIdle =>
    addReport (.huntEnd s.time (emptyResult .notStarted (.notStarted .notIdle) none (some .sef) s)) s
  | some reason => huntNotStarted reason (some .sef) s

/-- The start window's closing is handed to the hunt controller: DEFERRED repeats its tests (R143). -/
def huntWindowClosed (s : State) : State :=
  if s.hunt.state = .deferred then
    match huntTests s with
    | none => startHuntNow s.hunt.origin s
    | some reason => huntNotStarted reason s.hunt.origin s
  else s

/-- A taking-into-force of a group that no longer hunts aborts a hunt (R150). -/
def huntGroupChange (s : State) : State :=
  if !s.settings.huntEnabled || s.settings.sef.mode == .trip then huntAbort .group s else s

/-! ## Outcomes and answers -/

/-- The switch wait starts from the delivery of the step's own message (R145, R147). -/
def startSwitchWait (s : State) : State :=
  s.setHunt
    { s.hunt with
      phase := some .answerWait
      switchTimer := some { loaded := s.plant.switchWait * 1000, remaining := s.plant.switchWait * 1000 } }

/-- A held message is handed to the queue at the stale message's outcome (R148). -/
def sendHeldHunt (s : State) : State :=
  match s.hunt.state with
  | .opening =>
    match sendHunt .openSwitch (currentStep s).station s with
    | some s1 => s1
    | none => stepOver .noResponse none s
  | .restoring =>
    match sendHunt .closeSwitch (currentStep s).station s with
    | some s1 => s1
    | none => restoreFailed none s
  | .idle => s
  | .deferred => s
  | .dwell => s
  | .settling => s

/-- The outcome of the controller's outstanding message (R145, R147, R148). -/
def huntOutcome (o : DownOutcome) (s : State) : State :=
  match s.hunt.outstanding with
  | none => s
  | some m =>
    let s1 := s.setHunt { s.hunt with outstanding := none }
    if m.stale then (if s.hunt.phase = some .held then sendHeldHunt s1 else s1)
    else if s.hunt.phase = some .sent then
      match s.hunt.state with
      | .opening => if o = .delivered then startSwitchWait s1 else stepOver .noResponse none s1
      | .restoring => if o = .delivered then startSwitchWait s1 else restoreFailed none s1
      | .idle => s1
      | .deferred => s1
      | .dwell => s1
      | .settling => s1
    else s1

/-- A SWITCH_DONE handed on by the pilot bus controller: it acts only in phase ANSWER_WAIT and from the step's
station (R145, R147). -/
def huntSwitchDone (station : Nat) (r : SwitchResult) (s : State) : State :=
  if s.hunt.phase = some .answerWait ∧ station = (currentStep s).station then
    match s.hunt.state with
    | .opening =>
      if r = .doneOpen then
        let s1 := updateStation station (fun st => { st with openedByHunt := true }) s
        s1.setHunt
          { s1.hunt with
            state := .dwell
            phase := none
            switchTimer := none
            openStation := some station
            dwellTimer := some { loaded := (currentStep s).dwell, remaining := (currentStep s).dwell } }
      else stepOver .refused none s
    | .restoring =>
      if r = .doneClosed then
        let s1 := updateStation station (fun st => { st with openedByHunt := false }) s
        stepOver .persists none (s1.setHunt { s1.hunt with openStation := none })
      else restoreFailed none s
    | .idle => s
    | .deferred => s
    | .dwell => s
    | .settling => s
  else s

/-- The latest evaluation record shows a point taken after DONE_OPEN, with its hunt clear value (R146 test 2). -/
def judgeableQ (s : State) : Option Nat :=
  if s.meas.latest.present && decide (elapsed s.time s.meas.latest.time ≤ (currentStep s).dwell) then
    s.meas.latest.q.huntClear
  else none

/-- PERSISTS: the judgement is kept, and a CLOSE is sent or held (R146). -/
def beginRestore (s : State) : State :=
  let s1 := s.setHunt { s.hunt with state := .restoring, phase := none, dwellTimer := none }
  match sendHunt .closeSwitch (currentStep s1).station s1 with
  | some s2 => s2
  | none => restoreFailed none s1

/-- The dwell's judgement (R146). -/
def judgeDwell (s : State) : State :=
  if s.brk.accepted ≠ .closed then
    endHunt .aborted (some .breakerNotClosed) none none .idle (endStep .interrupted s)
  else
    match judgeableQ s with
    | none => beginRestore s
    | some q =>
      let s1 := s.setHunt { s.hunt with judgedQ := some q, pointTime := some s.meas.latest.time }
      if q < 256 then endHunt .found none none none .idle (endStep .cleared s1) else beginRestore s1

/-! ## Commands of the table -/

/-- SWITCH_WAIT_EXPIRY (R145, R147): when the wait has run out, the step ends NO_RESPONSE or RESTORE_FAILED. -/
def execSwitchWaitExpiry (s : State) : Host.Outcome State Fault Refusal :=
  .next
    (if timerDue s.hunt.switchTimer then
      match s.hunt.state with
      | .opening => stepOver .noResponse (some (currentStep s).station) s
      | .restoring => restoreFailed (some (currentStep s).station) s
      | .idle => s
      | .deferred => s
      | .dwell => s
      | .settling => s
    else s)

/-- DWELL_EXPIRY (R146): when the dwell has run out, the step is judged. -/
def execDwellExpiry (s : State) : Host.Outcome State Fault Refusal :=
  .next (if timerDue s.hunt.dwellTimer && s.hunt.state == .dwell then judgeDwell s else s)

/-- SETTLING_END (R151): at a 1 ms event that finds the sequencer in LOCKOUT, SETTLING ends. -/
def execSettlingEnd (s : State) : Host.Outcome State Fault Refusal :=
  .next
    (if s.due.settle && s.hunt.state == .settling && s.seq.state == .lockout then
      ownerReport .huntActive false (s.setHunt { s.hunt with state := .idle })
    else s)

end Sys2Proof.Machine
end

