-- ==== Sys2Proof/Machine/Admission.lean ====
section
/-! DEFINITION. The start admission unit (Chapter 9). -/

namespace Sys2Proof.Machine

/-- A START report of a drive, with the drive's fields after the event (R166). A source of 0 is HOST. For a drive without a
record the requirement is absent, as level and request are (assumption log entry 52). -/
def startReport (drive : Nat) (event : StartEvent) (cause : Option StartCause) (source : Option Nat)
    (window : Option (Nat × Nat)) (s : State) : State :=
  addReport
    (.start
      { time := s.time
        drive := drive
        event := event
        cause := cause
        source := source
        level := (findDrive s drive).map (·.level)
        request := (findDrive s drive).map (·.request)
        requirement := (findDrive s drive).map (requirement s.plant)
        quiet := s.adm.quiet
        window := window }) s

/-! ## Messages of the unit (R164) -/

/-- A GRANT of class ADMISSION (Table 7.3). -/
def grantMessage (station drive loaded : Nat) : DownMessage :=
  { cls := .admission, dest := station, kind := .grant, cells := grantCells station drive loaded }

/-- A RELEASE of class ADMISSION (Table 7.3). -/
def releaseMessage (station drive : Nat) : DownMessage :=
  { cls := .admission, dest := station, kind := .release, cells := releaseCells station drive }

/-- A RELEASE is queued directly, or becomes release due behind an outstanding message (R164). One that finds no
place has the outcome NO_TAKE (R122). -/
def queueRelease (drive station : Nat) (s : State) : State :=
  if s.adm.outstanding.isSome then
    s.setAdm { s.adm with releaseDue := some { drive := drive, station := station } }
  else
    match joinQueue (releaseMessage station drive) s with
    | some s1 =>
      s1.setAdm
        { s1.adm with
          outstanding :=
            some { kind := .release, drive := drive, station := station, inFlight := false, stale := false } }
    | none => startReport drive .releaseUndelivered none none none s

/-! ## The end of a window (R165) -/

/-- The level of the window's drive falls at every end but GRANT_UNDELIVERED; a removed drive has no record. -/
def lowersLevel (c : StartCause) : Bool := c != .grantUndelivered

/-- A RELEASE follows an end EXPIRED or CANCELLED (R165). -/
def callsForRelease (c : StartCause) : Bool := c == .expired || c == .cancelled

/-- The window's GRANT is dealt with and a RELEASE queued where the cause calls for one (R164, R165). A GRANT
that never went into flight was never granted, so no RELEASE follows it. -/
def settleGrant (w : StartWindow) (release : Bool) (s : State) : State :=
  match w.grant with
  | .hostDrive => s
  | .held => s
  | .waiting => withdrawWaiting .admission (s.setAdm { s.adm with outstanding := none })
  | .inFlight =>
    s.setAdm
      { s.adm with
        outstanding := s.adm.outstanding.map fun m => { m with stale := true }
        releaseDue :=
          if release then some { drive := w.drive, station := w.station } else s.adm.releaseDue }
  | .delivered => if release then queueRelease w.drive w.station s else s

/-- An open window ends with a cause; with no window nothing happens (R165). -/
def endWindow (cause : StartCause) (s : State) : State :=
  match s.adm.window with
  | none => s
  | some w =>
    let s1 :=
      updateDrive w.drive
        (fun d => { d with request := .none, level := if lowersLevel cause then .lowered else d.level }) s
    let s2 := settleGrant w (callsForRelease cause) s1
    let s3 := huntWindowClosed (s2.setAdm { s2.adm with window := none })
    startReport w.drive .ended (some cause) none (some (w.loaded, elapsed s.time w.opened)) s3

/-- The window's GRANT goes to the down queue, or is HELD behind an outstanding message (R163, R164). One that
finds no place has the outcome NO_TAKE (R122). -/
def queueGrant (w : StartWindow) (s : State) : State :=
  if s.adm.outstanding.isSome then s.setAdm { s.adm with window := some { w with grant := .held } }
  else
    match joinQueue (grantMessage w.station w.drive w.loaded) s with
    | some s1 =>
      s1.setAdm
        { s1.adm with
          window := some { w with grant := .waiting }
          outstanding :=
            some { kind := .grant, drive := w.drive, station := w.station, inFlight := false, stale := false } }
    | none => endWindow .grantUndelivered (s.setAdm { s.adm with window := some { w with grant := .held } })

/-! ## Outcomes (R164) -/

/-- The release due is queued once no message is outstanding (R164). -/
def sendReleaseDue (s : State) : State :=
  match s.adm.outstanding, s.adm.releaseDue with
  | none, some r => queueRelease r.drive r.station (s.setAdm { s.adm with releaseDue := none })
  | _, _ => s

/-- A held GRANT is handed to the down queue once no message is outstanding (R164). -/
def sendHeldGrant (s : State) : State :=
  match s.adm.outstanding, s.adm.window with
  | none, some w => if w.grant = .held then queueGrant w s else s
  | _, _ => s

/-- The effect of one outcome by the table of R164; the message is no longer outstanding. -/
def admOutcomeEffect (m : StartMessage) (o : DownOutcome) (s : State) : State :=
  if m.kind = .grant then
    if m.stale then
      if o = .delivered then s else s.setAdm { s.adm with releaseDue := none }
    else if o = .delivered then
      s.setAdm { s.adm with window := s.adm.window.map fun w => { w with grant := .delivered } }
    else endWindow .grantUndelivered s
  else if o = .delivered then s
  else startReport m.drive .releaseUndelivered none none none s

/-- The outcome of the unit's outstanding message (R164). -/
def admOutcome (o : DownOutcome) (s : State) : State :=
  match s.adm.outstanding with
  | none => s
  | some m =>
    sendHeldGrant (sendReleaseDue (admOutcomeEffect m o (s.setAdm { s.adm with outstanding := none })))

/-! ## Requests (R157, R158, R159) -/

/-- DRIVES is present and valid. -/
def drivesUsable (s : State) : Bool := usable s.store.images.drives

/-- A request becomes PENDING: arrival time, deadline and the end of the start queue (R157). -/
def makePending (d : Drive) (source : Nat) (s : State) : State :=
  let s1 :=
    updateDrive d.drive
      (fun x => { x with request := .pending s.time (s.time + BitVec.ofNat 32 (x.lifetime * 1000)) }) s
  startReport d.drive .requested none (some source) none
    (s1.setAdm { s1.adm with queue := s1.adm.queue ++ [d.drive] })

/-- A PENDING request leaves the start queue with request NONE (R159). -/
def dropPending (drive : Nat) (s : State) : State :=
  let s1 := updateDrive drive (fun x => { x with request := .none }) s
  s1.setAdm { s1.adm with queue := s1.adm.queue.filter (· != drive) }

/-- A request leaves the queue with a START report WITHDRAWN (R155, R156, R159). -/
def withdrawRequest (cause : StartCause) (s : State) (drive : Nat) : State :=
  startReport drive .withdrawn (some cause) none none (dropPending drive s)

/-- A START_REQUEST is judged (R157). -/
def admStartRequest (source drive : Nat) (s : State) : State :=
  if !drivesUsable s then startReport drive .rejected (some .drivesUnfit) (some source) none s
  else
    match findDrive s drive with
    | none => startReport drive .rejected (some .unknownDrive) (some source) none s
    | some d =>
      if d.station ≠ source ∨ d.station = 0 then
        startReport drive .rejected (some .wrongStation) (some source) none s
      else if d.request ≠ .none then s
      else makePending d source s

/-- A message comes from the open window's station for its drive (R165). -/
def windowMatches (source drive : Nat) (s : State) : Bool :=
  match s.adm.window with
  | some w => w.station == source && w.drive == drive
  | none => false

/-- A START_DONE ends the window it belongs to (R165). -/
def admStartDone (source drive : Nat) (s : State) : State :=
  if windowMatches source drive s then endWindow .done s else s

/-- A drive's request is PENDING. -/
def Drive.isPending (d : Drive) : Bool :=
  match d.request with
  | .pending _ _ => true
  | .none => false
  | .window => false

/-- A START_ABANDON ends the window it belongs to, or removes the pending request of the station's own drive
(R159, R165). -/
def admStartAbandon (source drive : Nat) (s : State) : State :=
  if windowMatches source drive s then endWindow .abandoned s
  else
    match findDrive s drive with
    | none => s
    | some d =>
      if d.station = source ∧ d.isPending = true then withdrawRequest .abandoned s drive else s

/-- REQUEST_START's judgement (R158): the reply, and the state after it. The reply with the note ALREADY_PENDING carries
the same items as the other reply OK (assumption log entry 32). -/
def ownRequestStart (payload : List Byte) (s : State) : Reply × State :=
  let n := u8 payload 0
  if 7 < n then (badArgument 1, s)
  else if !drivesUsable s then (refusedFor .drivesUnfit .empty, s)
  else
    match findDrive s n with
    | none => (badArgument 1, s)
    | some d =>
      if d.station ≠ 0 then (refusedFor .stationDrive .empty, s)
      else if d.request ≠ .none then
        (okReply (.startPending true d.level (requirement s.plant d) s.adm.quiet), s)
      else (okReply (.startPending false d.level (requirement s.plant d) s.adm.quiet), makePending d 0 s)

/-- The reply of CANCEL_START: the drive's request and level after it (Table 10.5). -/
def cancelledReply (drive : Nat) (s : State) : Reply :=
  match findDrive s drive with
  | some d => okReply (.startCancelled d.request d.level)
  | none => badArgument 1

/-- CANCEL_START's judgement (R159, R165). -/
def ownCancelStart (payload : List Byte) (s : State) : Reply × State :=
  let n := u8 payload 0
  if 7 < n then (badArgument 1, s)
  else
    match findDrive s n with
    | none => (badArgument 1, s)
    | some d =>
      match d.request with
      | .none => (refusedFor .notPending (.startCancelled d.request d.level), s)
      | .pending _ _ => (cancelledReply n (withdrawRequest .cancelled s n), withdrawRequest .cancelled s n)
      | .window => (cancelledReply n (endWindow .cancelled s), endWindow .cancelled s)

/-! ## Quiet time and admission -/

/-- A squared multiple is present and below 256. -/
def quietValue (q : Option Nat) : Bool :=
  match q with
  | some v => decide (v < 256)
  | none => false

/-- The evaluation point is quiet (R160). -/
def pointIsQuiet (q : Multiples) (s : State) : Bool :=
  s.adm.window.isNone && s.seq.state == .ready && s.brk.accepted == .closed && quietValue q.quiet.a &&
    quietValue q.quiet.b && quietValue q.quiet.c

/-- The quiet test at an evaluation point (R160). -/
def admPoint (q : Multiples) (s : State) : State :=
  if pointIsQuiet q s then
    s.setAdm { s.adm with second := if s.adm.second = .empty then .quiet else s.adm.second }
  else s.setAdm { s.adm with quiet := 0, second := .spoiled }

/-- The quiet counter is brought up to date from the second state (R161). -/
def countSecond (a : Admission) : Admission :=
  { a with
    quiet :=
      match a.second with
      | .quiet => min 255 (a.quiet + 1)
      | .spoiled => a.quiet
      | .empty => 0
    second := .empty }

/-- The restoration of levels at a boundary (R162 step 1). -/
def restoreLevel (p : Plant) (quiet : Nat) (d : Drive) : Drive :=
  if d.level = .lowered ∧ requirement p d ≤ quiet then { d with level := .normal } else d

/-- The state after the counting and the restoration of a boundary (R161, R162 step 1). -/
def afterRestoration (s : State) : State :=
  let s1 := s.setAdm (countSecond s.adm)
  if drivesUsable s then
    s1.setAdm { s1.adm with drives := s1.adm.drives.map (restoreLevel s.plant s1.adm.quiet) }
  else s1

/-- The standing requirements of an admission (R162 step 2). -/
def admissionOpen (s : State) : Bool :=
  drivesUsable s && s.adm.window.isNone && !s.mon.startBar && s.hunt.state == .idle && s.settings.startsAllowed &&
    s.seq.state == .ready && s.brk.accepted == .closed

/-- The first drive goes before the second: a smaller requirement, or an equal one and a lower number (R162). -/
def goesBefore (p : Plant) (x y : Drive) : Bool :=
  decide (requirement p x < requirement p y) ||
    (requirement p x == requirement p y && decide (x.drive < y.drive))

/-- The drive of a list that goes before all others. -/
def firstDrive (p : Plant) : List Drive → Option Drive
  | [] => none
  | d :: rest =>
    match firstDrive p rest with
    | none => some d
    | some e => if goesBefore p e d then some e else some d

/-- The drive that a boundary admits, if any (R162 step 2). -/
def admittedDrive (s : State) : Option Drive :=
  if admissionOpen s then
    firstDrive s.plant
      (s.adm.drives.filter fun d => d.isPending && decide (requirement s.plant d ≤ s.adm.quiet))
  else none

/-- The window as recorded at its opening (R163 step 3). -/
def openedWindow (d : Drive) (s : State) : StartWindow where
  drive := d.drive
  station := d.station
  opened := s.time
  loaded := d.windowLength
  remaining := d.windowLength
  grant := .hostDrive

/-- The window of an admitted drive opens (R163). The GRANT of a station drive is queued or held. -/
def openWindow (d : Drive) (s : State) : State :=
  let s1 := updateDrive d.drive (fun x => { x with request := .window }) s
  let s2 :=
    s1.setAdm
      { s1.adm with
        queue := s1.adm.queue.filter (· != d.drive)
        quiet := 0
        window := some (openedWindow d s) }
  startReport d.drive .granted none none (some (d.windowLength, 0))
    (if d.station = 0 then s2 else queueGrant (openedWindow d s) s2)

/-! ## The DRIVES image -/

/-- A drive record newly built from an entry (R155, R167). -/
def newDrive (e : DriveEntry) : Drive :=
  { drive := e.drive, station := e.station, cls := e.cls, windowLength := e.windowLength, lifetime := e.lifetime,
    level := .normal, request := .none }

/-- The record of an entry after a load: a kept one takes the new copied fields, another is new (R155). -/
def rebuiltDrive (old : List Drive) (e : DriveEntry) : Drive :=
  match old.find? fun d => d.drive == e.drive with
  | some d => { d with station := e.station, cls := e.cls, windowLength := e.windowLength, lifetime := e.lifetime }
  | none => newDrive e

/-- Entries in drive number order. -/
def inDriveOrder (l : List DriveEntry) : List DriveEntry :=
  (List.range 8).filterMap fun n => l.find? fun e => e.drive == n

/-- The open window's drive is no longer among the records. -/
def windowRemoved (s : State) : Bool :=
  match s.adm.window with
  | some w => (findDrive s w.drive).isNone
  | none => false

/-- The records are rebuilt at an accepted load of DRIVES (R155). The reports WITHDRAWN are created before that of the
window's end (assumption log entry 11). -/
def rebuildDrives (entries : List DriveEntry) (s : State) : State :=
  let gone :=
    s.adm.drives.filter fun d => d.isPending && !entries.any fun e => e.drive == d.drive
  let s1 := s.setAdm { s.adm with drives := (inDriveOrder entries).map (rebuiltDrive s.adm.drives) }
  let s2 := (gone.map (·.drive)).foldl (withdrawRequest .removed) s1
  if windowRemoved s2 then endWindow .removed s2 else s2

/-- DRIVES becomes invalid: every pending request is withdrawn, in queue order (R156). -/
def drivesInvalid (s : State) : State := s.adm.queue.foldl (withdrawRequest .drivesUnfit) s

/-! ## Commands of the table -/

/-- WHOLE_SECOND_BOUNDARY (R161, R162, R163), when the time base has just reached a multiple of 1000. -/
def execWholeSecondBoundary (s : State) : Host.Outcome State Fault Refusal :=
  .next
    (if s.due.second then
      let s1 := afterRestoration (s.setDue { s.due with second := false })
      match admittedDrive s1 with
      | some d => openWindow d s1
      | none => s1
    else s)

/-- REQUEST_LIFETIME_EXPIRY (R159): the pending request of a drive whose lifetime has run out leaves the queue. -/
def execRequestLifetimeExpiry (drive : Nat) (s : State) : Host.Outcome State Fault Refusal :=
  .next
    (match findDrive s drive with
      | some d =>
        if lifetimeDue s d then startReport drive .expired none none none (dropPending drive s) else s
      | none => s)

/-- START_WINDOW_EXPIRY (R165): the remaining time has reached 0. -/
def execStartWindowExpiry (s : State) : Host.Outcome State Fault Refusal :=
  .next (if windowDue s then endWindow .expired s else s)

end Sys2Proof.Machine
end

