-- ==== Sys2Proof/Machine/Coils.lean ====
section
/-! DEFINITION. The two coil outputs of the breaker interface: the judgement of a trip request (R68, R73) and of a
close request (R71). -/

namespace Sys2Proof.Machine

/-- A close in progress is withdrawn by a trip's assertion, and WITHDRAWN handed to the sequencer (R73). -/
def withdrawClose (s : State) : State := if s.brk.closeOut then seqWithdrawn (releaseClose s) else s

/-- TRIP_OUT is asserted with its memo and its timer, after the withdrawal of a close (R68, R75). -/
def assertTrip (origin : TripOrigin) (s : State) : State :=
  let s1 := withdrawClose s
  s1.setBrk
    { s1.brk with
      tripOut := true
      tripMemo := some { origin := origin, time := s.time }
      tripTimer := some s.plant.tripTimeout }

/-- The result of a trip request in a state (R68). -/
def tripJudgement (b : Breaker) : TripResult :=
  if b.accepted = .opened then .alreadyOpen else if b.tripOut then .alreadyAsserted else .asserted

/-- A trip request acts by its judgement (R68). -/
def tripRequest (origin : TripOrigin) (s : State) : State :=
  if tripJudgement s.brk = .asserted then assertTrip origin s else s

/-- The first guard of a close request that fails, if any (R71). -/
def closeJudgement (s : State) : Option CloseRefusal :=
  if s.brk.tripOut then some .tripActive
  else if !s.mon.hard.isEmpty then some .hardBlock
  else if s.brk.accepted ≠ .opened then some .notOpen
  else if s.brk.closeOut then some .alreadyAsserted
  else none

/-- CLOSE_OUT is asserted with its memo and its timer (R71, R75). -/
def assertClose (origin : CloseOrigin) (s : State) : State :=
  s.setBrk
    { s.brk with
      closeOut := true
      closeMemo := some { origin := origin, time := s.time }
      closeTimer := some s.plant.closeTimeout }

/-- A close request acts by its judgement; a refused one changes nothing (R71). -/
def closeRequest (origin : CloseOrigin) (s : State) : State :=
  if closeJudgement s = none then assertClose origin s else s

/-- A timer's remaining time: the loaded value less the milliseconds since the request, down to 0 (R75). -/
def timerLeft (now : Time) (loaded : Option Nat) (request : Option Time) : Option Nat :=
  match loaded, request with
  | some l, some t => some (l - elapsed now t)
  | _, _ => none

/-- The breaker interface items of READ_STATUS (R76). -/
def breakerStatus (s : State) : BreakerStatus where
  accepted := s.brk.accepted
  ready := s.brk.ready
  tripOut := s.brk.tripOut
  closeOut := s.brk.closeOut
  tripMemo := s.brk.tripMemo
  closeMemo := s.brk.closeMemo
  tripRemaining := timerLeft s.time s.brk.tripTimer (s.brk.tripMemo.map (·.time))
  closeRemaining := timerLeft s.time s.brk.closeTimer (s.brk.closeMemo.map (·.time))

end Sys2Proof.Machine
end

