-- ==== Sys2Proof/Machine/Sequencer.lean ====
section
/-! DEFINITION. The reclose sequencer (Chapter 5): trips, breaker changes, close outcomes, group changes, manual
operations and timers. What the condition monitor hands it stands in SequencerCore.lean. -/

namespace Sys2Proof.Machine

/-- The record becomes `r`, with its SEQUENCE report; a departure from READY ends an open start window (R99,
R165). The SEQUENCE report comes before the window's START report ENDED (assumption log entry 11). -/
def seqMove (r : Sequencer) (event : SeqEvent) (origin : Option ChangeOrigin) (s : State) : State :=
  if s.seq.state = .ready ∧ r.state ≠ .ready then endWindow .tripped (seqTo r event origin s)
  else seqTo r event origin s

/-! ## Trips -/

/-- The record in OPENING after a trip (R79, R95). -/
def enterOpening (trip : LastTrip) (r : Sequencer) : Sequencer :=
  { r with
    state := .opening
    loaded := none
    remaining := none
    held := false
    lastTrip := some trip
    closeOrigin := none
    closeWithdrawn := false
    cause := none }

/-- A trip merged into the last trip record (R80). -/
def mergeTrip (old : Option LastTrip) (trip : LastTrip) : LastTrip :=
  match old with
  | none => trip
  | some o =>
    { trip with
      origin := if o.origin = .manual ∨ trip.origin = .manual then .manual else .protection
      eligible := o.eligible && trip.eligible }

/-- The lockout cause of a trip that no sequence can follow (R79, R80, R95). -/
def tripCause (o : TripOrigin) : LockoutCause :=
  match o with
  | .manual => .manualTrip
  | .protection => .unsequencedTrip

/-- The event name of a trip (R99). -/
def tripEvent (o : TripOrigin) : SeqEvent :=
  match o with
  | .manual => .manualTrip
  | .protection => .protectionTrip

/-- A trip taken in READY, CLOSING or RECLAIM (R79, R95). -/
def tripFromClosed (trip : LastTrip) (s : State) : State :=
  if s.brk.accepted = .opened then
    seqMove (enterLockout (tripCause trip.origin) { s.seq with lastTrip := some trip }) (tripEvent trip.origin)
      none s
  else seqMove (enterOpening trip s.seq) (tripEvent trip.origin) none s

/-- A protection or manual trip arrives at the sequencer (R79, R80, R95). -/
def seqTrip (trip : LastTrip) (s : State) : State :=
  match s.seq.state with
  | .ready => tripFromClosed trip s
  | .closing => tripFromClosed trip s
  | .reclaim => tripFromClosed trip s
  | .opening => s.setSeq { s.seq with lastTrip := some (mergeTrip s.seq.lastTrip trip) }
  | .deadTime =>
    seqMove (enterLockout (tripCause trip.origin) { s.seq with lastTrip := some trip }) (tripEvent trip.origin)
      none s
  | .lockout =>
    s.setSeq
      { s.seq with
        lastTrip := some trip
        cause := if s.seq.posAwaited then some (tripCause trip.origin) else s.seq.cause }

/-- The last trip record of a protection trip (R79). -/
def protectionRecord (t : Trip) : LastTrip :=
  { origin := .protection, eligible := t.eligible, time := t.time, group := t.group }

/-- The last trip record of a manual trip (R95). Its time is that of the execution and its group the active one
(assumption log entry 47). -/
def manualRecord (s : State) : LastTrip :=
  { origin := .manual, eligible := false, time := s.time, group := s.regime.active }

/-! ## Breaker changes -/

/-- The first test of R81 that holds in OPENING at the acceptance of OPEN, as a lockout cause. -/
def openCause (s : State) : Option LockoutCause :=
  if s.seq.lastTrip.any (fun t => t.origin == .manual) then some .manualTrip
  else if !s.seq.lastTrip.any (·.eligible) then some .notEligible
  else if s.settings.shotLimit ≤ s.seq.shots then some (.shotsUsed s.seq.shots s.settings.shotLimit)
  else if !s.mon.hard.isEmpty then some (.hardBlock (lowest s.mon.hard))
  else none

/-- The active group's dead time for the next shot (R81). -/
def nextDeadTime (s : State) : Nat := s.settings.deadTimes.getD s.seq.shots 0

/-- The record in DEAD_TIME (R81). -/
def enterDeadTime (time : Nat) (r : Sequencer) : Sequencer :=
  { r with state := .deadTime, loaded := some time, remaining := some time, held := false, holdUsed := 0 }

/-- OPEN answers the trip in OPENING (R81, R84, R85). -/
def openJudgement (origin : ChangeOrigin) (s : State) : State :=
  match openCause s with
  | some cause => seqMove (enterLockout cause s.seq) .openAccepted (some origin) s
  | none =>
    let s1 := seqMove (enterDeadTime (nextDeadTime s) s.seq) .openAccepted (some origin) s
    if s1.mon.hold.isEmpty then s1 else seqHold s1

/-- A closing that the sequencer did not time: RECLAIM with shots done 4 (R87, R91, R92). -/
def externalClosing (origin : ChangeOrigin) (s : State) : State :=
  seqMove (enterReclaim s.settings.reclaim 4 s.seq) .externalChange (some origin) s

/-- The first breaker change after a full restart (R101). -/
def initialChange (new : BreakerPos) (s : State) : State :=
  let r := { s.seq with posAwaited := false }
  if new = .closed ∧ s.seq.cause = some .powerOnOpen then
    seqMove { r with state := .ready, cause := none } .initial (some .initial) s
  else
    addReport (.sequence (sequenceReport s.seq.state .initial (some .initial) (s.setSeq r))) (s.setSeq r)

/-- A breaker change of origin TRIP, CLOSE or EXTERNAL; `wasClosed` says that the latest accepted CLOSED or
OPEN before it was CLOSED (R82, R87, R88, R90, R91, R92). For an OPEN of origin TRIP in READY and RECLAIM, and the event
name EXTERNAL_CHANGE of its report, see assumption log entry 19. -/
def laterChange (new : BreakerPos) (origin : ChangeOrigin) (wasClosed : Bool) (s : State) : State :=
  match s.seq.state with
  | .opening => if new = .opened then openJudgement origin s else s
  | .ready =>
    if new = .opened ∧ origin ≠ .close then
      seqMove (enterLockout .externalOpen s.seq) .externalChange (some origin) s
    else if new = .closed ∧ origin = .external ∧ wasClosed = false then externalClosing origin s
    else s
  | .reclaim =>
    if new = .opened then seqMove (enterLockout .externalOpen s.seq) .externalChange (some origin) s else s
  | .deadTime => if new = .closed ∧ origin = .external then externalClosing origin s else s
  | .lockout => if new = .closed ∧ origin = .external then externalClosing origin s else s
  | .closing => s

/-- Whether the latest accepted CLOSED or OPEN is CLOSED, after an acceptance (assumption log entry 8). -/
def closedAfter (new : BreakerPos) (before : Bool) : Bool :=
  match new with
  | .closed => true
  | .opened => false
  | .travel => before
  | .faulty => before
  | .none => before

/-- A breaker change arrives at the sequencer (R66, R78). -/
def seqBreakerChange (new : BreakerPos) (origin : ChangeOrigin) (s : State) : State :=
  let s1 := s.setSeq { s.seq with closedLast := closedAfter new s.seq.closedLast }
  if origin = .initial then initialChange new s1 else laterChange new origin s.seq.closedLast s1

/-! ## Close outcomes, breaker failure, groups -/

/-- CLOSED_OK arrives (R88, R92). -/
def seqClosedOk (s : State) : State :=
  match s.seq.state with
  | .closing => seqMove (enterReclaim s.settings.reclaim s.seq.shots s.seq) .closedOk (some .close) s
  | .lockout => seqMove (enterReclaim s.settings.reclaim 4 s.seq) .closedOk (some .close) s
  | .ready => s
  | .opening => s
  | .deadTime => s
  | .reclaim => s

/-- TIMED_OUT arrives (R88). -/
def seqTimedOut (s : State) : State :=
  if s.seq.state = .closing then
    seqMove (enterLockout (.closeFail (s.seq.closeOrigin.getD .automatic)) s.seq) .closeTimeout none s
  else s

/-- The activation of BREAKER_FAIL arrives (R82). -/
def seqBreakerFail (s : State) : State :=
  if s.seq.state = .opening then seqMove (enterLockout .breakerFail s.seq) .breakerFail none s else s

/-- A taking-into-force of a group arrives (R94). -/
def seqGroupChange (s : State) : State :=
  if s.seq.state = .deadTime then
    if s.settings.shotLimit ≤ s.seq.shots then
      seqMove (enterLockout (.shotsUsed s.seq.shots s.settings.shotLimit) s.seq) .groupChange none s
    else if s.seq.held ∧ (s.settings.maxHold = 0 ∨ s.settings.maxHold < s.seq.holdUsed) then
      seqMove (enterLockout (.holdExceeded s.seq.holdUsed s.settings.maxHold) s.seq) .groupChange none s
    else s
  else s

/-! ## Manual operations -/

/-- TRIP: the breaker interface, then the sequencer (R68, R95). -/
def ownTrip (s : State) : Reply × State :=
  let s1 := seqTrip (manualRecord s) (tripRequest .manual s)
  (okReply (.tripResult (tripJudgement s.brk) s1.seq.state), s1)

/-- The reason code of a close refusal (Table 10.6). -/
def closeReason (r : CloseRefusal) : Reason :=
  match r with
  | .tripActive => .tripActive
  | .hardBlock => .hardBlock
  | .notOpen => .notOpen
  | .alreadyAsserted => .alreadyAsserted

/-- The content of CLOSE's reply (Table 10.5). -/
def closeContent (s : State) : ReplyBody := .seqState s.seq.state

/-- The first guard of R96 that refuses a manual close, as its reply. -/
def closeGuards (s : State) : Option Reply :=
  if s.seq.state ≠ .ready ∧ s.seq.state ≠ .lockout then some (refusedFor .state (closeContent s))
  else if s.brk.accepted ≠ .opened then some (refusedFor .notOpen (closeContent s))
  else if !s.mon.hard.isEmpty then some (refusedBy .hardBlock (lowest s.mon.hard) (closeContent s))
  else if !s.mon.hold.isEmpty then some (refusedBy .hold (lowest s.mon.hold) (closeContent s))
  else if s.brk.ready ≠ .active then some (refusedFor .mechanismNotReady (closeContent s))
  else none

/-- The record in CLOSING after a manual close (R96). -/
def enterManualClosing (r : Sequencer) : Sequencer :=
  { r with
    state := .closing
    shots := 4
    loaded := none
    remaining := none
    held := false
    closeOrigin := some .manual
    closeWithdrawn := false
    cause := none }

/-- CLOSE: the sequencer, then the breaker interface (R96). -/
def ownClose (s : State) : Reply × State :=
  match closeGuards s with
  | some reply => (reply, s)
  | none =>
    match closeJudgement s with
    | some r => (refusedFor (closeReason r) (closeContent s), s)
    | none =>
      let s1 := seqMove (enterManualClosing s.seq) .manualClose none (closeRequest .manual s)
      (okReply (closeContent s1), s1)

/-- The record in READY, with shots done 0 (R90, R97). -/
def enterReady (r : Sequencer) : Sequencer :=
  { r with state := .ready, shots := 0, loaded := none, remaining := none, cause := none }

/-- The content of RESET_LOCKOUT's reply (Table 10.5). -/
def resetContent (s : State) : ReplyBody := .lockoutReset s.seq.state s.mon.hard

/-- The sequencer's judgement of RESET_LOCKOUT (R97). -/
def judgeReset (s : State) : Reply × State :=
  if s.seq.state ≠ .lockout then (refusedFor .notInLockout (resetContent s), s)
  else if s.seq.posAwaited then (refusedFor .noPosition (resetContent s), s)
  else if !s.mon.hard.isEmpty then (refusedBy .hardBlock (lowest s.mon.hard) (resetContent s), s)
  else
    let s1 := seqMove (enterReady s.seq) .resetLockout none s
    (okReply (resetContent s1), s1)

/-- RESET_LOCKOUT: the breaker interface clears CLOSE_FAIL, then the sequencer judges (R74, R97). -/
def ownResetLockout (s : State) : Reply × State := judgeReset (setCondition .closeFail false s)

/-! ## Timers -/

/-- One 1 ms event of the dead, hold and reclaim timers (R83, R84, R90). -/
def paceSequencer (r : Sequencer) : Sequencer :=
  match r.state with
  | .deadTime =>
    if r.held then { r with holdUsed := r.holdUsed + 1 }
    else { r with remaining := r.remaining.map (· - 1) }
  | .reclaim => { r with remaining := r.remaining.map (· - 1) }
  | .ready => r
  | .opening => r
  | .closing => r
  | .lockout => r

/-- The lockout cause of a refused automatic close (R83). -/
def refusedCloseCause (s : State) (r : CloseRefusal) : LockoutCause :=
  match r with
  | .hardBlock => .hardBlock (lowest s.mon.hard)
  | .tripActive => .closeRefused .tripActive
  | .notOpen => .closeRefused .notOpen
  | .alreadyAsserted => .closeRefused .alreadyAsserted

/-- The record in CLOSING after a dead time's expiry (R83). -/
def enterAutoClosing (r : Sequencer) : Sequencer :=
  { r with
    state := .closing
    shots := r.shots + 1
    loaded := none
    remaining := none
    held := false
    closeOrigin := some .automatic
    closeWithdrawn := false }

/-- The dead timer expires (R83). -/
def deadTimeEnds (s : State) : State :=
  if s.settings.shotLimit ≤ s.seq.shots then
    seqMove (enterLockout (.shotsUsed s.seq.shots s.settings.shotLimit) s.seq) .expiry none s
  else
    let s1 := seqMove (enterAutoClosing s.seq) .expiry none s
    match closeJudgement s1 with
    | none => closeRequest .automatic s1
    | some r => seqMove (enterLockout (refusedCloseCause s1 r) s1.seq) .closeRefused none s1

/-- DEAD_TIMER_EXPIRY (R83). -/
def execDeadTimerExpiry (s : State) : Host.Outcome State Fault Refusal :=
  .next (if deadTimerDue s then deadTimeEnds s else s)

/-- HOLD_EXCEEDED (R85): the detail names the maximum hold that the 1 ms event compared. -/
def execHoldExceeded (s : State) : Host.Outcome State Fault Refusal :=
  .next
    (if holdDue s then
      seqMove (enterLockout (.holdExceeded s.seq.holdUsed (s.due.holdOver.getD 0)) s.seq) .holdExceeded none s
    else s)

/-- RECLAIM_TIMER_EXPIRY (R90). -/
def execReclaimTimerExpiry (s : State) : Host.Outcome State Fault Refusal :=
  .next (if reclaimDue s then seqMove (enterReady s.seq) .expiry none s else s)

end Sys2Proof.Machine
end

