-- ==== Sys2Proof/Machine/Breaker.lean ====
section
/-! DEFINITION. The breaker interface (Chapter 4): the acceptance of contacts and the expiry of the coil timers.
The coil outputs' judgements stand in Coils.lean. -/

namespace Sys2Proof.Machine

/-- Trip elements are no longer suspended (R35). -/
def endSuspension (s : State) : State := s.setProt { s.prot with suspended := false }

/-- OPEN answers a trip: TRIP_OUT released, its timer stopped, its memo removed, and BREAKER_FAIL cleared
(R69). -/
def completeTrip (s : State) : State :=
  setCondition .breakerFail false
    (if s.brk.tripMemo.isSome then
      s.setBrk { s.brk with tripOut := false, tripTimer := none, tripMemo := none }
    else s)

/-- CLOSED answers a close: CLOSE_OUT released, its timer stopped, its memo removed, and CLOSED_OK handed to the
sequencer (R72). -/
def completeClose (s : State) : State := if s.brk.closeMemo.isSome then seqClosedOk (releaseClose s) else s

/-- The interface's acts on its own outputs after an acceptance has been handed on (R69, R72). -/
def ownOutputs (new : BreakerPos) (s : State) : State :=
  match new with
  | .opened => completeTrip (endSuspension s)
  | .closed => completeClose s
  | .travel => s
  | .faulty => s
  | .none => s

/-- A new breaker state is accepted and handed on at once: to the admission unit, to the sequencer with its
origin, and OPEN to the protection unit; then the interface acts on its own outputs (R65, R66, R69, R72,
R165). -/
def acceptPosition (new : BreakerPos) (s : State) : State :=
  let s1 := s.setBrk { s.brk with accepted := new }
  let s2 := if new = .closed then s1 else endWindow .breakerChange s1
  ownOutputs new (seqBreakerChange new (changeOrigin s.brk new) s2)

/-- The position scan of a 1 ms event (R65): acceptance at the second of two equal scans. -/
def scanPosition (a b : Bool) (s : State) : State :=
  let s1 := s.setBrk { s.brk with prevPos := some (a, b) }
  if s.brk.prevPos = some (a, b) ∧ s.brk.accepted ≠ positionOf a b then acceptPosition (positionOf a b) s1 else s1

/-- The ready state of a level (R67). -/
def readyOf (level : Bool) : ReadyState := if level then .active else .inactive

/-- The ready scan of a 1 ms event (R67); BREAKER_NOT_READY follows the accepted ready state. -/
def scanReady (level : Bool) (s : State) : State :=
  let s1 := s.setBrk { s.brk with prevReady := some level }
  if s.brk.prevReady = some level ∧ s.brk.ready ≠ readyOf level then
    setCondition .breakerNotReady (!level) (s1.setBrk { s1.brk with ready := readyOf level })
  else s1

/-- The trip timer expires (R70): TRIP_OUT released with the memo kept, BREAKER_FAIL active, its activation handed
to the sequencer as well, and suspension ended, in this order (assumption log entry 11). -/
def tripTimeout (s : State) : State :=
  let s1 := s.setBrk { s.brk with tripOut := false, tripTimer := none }
  let s2 := setCondition .breakerFail true s1
  endSuspension (if s.mon.recs.breakerFail.active then s2 else seqBreakerFail s2)

/-- TRIP_TIMER_EXPIRY (R70). -/
def execTripTimerExpiry (s : State) : Host.Outcome State Fault Refusal :=
  .next (if tripTimerDue s then tripTimeout s else s)

/-- CLOSE_TIMER_EXPIRY (R72): CLOSE_OUT released, then CLOSE_FAIL active, then TIMED_OUT. The sequencer takes the hard
reason first, so its SEQUENCE report has event HARD_REASON (assumption log entry 50). -/
def execCloseTimerExpiry (s : State) : Host.Outcome State Fault Refusal :=
  .next (if closeTimerDue s then seqTimedOut (setCondition .closeFail true (releaseClose s)) else s)

end Sys2Proof.Machine
end

