-- ==== Sys2Proof/Machine/Regime.lean ====
section
/-! DEFINITION. The regime unit (sections 3.6 and 3.7): the fire level, the candidate, the override and the group
work of an evaluation point. -/

namespace Sys2Proof.Machine

/-! ## Fire level -/

/-- The effective level (R57). -/
def effectiveLevel (season : Bool) (f : FireLevel) : Nat :=
  if season then
    match f.level with
    | none => 5
    | some l => if f.expired then 5 else l
  else 0

/-- FIRE_STALE's active state (R56). -/
def fireStaleNow (s : State) : Bool :=
  s.plant.season && (s.regime.fire.level.isNone || s.regime.fire.expired)

/-- FIRE_STALE is judged again (R56). -/
def judgeFireStale (s : State) : State := setCondition .fireStale (fireStaleNow s) s

/-- FIRE_REGIME is judged again (R63). -/
def judgeFireRegime (s : State) : State :=
  setCondition .fireRegime (decide (s.plant.alarmRank ≤ s.settings.rank)) s

/-- The content of SET_FIRE_LEVEL's reply (Table 10.5). -/
def fireContent (f : FireLevel) : ReplyBody := .fireLevel f.level f.validity f.effective

/-- SET_FIRE_LEVEL (R55): a level above 5 is 5, a validity of 0 is the default. -/
def ownSetFireLevel (payload : List Byte) (s : State) : Reply × State :=
  let validity := u16 payload 1
  if 1440 < validity then (badArgumentWith 2 (fireContent s.regime.fire), s)
  else
    let fire :=
      { s.regime.fire with
        level := some (min 5 (u8 payload 0))
        setTime := s.time
        validity := if validity = 0 then s.plant.defaultValidity else validity
        expired := false }
    (okReply (fireContent fire), judgeFireStale (s.setRegime { s.regime with fire := fire }))

/-- FIRE_LEVEL_EXPIRY (R56). -/
def execFireLevelExpiry (s : State) : Host.Outcome State Fault Refusal :=
  .next
    (if fireExpiryDue s then
      judgeFireStale (s.setRegime { s.regime with fire := { s.regime.fire with expired := true } })
    else s)

/-! ## Fitness and the candidate -/

/-- The image of stored group `g`. -/
def groupImage (t : ImageTable Image) (g : Nat) : Image :=
  match ImageId.ofGroup g with
  | some i => t.get i
  | none => blankImage

/-- The image of curve `k`. -/
def curveImage (t : ImageTable Image) (k : Nat) : Image :=
  match ImageId.ofCurve k with
  | some i => t.get i
  | none => blankImage

/-- The curves that a group uses: those of its enabled inverse-time elements (R58). -/
def curvesUsed (g : GroupSettings) : List Nat :=
  (if g.phTime.enabled then [g.phTime.curve] else []) ++ (if g.efTime.enabled then [g.efTime.curve] else [])

/-- The first test of fitness that a stored group fails at an effective level (R58). -/
def unfitness (t : ImageTable Image) (effective g : Nat) : Option Fallback :=
  let i := groupImage t g
  if !i.present then some .notPresent
  else if !i.valid then some .invalid
  else if !(curvesUsed (parseGroup i.working)).all (fun k => usable (curveImage t k)) then some .curveUnfit
  else if (parseGroup i.working).rank < effective then some .rankLow
  else none

/-- The selected group (R58). -/
def selectedGroup (override : Option Nat) (map : List Nat) (effective : Nat) : Nat :=
  match override with
  | some g => g
  | none => map.getD effective groupSIndex

/-- The candidate that a selected group gives, with its fallback cause (R58). -/
def candidateFor (t : ImageTable Image) (effective g : Nat) : Nat × Option Fallback :=
  if g = groupSIndex then (groupSIndex, none)
  else
    match unfitness t effective g with
    | none => (g, none)
    | some f => (groupSIndex, some f)

/-- The candidate with its fallback cause (R58). -/
def chooseCandidate (s : State) : Nat × Option Fallback :=
  candidateFor s.store.images s.regime.fire.effective
    (selectedGroup s.regime.override s.plant.regimeMap s.regime.fire.effective)

/-- The pending group that a candidate leaves (R61). -/
def pendingFor (r : Regime) (candidate : Nat) : Option Nat :=
  if candidate ≠ r.active then some candidate
  else if r.refreshGroup || r.refreshCurve then some r.active
  else none

/-- The candidate is recomputed and the pending group set (R58, R61). -/
def recompute (s : State) : State :=
  let c := chooseCandidate s
  s.setRegime
    { s.regime with candidate := c.1, fallback := c.2, pending := pendingFor s.regime c.1 }

/-- The override is cancelled when the effective level is above the rank of its group, with a GROUP report
(R60). The rank is read from the working copy whether or not the image is valid (assumption log entry 44). -/
def cancelOverride (s : State) : State :=
  match s.regime.override with
  | none => s
  | some g =>
    let i := groupImage s.store.images g
    let rank := (parseGroup i.working).rank
    if i.present ∧ rank < s.regime.fire.effective then
      addReport (.group (.overrideCancelled s.time g rank s.regime.fire.effective))
        (s.setRegime { s.regime with override := none })
    else s

/-- The reason code of a fallback cause (Table 10.6). -/
def fallbackReason (f : Fallback) : Reason :=
  match f with
  | .notPresent => .notPresent
  | .invalid => .invalid
  | .curveUnfit => .curveUnfit
  | .rankLow => .rankLow

/-- The override is set and the candidate recomputed (R59). -/
def withOverride (o : Option Nat) (s : State) : State := recompute (s.setRegime { s.regime with override := o })

/-- The content of SELECT_GROUP's reply (Table 10.5). -/
def groupContent (s : State) : ReplyBody := .group s.regime.override s.regime.pending

/-- The reply of an accepted SELECT_GROUP (R59). -/
def groupReply (s : State) : Reply := okReply (groupContent s)

/-- SELECT_GROUP (R59). -/
def ownSelectGroup (payload : List Byte) (s : State) : Reply × State :=
  let g := u8 payload 0
  if g = 255 then (groupReply (withOverride none s), withOverride none s)
  else if 3 < g then (badArgumentWith 1 (groupContent s), s)
  else
    match unfitness s.store.images s.regime.fire.effective g with
    | some f => (refusedFor (fallbackReason f) (groupContent s), s)
    | none => (groupReply (withOverride (some g) s), withOverride (some g) s)

/-! ## Taking into force -/

/-- The in-force set of a group, copied from the working copies or from Table 3.9 (R62). -/
def inForceOf (t : ImageTable Image) (g : Nat) : InForce :=
  if g = groupSIndex then { settings := groupS, phCurve := none, efCurve := none }
  else
    let settings := parseGroup (groupImage t g).working
    { settings := settings
      phCurve :=
        if settings.phTime.enabled then some (parseCurve (curveImage t settings.phTime.curve).working) else none
      efCurve :=
        if settings.efTime.enabled then some (parseCurve (curveImage t settings.efTime.curve).working) else none }

/-- The cause of a taking-into-force (R62). -/
def takeCause (r : Regime) (g : Nat) : GroupCause :=
  if g ≠ r.active then .newGroup else if r.refreshGroup then .reloaded else .curveReloaded

/-- The GROUP report of a taking-into-force of `g` in state `s` (R62). -/
def takeReport (g : Nat) (s : State) : GroupReport :=
  .taken s.time g (inForceOf s.store.images g).settings.revision s.regime.active s.settings.revision
    s.regime.fire.effective s.regime.override.isSome s.regime.fallback (takeCause s.regime g)

/-- The regime unit's record after `g` is taken into force (R62 step 4). -/
def takenRegime (g : Nat) (s : State) : Regime :=
  { s.regime with
    active := g
    inForce := inForceOf s.store.images g
    pending := none
    refreshGroup := false
    refreshCurve := false }

/-- Group `g` is taken into force with its GROUP report, and handed as a group change to the sequencer and the hunt
controller unless the cause is CURVE_RELOADED (R62, R94, R150); FIRE_REGIME is judged again (R63). The order of these is
assumption log entry 11. -/
def takeIntoForce (g : Nat) (s : State) : State :=
  let s1 := addReport (.group (takeReport g s)) (s.setRegime (takenRegime g s))
  judgeFireRegime
    (if takeCause s.regime g = .curveReloaded then s1 else huntGroupChange (seqGroupChange s1))

/-- Stages 1 to 3 of the group work (R62). -/
def regimeStages (s : State) : State :=
  recompute
    (cancelOverride
      (s.setRegime
        { s.regime with
          fire := { s.regime.fire with effective := effectiveLevel s.plant.season s.regime.fire } }))

/-- The group work of an evaluation point (R62). -/
def groupWork (s : State) : State :=
  let s1 := regimeStages s
  match s1.regime.pending with
  | some g => takeIntoForce g s1
  | none => s1

end Sys2Proof.Machine
end

