-- ==== Sys2Proof/Machine/Protection.lean ====
section
/-! DEFINITION. The protection unit (Chapter 2): what it does at an evaluation point (R17), and at a loss (R36). -/

namespace Sys2Proof.Machine

/-- A full accumulator (Table 0.4). -/
def accFull : Nat := 1048576

/-! ## Accumulators and counts -/

/-- The later of two curve points, by threshold. -/
def higherPoint (best : Option CurvePoint) (p : CurvePoint) : Option CurvePoint :=
  match best with
  | none => some p
  | some b => if b.threshold ≤ p.threshold then some p else some b

/-- The point of a curve with the largest threshold that does not exceed Q (R20). -/
def curvePointFor (c : Curve) (q : Nat) : Option CurvePoint :=
  (c.points.filter fun p => decide (p.threshold ≤ q)).foldl higherPoint none

/-- The increment of a picked-up point (R20). -/
def increment (c : Curve) (tms q : Nat) : Nat :=
  match curvePointFor c q with
  | some p => p.rate * 100 / tms
  | none => 0

/-- An accumulator at a dropped-out point (R21): a reset rate of 0 empties it at once. -/
def resetAcc (rate a : Nat) : Nat := if rate = 0 then 0 else a - rate

/-- An accumulator after a point's squared multiple (R19, R20, R21). -/
def accStep (curve : Option Curve) (tms : Nat) (q : Option Nat) (a : Nat) : Nat :=
  match q, curve with
  | some v, some c =>
    match bandOf v with
    | .pickedUp => min accFull (a + increment c tms v)
    | .hold => a
    | .dropped => resetAcc c.resetRate a
  | _, _ => 0

/-- A count after a point's squared multiple (R19, R23). -/
def countStep (q : Option Nat) (c : Nat) : Nat :=
  match q with
  | some v =>
    match bandOf v with
    | .pickedUp => min 65535 (c + 1)
    | .hold => c
    | .dropped => 0
  | none => 0

/-- SEF's squared multiple after supervision by VN (R25). -/
def supervisedSef (q : Multiples) : Option Nat :=
  match q.sefVn with
  | some v => if v < 256 then q.sef.map fun _ => 0 else q.sef
  | none => q.sef

/-- A trip element's value is held at 0 during suspension (R34). -/
def heldBy (suspended : Bool) (v : Nat) : Nat := if suspended then 0 else v

/-- SEF is a trip element under a group (Table 2.1). -/
def sefTrips (g : GroupSettings) : Bool := g.sef.mode == .trip

/-- The values after stage 3 of R17. -/
def stepValues (f : InForce) (q : Multiples) (p : Protection) : Protection :=
  { p with
    phTime :=
      (p.phTime.zip (fun a v => heldBy p.suspended (accStep f.phCurve f.settings.phTime.tms v a)) q.phTime)
    efTime := heldBy p.suspended (accStep f.efCurve f.settings.efTime.tms q.efTime p.efTime)
    phHigh := (p.phHigh.zip (fun c v => heldBy p.suspended (countStep v c)) q.phHigh)
    efHigh := heldBy p.suspended (countStep q.efHigh p.efHigh)
    sef := heldBy (p.suspended && sefTrips f.settings) (countStep (supervisedSef q) p.sef) }

/-! ## Operation -/

/-- An inverse-time element operates where a picked-up point fills its accumulator (R22). -/
def timeOperates (q : Option Nat) (a : Nat) : Bool :=
  match q with
  | some v => decide (256 ≤ v) && a == accFull
  | none => false

/-- A definite-time element operates where its count has reached its delay (R24, R26). -/
def countOperates (enabled : Bool) (n c : Nat) : Bool := enabled && decide (n ≤ c)

/-- One entry when an element operates on a channel, otherwise none. -/
def entryIf (operates : Bool) (e : Element) (ch : Channel) (q : Option Nat) : List TripEntry :=
  if operates then [{ element := e, channel := ch, q := q.getD 0 }] else []

/-- The entries of the trip at a point, in the order of R31, from the values after stage 3. No trip element
operates during suspension (R34). -/
def tripEntries (g : GroupSettings) (q : Multiples) (p : Protection) : List TripEntry :=
  if p.suspended then []
  else
    entryIf (timeOperates q.phTime.a p.phTime.a) .phTime .ia q.phTime.a ++
    entryIf (timeOperates q.phTime.b p.phTime.b) .phTime .ib q.phTime.b ++
    entryIf (timeOperates q.phTime.c p.phTime.c) .phTime .ic q.phTime.c ++
    entryIf (timeOperates q.efTime p.efTime) .efTime .inn q.efTime ++
    entryIf (countOperates g.phHigh.enabled g.phHigh.delay p.phHigh.a) .phHigh .ia q.phHigh.a ++
    entryIf (countOperates g.phHigh.enabled g.phHigh.delay p.phHigh.b) .phHigh .ib q.phHigh.b ++
    entryIf (countOperates g.phHigh.enabled g.phHigh.delay p.phHigh.c) .phHigh .ic q.phHigh.c ++
    entryIf (countOperates g.efHigh.enabled g.efHigh.delay p.efHigh) .efHigh .inn q.efHigh ++
    entryIf (sefTrips g && countOperates g.sef.enabled g.sef.delay p.sef) .sef .inn q.sef

/-- The eligible flag of an element in a group; SEF has none (R26, R31). -/
def elementEligible (g : GroupSettings) (e : Element) : Bool :=
  match e with
  | .phTime => g.phTime.eligible
  | .efTime => g.efTime.eligible
  | .phHigh => g.phHigh.eligible
  | .efHigh => g.efHigh.eligible
  | .sef => false

/-- The trip of a point (R31). -/
def tripOf (entries : List TripEntry) (startPickups : Bool) (s : State) : Trip where
  entries := entries
  eligible := entries.all fun e => elementEligible s.settings e.element
  group := s.regime.active
  revision := s.settings.revision
  startPickups := startPickups
  time := s.time

/-- Every accumulator and every count at 0 (R33, R36). -/
def zeroValues (p : Protection) : Protection :=
  { p with phTime := ⟨0, 0, 0⟩, efTime := 0, phHigh := ⟨0, 0, 0⟩, efHigh := 0, sef := 0 }

/-- A trip is handed to its receivers (R32): the TRIP report, the breaker interface, the hunt controller, the
admission unit and the sequencer. -/
def handTrip (t : Trip) (s : State) : State :=
  seqTrip (protectionRecord t)
    (endWindow .tripped
      (huntAbort .trip
        (tripRequest .protection (addReport (.trip { trip := t, shots := s.seq.shots }) s))))

/-- Stage 5 of R17: a trip is issued, the values are set to 0, suspension is set unless the breaker is OPEN, and
the trip is handed on (R31 to R34). -/
def issueTrip (t : Trip) (s : State) : State :=
  handTrip t
    (s.setProt { zeroValues s.prot with suspended := s.brk.accepted != .opened })

/-! ## SEF operated -/

/-- The SEF operated flag after stage 6 (R27, R38). -/
def sefFlag (g : GroupSettings) (count : Nat) (old : Bool) : Bool :=
  if sefTrips g then false
  else if count = 0 then false
  else if g.sef.delay ≤ count then true
  else old

/-- Stage 6 of R17: the flag, EARTH_FAULT_STANDING and a hunt request at the flag's setting in HUNT mode (R27,
R28). -/
def sefStage (s : State) : State :=
  let flag := sefFlag s.settings s.prot.sef s.prot.sefOperated
  let s1 := setCondition .earthFaultStanding flag (s.setProt { s.prot with sefOperated := flag })
  if s.settings.sef.mode = .hunt ∧ flag = true ∧ s.prot.sefOperated = false then huntRequestSef s1 else s1

/-- The protection unit's work at an evaluation point (R17). -/
def protPoint (q : Multiples) (startPickups : Bool) (s : State) : State :=
  let s1 := s.setProt (stepValues s.regime.inForce q s.prot)
  let entries := tripEntries s.settings q s1.prot
  sefStage (if entries.isEmpty then s1 else issueTrip (tripOf entries startPickups s1) s1)

/-- A loss is handed to the protection unit (R36). -/
def protLoss (s : State) : State :=
  setCondition .earthFaultStanding false (s.setProt { zeroValues s.prot with sefOperated := false })

end Sys2Proof.Machine
end

