-- ==== Sys2Proof/Machine/Measurement.lean ====
section
/-! DEFINITION. The sample port and the measurement unit (Chapter 1). -/

namespace Sys2Proof.Machine

/-! ## Windows -/

/-- The square of a sample value. -/
def square (x : Int) : Nat := x.natAbs * x.natAbs

/-- A sample is full scale (R2). -/
def fullScale (x : Int) : Bool := x == -32768 || x == 32767

/-- The five window entries of a set, with their clip marks (R2). -/
def entriesOf (set : SampleSet) : Five Sample :=
  set.values.map fun x => { value := x, clip := fullScale x || set.overload }

/-- A window after an entry is taken in, `full` saying that it holds 32 (R6). -/
def slide (full : Bool) (w : List Sample) (x : Sample) : List Sample :=
  if full then w.drop 1 ++ [x] else w ++ [x]

/-- A window's sum of squares after an entry is taken in (R6). -/
def slideSum (full : Bool) (w : List Sample) (sum : Nat) (x : Sample) : Nat :=
  if full then sum + square x.value - square (w.headD ⟨0, false⟩).value else sum + square x.value

/-- The sums of the five windows after a set (R6). -/
def slideSums (full : Bool) (m : Measurement) (x : Five Sample) : Five Nat :=
  ⟨slideSum full m.windows.ia m.sums.ia x.ia, slideSum full m.windows.ib m.sums.ib x.ib,
   slideSum full m.windows.ic m.sums.ic x.ic, slideSum full m.windows.inn m.sums.inn x.inn,
   slideSum full m.windows.vn m.sums.vn x.vn⟩

/-- A set raises an evaluation point: the 32nd of a fill, and each 16th after it (R7). -/
def raisesPoint (m : Measurement) : Bool :=
  if m.fill < 32 then m.fill + 1 == 32 else m.phase + 1 == 16

/-- The measurement unit takes in an accepted set (R6, R7). -/
def takeIn (set : SampleSet) (m : Measurement) : Measurement :=
  let full := !decide (m.fill < 32)
  { windows := m.windows.zip (slide full) (entriesOf set)
    sums := slideSums full m (entriesOf set)
    fill := if m.fill < 32 then m.fill + 1 else m.fill
    phase := if raisesPoint m then 0 else if m.fill < 32 then m.phase else m.phase + 1
    latest := m.latest }

/-- A flush: windows, sums, fill count and phase (R8). -/
def flush (m : Measurement) : Measurement :=
  { windows := ⟨[], [], [], [], []⟩, sums := ⟨0, 0, 0, 0, 0⟩, fill := 0, phase := 0, latest := m.latest }

/-! ## Evaluation -/

/-- The mean squares (R9). -/
def meanSquares (m : Measurement) : Five Nat := m.sums.map (· / 32)

/-- A channel counts as clipped: a mark among its 16 newest entries (R12). -/
def clippedWindow (w : List Sample) : Bool := (w.drop (w.length - 16)).any (·.clip)

/-- A squared multiple against a pickup that may be absent (R10). -/
def multipleOf (e : Nat) (pickup : Option Nat) : Option Nat := pickup.map (squaredMultiple e)

/-- A pickup that is absent while its element is disabled (R11). -/
def pickupIf (enabled : Bool) (p : Nat) : Option Nat := if enabled then some p else none

/-- A present squared multiple of a clipped channel becomes 65535 (R12). -/
def forced (clipped : Bool) (q : Option Nat) : Option Nat := if clipped then q.map fun _ => 65535 else q

/-- One value for each phase from the five channels' values. -/
def phases {α : Type} (v : Five α) : Three α := ⟨v.ia, v.ib, v.ic⟩

/-- The three squared multiples of the phases against one pickup, with the forcing of R12. -/
def phaseMultiples (e : Five Nat) (clipped : Five Bool) (pickup : Option Nat) : Three (Option Nat) :=
  (phases e).zip (fun v c => forced c (multipleOf v pickup)) (phases clipped)

/-- The pickup of PH_TIME or PH_HIGH that a point uses (R29). -/
def phasePickup (started : Bool) (pickup startPickup : Nat) : Nat := if started then startPickup else pickup

/-- The pickup of SEF supervision: absent when 0 or with SEF disabled (R11). -/
def vnPickupOf (g : GroupSettings) : Option Nat :=
  if g.sef.enabled && g.sef.vnPickup != 0 then some g.sef.vnPickup else none

/-- The hunt clear level: absent with hunt disabled or with none in the group (R11). -/
def huntClearOf (g : GroupSettings) : Option Nat := if g.huntEnabled then g.huntClear else none

/-- The fourteen squared multiples of Table 1.4, with clip forcing (R11, R12). -/
def multiplesOf (g : GroupSettings) (started : Bool) (e : Five Nat) (clipped : Five Bool) : Multiples where
  phTime :=
    phaseMultiples e clipped (pickupIf g.phTime.enabled (phasePickup started g.phTime.pickup g.phTime.startPickup))
  phHigh :=
    phaseMultiples e clipped (pickupIf g.phHigh.enabled (phasePickup started g.phHigh.pickup g.phHigh.startPickup))
  efTime := forced clipped.inn (multipleOf e.inn (pickupIf g.efTime.enabled g.efTime.pickup))
  efHigh := forced clipped.inn (multipleOf e.inn (pickupIf g.efHigh.enabled g.efHigh.pickup))
  sef := forced clipped.inn (multipleOf e.inn (pickupIf g.sef.enabled g.sef.pickup))
  sefVn := forced clipped.vn (multipleOf e.vn (vnPickupOf g))
  huntClear := forced clipped.vn (multipleOf e.vn (huntClearOf g))
  quiet := phaseMultiples e clipped g.quietLevel

/-- The evaluation record of a point, computed with the settings now in force (R9 to R13). -/
def recordOf (s : State) : EvalRecord where
  present := true
  time := s.time
  group := s.regime.active
  startPickups := s.adm.window.isSome
  e := meanSquares s.meas
  clipped := s.meas.windows.map clippedWindow
  q := multiplesOf s.settings s.adm.window.isSome (meanSquares s.meas) (s.meas.windows.map clippedWindow)

/-- The record is replaced whole (R13). -/
def storeRecord (s : State) : State := s.setMeas { s.meas with latest := recordOf s }

/-- The point is handed to the admission unit and to the protection unit (R14). -/
def handPoint (s : State) : State :=
  protPoint s.meas.latest.q s.meas.latest.startPickups (admPoint s.meas.latest.q s)

/-- An evaluation point: the group work, the record, the clearing of SAMPLE_LOSS and the hand-off (R9 to R15,
R62). SAMPLE_LOSS is cleared before the point is handed on, and the point goes to the admission unit first (assumption
log entry 11). -/
def evaluationPoint (s : State) : State :=
  handPoint (setCondition .sampleLoss false (storeRecord (groupWork s)))

/-! ## The sample port -/

/-- A set is out of order: it reveals a gap (R5). -/
def revealsGap (p : SamplePort) (seq : BitVec 4) : Bool :=
  p.state == .tracking && p.lastSeq != some (seq - 1)

/-- The port after an acceptance (R4). -/
def acceptedPort (seq : BitVec 4) (now : Time) : SamplePort :=
  { state := .tracking, lastSeq := some seq, lastArrival := now }

/-- A well-formed set is accepted, after a flush when it reveals a gap (R4, R5). -/
def acceptSet (set : SampleSet) (s : State) : State :=
  let m := if revealsGap s.port set.seq then flush s.meas else s.meas
  let s1 := (s.setPort (acceptedPort set.seq s.time)).setMeas (takeIn set m)
  if raisesPoint m then evaluationPoint s1 else s1

/-- SAMPLE_SET_ARRIVAL (R1): a malformed frame is discarded as if it had never arrived. -/
def execSampleSetArrival (nbits frame : Nat) (s : State) : Host.Outcome State Fault Refusal :=
  .next (if frameWellFormed nbits frame then acceptSet (sampleSetOf frame) s else s)

/-- LOSS_DECLARED (R3): the port is LOST, the windows are flushed, SAMPLE_LOSS is active, and the loss is handed to
the protection unit, in this order (assumption log entry 11). -/
def execLossDeclared (s : State) : Host.Outcome State Fault Refusal :=
  .next
    (if lossDue s then
      protLoss
        (setCondition .sampleLoss true
          ((s.setPort { s.port with state := .lost, lastSeq := none }).setMeas (flush s.meas)))
    else s)

end Sys2Proof.Machine
end

