-- ==== Sys2Proof/Machine/Pilot.lean ====
section
/-! DEFINITION. The pilot bus controller (Chapter 7). A slot event takes in an up half and settles the next down
half; what else comes due in the same slot event (an end, a timeout, a delivery) is a step of its own, which
settles the down half again (assumption log entry 1). -/

namespace Sys2Proof.Machine

/-! ## The down half -/

/-- The cell now on offer. -/
def offeredCell (d : DownChannel) : Word16 :=
  match d.msg with
  | some m => m.cells.getD (d.cell - 1) 0
  | none => 0

/-- The up channel shows its holder (Table 7.6). -/
def showsHolder (u : UpChannel) : Bool := u.stage == .holding || u.stage == .refusing

/-- The down half echoes an accepted up cell (Table 7.6). -/
def echoes (u : UpChannel) : Bool := u.stage == .holding && u.lastPhase.isSome

/-- The content of the down half that a slot event settles (R115, R118, R119, Table 7.6). The down phase is 0 in
FREE_CHANNEL as in ENDING, and the up-TAKE phase is 0 while up-TAKE is idle (assumption log entry 48). -/
def settledHalf (p : Pilot) : DownHalf where
  free := p.up.stage == .openToContest
  holder := if showsHolder p.up then p.up.holder.getD 0 else 0
  offer := p.down.stage == .offering
  phase := p.down.stage == .offering && p.down.phase
  cell := if p.down.stage = .offering then offeredCell p.down else 0
  upTake := echoes p.up
  upTakePhase := echoes p.up && p.up.lastPhase.getD false

/-- The down half of the slot that begins is settled; a refusing slot is then shown (R115, R128). -/
def settle (s : State) : State :=
  s.setPilot
    { s.pilot with
      half := some (settledHalf s.pilot)
      up := { s.pilot.up with refusalShown := s.pilot.up.stage == .refusing } }

/-- What a step of the present slot event has changed is settled again; a step taken later leaves the half as it
is on the pair. -/
def resettle (s : State) : State := if s.due.inSlot then settle s else s

/-! ## The down channel -/

/-- A down message enters ENDING with its outcome (R119). Echo looks and idle looks become 0 (assumption log entry
30). -/
def enterEnding (o : DownOutcome) (d : DownChannel) : DownChannel :=
  { d with stage := .ending, endingLeft := 2, outcome := some o, echoLooks := 0, idleLooks := 0 }

/-- The next cell is offered, with the take timeout read afresh (R118). -/
def nextCell (take : Nat) (d : DownChannel) : DownChannel :=
  { d with
    cell := d.cell + 1
    phase := !d.phase
    echoLooks := 0
    idleLooks := 0
    slotsOffered := 0
    loadedTake := take }

/-- The current cell is the last of its message. -/
def lastCell (d : DownChannel) : Bool :=
  match d.msg with
  | some m => decide (m.cells.length ≤ d.cell)
  | none => true

/-- A matching echo (R118). -/
def matchingEcho (take : Nat) (d : DownChannel) : DownChannel :=
  if d.echoLooks = 0 then { d with echoSeen := true, idleLooks := 0, echoLooks := 1 }
  else if lastCell d then enterEnding .delivered { d with echoSeen := true }
  else nextCell take { d with echoSeen := true }

/-- An idle down-TAKE (R120): a refusal at the second of two after an echo was seen. -/
def idleTake (d : DownChannel) : DownChannel :=
  if d.echoSeen then
    if d.idleLooks = 0 then { d with echoLooks := 0, idleLooks := 1 } else enterEnding .refused d
  else { d with echoLooks := 0 }

/-- The down work on an up half in OFFERING (R116, R118, R120). -/
def examineEcho (take : Nat) (up : Option UpHalf) (d : DownChannel) : DownChannel :=
  let d1 := { d with slotsOffered := d.slotsOffered + 1 }
  match up with
  | none => { d1 with echoLooks := 0, idleLooks := 0 }
  | some u =>
    if u.take then
      if u.takePhase = d.phase then matchingEcho take d1 else { d1 with echoLooks := 0, idleLooks := 0 }
    else idleTake d1

/-- The down work of a slot event on its up half (R118, R119, R120). A timeout or an end that is due stands until
its own step takes it. -/
def slotDown (take : Nat) (up : Option UpHalf) (d : DownChannel) : DownChannel :=
  match d.stage with
  | .freeChannel => d
  | .offering => if d.loadedTake ≤ d.slotsOffered then d else examineEcho take up d
  | .ending => { d with endingLeft := d.endingLeft - 1 }

/-! ## The arbiter -/

/-- The waiting message of the lowest arbiter order that joined first (R123). -/
def chosenMessage (q : List QueueEntry) : Option DownMessage :=
  ([DownClass.hunt, .admission, .host, .poll].findSome? fun c => q.find? fun e => e.msg.cls == c).map (·.msg)

/-- The down channel with a message put in flight (R118). -/
def channelFor (take : Nat) (m : DownMessage) (d : DownChannel) : DownChannel :=
  { d with
    stage := .offering
    msg := some m
    cell := 1
    phase := false
    echoLooks := 0
    echoSeen := false
    idleLooks := 0
    slotsOffered := 0
    loadedTake := take
    outcome := none }

/-- The requester learns that its message is in flight (R133, R148, R164). -/
def noteInFlight (m : DownMessage) (s : State) : State :=
  match m.cls with
  | .hunt => s.setHunt { s.hunt with outstanding := s.hunt.outstanding.map fun x => { x with inFlight := true } }
  | .admission =>
    let current := s.adm.outstanding.any fun x => x.kind == .grant && !x.stale
    s.setAdm
      { s.adm with
        outstanding := s.adm.outstanding.map fun x => { x with inFlight := true }
        window :=
          if current then s.adm.window.map fun w => { w with grant := .inFlight } else s.adm.window }
  | .host => updateStation m.dest (fun st => { st with answer := .inFlight }) s
  | .poll => updateStation m.dest (fun st => { st with answer := .inFlight }) s

/-- A waiting message leaves the queue and is put in flight (R118, R123). -/
def putInFlight (m : DownMessage) (s : State) : State :=
  noteInFlight m
    (s.setPilot
      { s.pilot with
        queue := s.pilot.queue.eraseP fun e => e.msg.cls == m.cls
        down := channelFor s.plant.takeTimeout m s.pilot.down })

/-- The arbiter, at a slot event with the channel free (R123). -/
def arbitrate (s : State) : State :=
  if s.pilot.down.stage = .freeChannel then
    match chosenMessage s.pilot.queue with
    | some m => putInFlight m s
    | none => s
  else s

/-! ## The up channel -/

/-- An up message is refused (R128). -/
def refuseUp (u : UpChannel) : UpChannel :=
  { u with
    stage := .refusing
    cells := []
    declared := none
    lastPhase := none
    look := none
    idleLooks := 0
    noProgress := 0
    refusingLeft := 2
    refusalShown := false
    complete := false }

/-- The channel in a stage without a holder. Idle looks become 0 with the other items (assumption log entry 45). -/
def upIdle (stage : UpStage) (coolDown : Option CoolDown) : UpChannel where
  stage := stage
  holder := none
  cells := []
  declared := none
  lastPhase := none
  look := none
  idleLooks := 0
  noProgress := 0
  refusingLeft := 0
  refusalShown := false
  coolDown := coolDown
  complete := false

/-- A holding ends: open to contest with the cool-down set, or CLOSED while STATIONS is unfit (R127 to R131). -/
def endHolding (fit : Bool) (u : UpChannel) : UpChannel :=
  if fit then upIdle .openToContest (u.holder.map fun a => { address := a, left := 2 }) else upIdle .closed none

/-- An address is listed in the station table. -/
def listedIn (stations : List Station) (address : Nat) : Bool := stations.any fun x => x.address == address

/-- A contest's winner becomes the holder (R125; for idle looks, assumption log entry 45). -/
def newHolder (address : Nat) : UpChannel := { upIdle .holding none with holder := some address }

/-- The cool-down names an address. -/
def cooling (u : UpChannel) (address : Nat) : Bool :=
  u.coolDown.any fun c => c.address == address && c.left != 0

/-- The contest of a slot event in OPEN_TO_CONTEST (R125). -/
def judgeContest (stations : List Station) (up : Option UpHalf) (u : UpChannel) : UpChannel :=
  match up with
  | none => u
  | some h =>
    if h.offer ∧ listedIn stations h.contest = true ∧ cooling u h.contest = false then newHolder h.contest else u

/-- The cool-down after the slot event of a slot that showed FREE (R130). -/
def coolSlot (shownFree : Bool) (u : UpChannel) : UpChannel :=
  if shownFree then { u with coolDown := u.coolDown.map fun c => { c with left := c.left - 1 } } else u

/-- An up header is well formed (R117): its kind, then its count, then its address. -/
def headerWellFormed (stations : List Station) (holder : Option Nat) (c : Word16) : Bool :=
  (upKindOf (headerKind c)).isSome && headerCount c == 2 && holder == some (headerAddress c) &&
    listedIn stations (headerAddress c)

/-- A cell offered next is well formed: the header, or the content cell of the header's kind (R117). -/
def cellWellFormed (stations : List Station) (u : UpChannel) (c : Word16) : Bool :=
  match u.cells with
  | [] => headerWellFormed stations u.holder c
  | header :: _ =>
    match upKindOf (headerKind header) with
    | some k => contentWellFormed k c
    | none => false

/-- A cell is accepted, or refuses the message (R117, R126). -/
def acceptCell (stations : List Station) (c : Word16) (phase : Bool) (u : UpChannel) : UpChannel :=
  if cellWellFormed stations u c then
    { u with
      cells := u.cells ++ [c]
      declared := if u.cells.isEmpty then some (headerCount c) else u.declared
      lastPhase := some phase
      noProgress := 0 }
  else refuseUp u

/-- Two consecutive equal looks are judged (R126). -/
def judgePair (stations : List Station) (c : Word16) (phase : Bool) (u : UpChannel) : UpChannel :=
  match u.lastPhase with
  | none => if phase then refuseUp u else acceptCell stations c phase u
  | some last =>
    if phase = last then (if u.cells.getLast? = some c then u else refuseUp u)
    else if u.declared = some u.cells.length then refuseUp u
    else acceptCell stations c phase u

/-- One look at a cell (R126). -/
def lookAt (stations : List Station) (c : Word16) (phase : Bool) (u : UpChannel) : UpChannel :=
  let u1 := { u with look := some (c, phase), idleLooks := 0 }
  if u.look = some (c, phase) then judgePair stations c phase u1 else u1

/-- An idle up OFFER (R127): at the second the message has ended, or is refused before its declared count. -/
def idleOffer (u : UpChannel) : UpChannel :=
  let u1 := { u with look := none }
  if u.idleLooks = 0 then { u1 with idleLooks := 1 }
  else if u.declared = some u.cells.length then { u1 with idleLooks := 0, complete := true }
  else refuseUp u1

/-- The up work of a slot event in HOLDING (R116, R126, R127). A refusal found at the slot event at which slots without
progress reaches 250 comes first (assumption log entry 27). -/
def examineOffer (stations : List Station) (up : Option UpHalf) (u : UpChannel) : UpChannel :=
  let u1 := { u with noProgress := u.noProgress + 1 }
  match up with
  | none => { u1 with look := none, idleLooks := 0 }
  | some h => if h.offer then lookAt stations h.cell h.phase u1 else idleOffer u1

/-- The up work of a slot event on its up half; `shownFree` says that the slot's down half showed FREE. A delivery,
a timeout or an end that is due stands until its own step takes it. -/
def slotUp (stations : List Station) (shownFree : Bool) (up : Option UpHalf) (u : UpChannel) : UpChannel :=
  match u.stage with
  | .openToContest =>
    let v := judgeContest stations up u
    if v.stage = .holding then v else coolSlot shownFree v
  | .holding => if u.complete = true ∨ 250 ≤ u.noProgress then u else examineOffer stations up u
  | .refusing => if u.refusalShown then { u with refusingLeft := u.refusingLeft - 1 } else u
  | .closed => u

/-! ## The slot event -/

/-- Both channels' work on the up half of the slot before last; in slot 2's event there is none yet (R115). -/
def takeHalf (up : BitVec 32) (s : State) : State :=
  match s.pilot.half with
  | none => s
  | some h =>
    s.setPilot
      { s.pilot with
        down := slotDown s.plant.takeTimeout (readUpHalf up) s.pilot.down
        up := slotUp s.pilot.stations h.free (readUpHalf up) s.pilot.up }

/-- SLOT_EVENT (R115): when the time base has just become even. What a delivery of the same slot event queues or withdraws
comes after this choice of the arbiter (assumption log entry 51). -/
def execSlotEvent (up : BitVec 32) (s : State) : Host.Outcome State Fault Refusal :=
  .next
    (if s.due.slot then
      let s1 := s.setDue { s.due with slot := false, inSlot := true }
      settle (arbitrate (takeHalf up s1))
    else s)

/-- TAKE_TIMEOUT (R121). -/
def execTakeTimeout (s : State) : Host.Outcome State Fault Refusal :=
  .next
    (if takeDue s then
      resettle (s.setPilot { s.pilot with down := enterEnding .noTake s.pilot.down })
    else s)

/-! ## Presence, answers and STATION reports -/

/-- STATION_SILENT is judged again (R134). -/
def judgeSilent (s : State) : State :=
  setCondition .stationSilent (s.pilot.stations.any fun st => st.presence == .silent) s

/-- The fields of a record whose change creates a STATION report (R136). -/
def reportedFields (st : Station) : Presence × SwitchState × Bool × Bool :=
  (st.presence, st.switch, st.indicator, st.lock)

/-- A record takes a new value, with a STATION report when a reported field has changed or a query result is due,
and STATION_SILENT is judged again (R134, R136, R138), after the report (assumption log entry 11). -/
def changeStation (old new : Station) (query : Option QueryResult) (s : State) : State :=
  let s1 := updateStation old.address (fun _ => new) s
  judgeSilent
    (if reportedFields old ≠ reportedFields new ∨ query.isSome = true then reportStation new query s1 else s1)

/-- A station record after a missed answer (R133). -/
def missedOnce (silentCount : Nat) (st : Station) : Station :=
  let n := min 10 (st.missed + 1)
  { st with
    missed := n
    presence := if silentCount ≤ n then .silent else st.presence
    answer := .none
    hostMark := false }

/-- The query result that a marked station receives (R135). -/
def queryResult (st : Station) (r : QueryResult) : Option QueryResult := if st.hostMark then some r else none

/-- A missed answer is counted (R133, R135). -/
def missedAnswer (st : Station) (s : State) : State :=
  changeStation st (missedOnce s.plant.silentCount st) (queryResult st .unanswered) s

/-- The end of a QUERY acts on the answer state (R133). -/
def queryOutcome (o : DownOutcome) (address : Nat) (s : State) : State :=
  match findStation s address with
  | none => s
  | some st =>
    match st.answer with
    | .inFlight =>
      if o = .delivered then
        updateStation address
          (fun x => { x with answer := .waiting (s.time + BitVec.ofNat 32 s.plant.replyWait) }) s
      else missedAnswer st s
    | .answered => updateStation address (fun x => { x with answer := .none }) s
    | .none => s
    | .waiting _ => s

/-- A down message's outcome is handed to its requester (R119). -/
def handOutcome (m : DownMessage) (o : DownOutcome) (s : State) : State :=
  match m.cls with
  | .hunt => huntOutcome o s
  | .admission => admOutcome o s
  | .host => queryOutcome o m.dest s
  | .poll => queryOutcome o m.dest s

/-- The down channel is free, with no message. -/
def freeDown (s : State) : State :=
  s.setPilot { s.pilot with down := { s.pilot.down with stage := .freeChannel, msg := none, outcome := none } }

/-- The outcome of the ending message is handed on; the idle slots after a restart have none. -/
def endMessage (s : State) : State :=
  match s.pilot.down.msg, s.pilot.down.outcome with
  | some m, some o => handOutcome m o (freeDown s)
  | _, _ => freeDown s

/-- DOWN_MESSAGE_END (R119): the message leaves flight, and in the same slot event the arbiter may choose the next.
What the outcome queues joins before that choice (assumption log entry 51). -/
def execDownMessageEnd (s : State) : Host.Outcome State Fault Refusal :=
  .next
    (if endingDue s then
      let s1 := endMessage s
      if s.due.inSlot then settle (arbitrate s1) else s1
    else s)

/-- HOLDING_TIMEOUT (R129). -/
def execHoldingTimeout (s : State) : Host.Outcome State Fault Refusal :=
  .next
    (if holdingDue s then
      resettle (s.setPilot { s.pilot with up := endHolding (stationsUsable s) s.pilot.up })
    else s)

/-- REFUSING_END (R128, R131). -/
def execRefusingEnd (s : State) : Host.Outcome State Fault Refusal :=
  .next
    (if refusingDue s then
      resettle (s.setPilot { s.pilot with up := endHolding (stationsUsable s) s.pilot.up })
    else s)

/-- COOL_DOWN_END (R130). -/
def execCoolDownEnd (s : State) : Host.Outcome State Fault Refusal :=
  .next
    (if coolDownDue s then s.setPilot { s.pilot with up := { s.pilot.up with coolDown := none } } else s)

/-! ## Deliveries -/

/-- The answer state after a delivered STATUS (R133). -/
def answerAfterStatus (a : AnswerState) : AnswerState :=
  match a with
  | .inFlight => .answered
  | .waiting _ => .none
  | .none => .none
  | .answered => .answered

/-- A delivered STATUS answers a QUERY (R133). -/
def answersQuery (a : AnswerState) : Bool :=
  match a with
  | .inFlight => true
  | .waiting _ => true
  | .none => false
  | .answered => false

/-- A record after a delivered message of its station (R136). -/
def heard (st : Station) : Station := { st with presence := .present, missed := 0 }

/-- A record after a delivered STATUS (R133, R136). -/
def afterStatus (c : Word16) (st : Station) : Station :=
  { heard st with
    switch := statusSwitch c
    indicator := statusIndicator c
    lock := statusLock c
    answer := answerAfterStatus st.answer
    hostMark := st.hostMark && !answersQuery st.answer }

/-- A record after a delivered SWITCH_DONE (R136). -/
def afterSwitchDone (r : SwitchResult) (st : Station) : Station :=
  match r with
  | .doneOpen => { heard st with switch := .opened }
  | .doneClosed => { heard st with switch := .closed }
  | .refusedLocal => { heard st with lock := true }
  | .failed => { heard st with switch := .unknown }

/-- The station table takes a delivery (R127 step 1, R136). -/
def deliverTo (address : Nat) (f : Station → Station) (query : Station → Option QueryResult) (s : State) : State :=
  match findStation s address with
  | some st => changeStation st (f st) (query st) s
  | none => s

/-- The query result of a delivered STATUS (R135). -/
def statusQuery (st : Station) : Option QueryResult :=
  if answersQuery st.answer then queryResult st .answered else none

/-- A delivery that answers no query. -/
def noQuery (_ : Station) : Option QueryResult := none

/-- The up stage after a delivery, and the down half settled with it (R127, R130). -/
def closeDelivery (s : State) : State :=
  resettle (s.setPilot { s.pilot with up := endHolding (stationsUsable s) s.pilot.up })

/-- STATUS (R127, R136). -/
def execStatus (s : State) : Host.Outcome State Fault Refusal :=
  .next
    (match dueMessage s with
      | some (.status, address, c) => closeDelivery (deliverTo address (afterStatus c) statusQuery s)
      | _ => s)

/-- SWITCH_DONE (R127, R136, R145). -/
def execSwitchDone (s : State) : Host.Outcome State Fault Refusal :=
  .next
    (match dueMessage s with
      | some (.switchDone, address, c) =>
        closeDelivery
          (huntSwitchDone address (switchResultOf c)
            (deliverTo address (afterSwitchDone (switchResultOf c)) noQuery s))
      | _ => s)

/-- START_REQUEST (R127, R157). -/
def execStartRequest (s : State) : Host.Outcome State Fault Refusal :=
  .next
    (match dueMessage s with
      | some (.startRequest, address, c) =>
        closeDelivery (admStartRequest address (driveOfCell c) (deliverTo address heard noQuery s))
      | _ => s)

/-- START_DONE (R127, R165). -/
def execStartDone (s : State) : Host.Outcome State Fault Refusal :=
  .next
    (match dueMessage s with
      | some (.startDone, address, c) =>
        closeDelivery (admStartDone address (driveOfCell c) (deliverTo address heard noQuery s))
      | _ => s)

/-- START_ABANDON (R127, R159). -/
def execStartAbandon (s : State) : Host.Outcome State Fault Refusal :=
  .next
    (match dueMessage s with
      | some (.startAbandon, address, c) =>
        closeDelivery (admStartAbandon address (driveOfCell c) (deliverTo address heard noQuery s))
      | _ => s)

/-! ## Polling and queries -/

/-- The station polled next: the lowest address above the cursor, or the lowest (R132). -/
def nextPolled (stations : List Station) (cursor : Option Nat) : Option Nat :=
  match stations.find? fun st => decide (cursor.getD 0 < st.address) with
  | some st => some st.address
  | none => stations.head?.map (·.address)

/-- A poll of a station: its QUERY joins the queue unless one is waiting or in flight or no open place is free
(R122, R132). -/
def pollStation (address : Nat) (s : State) : State :=
  if queryWaiting s address || queryInFlight s address then s
  else (joinQueue (queryMessage .poll address) s).getD s

/-- POLL_TIMER_EXPIRY (R132): the timer is loaded again, and the next station is polled while STATIONS is fit (R52,
R137; assumption log entry 31). -/
def execPollTimerExpiry (s : State) : Host.Outcome State Fault Refusal :=
  .next
    (if s.pilot.pollRemaining = 0 then
      let s1 := s.setPilot { s.pilot with pollRemaining := s.plant.pollInterval * 1000 }
      if stationsFit s then
        match nextPolled s.pilot.stations s.pilot.cursor with
        | some a => pollStation a (s1.setPilot { s1.pilot with cursor := some a })
        | none => s1
      else s1
    else s)

/-- REPLY_WAIT_EXPIRY (R133): the deadline of a station's answer is reached. -/
def execReplyWaitExpiry (station : Nat) (s : State) : Host.Outcome State Fault Refusal :=
  .next
    (match findStation s station with
      | some st => if replyWaitDue s st then missedAnswer st s else s
      | none => s)

/-- A waiting POLL to a station becomes class HOST and keeps its place (R135). -/
def promotePoll (address : Nat) (e : QueueEntry) : QueueEntry :=
  if isQueryTo address e.msg then { e with msg := { e.msg with cls := .host } } else e

/-- The station's host query mark is set (R135). -/
def markStation (address : Nat) (s : State) : State := updateStation address (fun st => { st with hostMark := true }) s

/-- The reply ACCEPTED of PILOT_QUERY, with the address (Table 10.5); its other replies carry it too (assumption log entry
32). -/
def queryAccepted (address : Nat) : Reply := ⟨some .accepted, .address address⟩

/-- PILOT_QUERY (R135). -/
def ownPilotQuery (payload : List Byte) (s : State) : Reply × State :=
  let a := u8 payload 0
  if !stationsFit s then (refusedFor .stationsUnfit (.address a), s)
  else if !listedIn s.pilot.stations a then (badArgumentWith 1 (.address a), s)
  else if queryWaiting s a || queryInFlight s a then
    (queryAccepted a,
      markStation a (s.setPilot { s.pilot with queue := s.pilot.queue.map (promotePoll a) }))
  else
    match joinQueue (queryMessage .host a) s with
    | some s1 => (queryAccepted a, markStation a s1)
    | none => (⟨some .busy, .address a⟩, s)

/-! ## The STATIONS image -/

/-- A station record newly built from an entry (R137, R139). -/
def newStation (e : StationEntry) : Station :=
  { address := e.address, role := e.role, presence := .unknown, switch := .unknown, indicator := false,
    lock := false, missed := 0, answer := .none, hostMark := false, openedByHunt := false }

/-- The record of an entry after a load: a kept one takes the new role, another is new (R137). -/
def rebuiltStation (old : List Station) (e : StationEntry) : Station :=
  match old.find? fun st => st.address == e.address with
  | some st => { st with role := e.role }
  | none => newStation e

/-- Entries in address order. -/
def inAddressOrder (l : List StationEntry) : List StationEntry :=
  (List.range 16).filterMap fun n => l.find? fun e => e.address == n

/-- A waiting QUERY to an address that is no longer listed (R137). -/
def queryToRemoved (entries : List StationEntry) (e : QueueEntry) : Bool :=
  e.msg.kind == .query && !entries.any fun x => x.address == e.msg.dest

/-- The up channel after an accepted load of STATIONS: a holder no longer listed is refused, and CLOSED is left
(R131, R137). -/
def upAfterLoad (entries : List StationEntry) (u : UpChannel) : UpChannel :=
  match u.stage with
  | .holding => if entries.any (fun e => u.holder == some e.address) then u else refuseUp u
  | .closed => upIdle .openToContest none
  | .openToContest => u
  | .refusing => u

/-- The station table is rebuilt at an accepted load of STATIONS (R137). -/
def rebuildStations (entries : List StationEntry) (s : State) : State :=
  judgeSilent
    (s.setPilot
      { s.pilot with
        stations := (inAddressOrder entries).map (rebuiltStation s.pilot.stations)
        queue := s.pilot.queue.filter fun e => !queryToRemoved entries e
        up := upAfterLoad entries s.pilot.up })

/-- The up channel when STATIONS becomes not valid (R131). -/
def upAfterInvalid (u : UpChannel) : UpChannel :=
  match u.stage with
  | .holding => refuseUp u
  | .refusing => u
  | .openToContest => upIdle .closed none
  | .closed => upIdle .closed none

/-- A set host query mark is cleared with a report UNANSWERED (R137). -/
def dropMark (s : State) (st : Station) : State :=
  if st.hostMark then
    reportStation { st with hostMark := false } (some .unanswered)
      (updateStation st.address (fun x => { x with hostMark := false }) s)
  else s

/-- STATIONS becomes not valid at a check (R137). The reports UNANSWERED stand in address order (assumption log entry
11). -/
def stationsInvalid (s : State) : State :=
  let s1 :=
    s.setPilot
      { s.pilot with
        up := upAfterInvalid s.pilot.up
        queue := s.pilot.queue.filter fun e => e.msg.kind != .query
        stations := s.pilot.stations.map fun st => { st with answer := .none } }
  s1.pilot.stations.foldl dropMark s1

end Sys2Proof.Machine
end

