-- ==== Sys2Proof/Machine/Store.lean ====
section
/-! DEFINITION. The settings store (sections 3.1 to 3.4): LOAD_IMAGE, backing writes, the integrity scan, and what
the users of an image do when it is accepted or becomes invalid. -/

namespace Sys2Proof.Machine

/-- Some present image is invalid: INTEGRITY's active state (R50). -/
def anyInvalid (t : ImageTable Image) : Bool :=
  ImageId.all.any fun i => (t.get i).present && !(t.get i).valid

/-- INTEGRITY is judged again (R45, R50). -/
def judgeIntegrity (s : State) : State := setCondition .integrity (anyInvalid s.store.images) s

/-- An IMAGE report (Table 10.3). -/
def reportImage (r : ImageReport) (s : State) : State := addReport (.image s.time r) s

/-! ## Users of an image -/

/-- The PLANT settings in use have changed: the action table, FIRE_STALE, FIRE_REGIME and the candidate (R45,
R53, R56, R58, R63), in this order (assumption log entry 11). -/
def plantChanged (s : State) : State := recompute (judgeFireRegime (judgeFireStale (applyTable s)))

/-- The in-force set is marked for refresh at the load of a curve that the active group uses (R47). -/
def markCurve (k : Nat) (s : State) : State :=
  if (curvesUsed s.settings).contains k then s.setRegime { s.regime with refreshCurve := true } else s

/-- The in-force set is marked for refresh at the load of the active group's image (R47). -/
def markGroup (g : Nat) (s : State) : State :=
  if s.regime.active = g then s.setRegime { s.regime with refreshGroup := true } else s

/-- The override is tested at the load of its group (R60). -/
def cancelAtLoad (g : Nat) (s : State) : State := if s.regime.override = some g then cancelOverride s else s

/-- The users take up an accepted image (R45, R47). -/
def usersAccept (i : ImageId) (s : State) : State :=
  match i with
  | .plant => plantChanged s
  | .stations => rebuildStations (parseStations s.store.images.stations.working) s
  | .curve0 => recompute (markCurve 0 s)
  | .curve1 => recompute (markCurve 1 s)
  | .curve2 => recompute (markCurve 2 s)
  | .curve3 => recompute (markCurve 3 s)
  | .group0 => recompute (cancelAtLoad 0 (markGroup 0 s))
  | .group1 => recompute (cancelAtLoad 1 (markGroup 1 s))
  | .group2 => recompute (cancelAtLoad 2 (markGroup 2 s))
  | .group3 => recompute (cancelAtLoad 3 (markGroup 3 s))
  | .hunt => s
  | .drives => rebuildDrives (parseDrives s.store.images.drives.working) s

/-- The users are handed an image's invalidity (R50, R52). -/
def usersInvalid (i : ImageId) (s : State) : State :=
  match i with
  | .plant => plantChanged s
  | .stations => stationsInvalid s
  | .curve0 => recompute s
  | .curve1 => recompute s
  | .curve2 => recompute s
  | .curve3 => recompute s
  | .group0 => recompute s
  | .group1 => recompute s
  | .group2 => recompute s
  | .group3 => recompute s
  | .hunt => s
  | .drives => drivesInvalid s

/-! ## Checks -/

/-- The image after a check of its working copy (R41, R50). -/
def checkedImage (i : Image) : Image :=
  if !i.present then { i with lastCheck := .notPresent }
  else if crc16 i.working = i.storedCrc then { i with lastCheck := .good }
  else { i with lastCheck := .mismatch, valid := false }

/-- The end of a check (R50): a change from valid is reported and handed to the users, and INTEGRITY follows. -/
def checkImage (s : State) (i : ImageId) : State :=
  let s1 := updateImage i checkedImage s
  if (s.store.images.get i).valid ∧ (s1.store.images.get i).valid = false then
    judgeIntegrity (usersInvalid i (reportImage (.mismatch i) s1))
  else s1

/-- The check in progress, if any, ends (R48, R50). -/
def endCheck (s : State) : State :=
  match s.store.checking with
  | some i => checkImage s i
  | none => s

/-- SCAN_EVENT (R48): at each multiple of 500 of the time base. -/
def execScanEvent (s : State) : Host.Outcome State Fault Refusal :=
  .next
    (if s.due.scan then
      let s1 := endCheck (s.setDue { s.due with scan := false })
      s1.setStore { s1.store with checking := some s1.store.scanPos, scanPos := s1.store.scanPos.next }
    else s)

/-- The pass of CHECK_IMAGES (R51). -/
def fullPass (s : State) : State :=
  let s1 := ImageId.all.foldl checkImage (s.setStore { s.store with checking := none })
  reportImage (.pass (s1.store.images.map passEntry))
    (s1.setStore { s1.store with checking := none, scanPos := .plant })

/-- CHECK_IMAGES (R51). -/
def ownCheckImages (s : State) : Reply × State := (okReply .empty, fullPass s)

/-! ## Backing writes -/

/-- An image whose backing write ended STORED (R46). -/
def storedImage (w : BackingWrite) (i : Image) : Image :=
  { i with retained := true, backing := .written w.content w.crc }

/-- BACKING_WRITE_COMPLETION (R46), with the memory's answer. A failed write leaves content that will fail its
check: a free value (assumption log entry 3). -/
def execBackingWriteCompletion (stored : Bool) (s : State) : Host.Outcome State Fault Refusal :=
  .next
    (match s.store.write with
      | none => s
      | some w =>
        let s1 := s.setStore { s.store with write := none }
        if stored then reportImage (.stored w.image) (updateImage w.image (storedImage w) s1)
        else
          reportImage (.writeFailed w.image)
            ((updateImage w.image (fun i => { i with backing := .spoiled s.freeIx }) s1).setFreeIx (s.freeIx + 1)))

/-! ## LOAD_IMAGE -/

/-- The image after an accepted load (R41, R45). -/
def loadedImage (id : ImageId) (content : List Byte) (crc : Word16) (i : Image) : Image where
  present := true
  valid := true
  retained := false
  revision := revisionOf id content
  storedCrc := crc
  lastCheck := .notChecked
  working := content
  backing := i.backing

/-- The working copy and record are replaced and the backing write starts (R45). -/
def replaceImage (id : ImageId) (content : List Byte) (crc : Word16) (s : State) : State :=
  let s1 := updateImage id (loadedImage id content crc) s
  s1.setStore { s1.store with write := some { image := id, content := content, crc := crc, started := s.time } }

/-- A LOAD_IMAGE is accepted (R45). -/
def acceptImage (id : ImageId) (content : List Byte) (crc : Word16) (s : State) : State :=
  usersAccept id (judgeIntegrity (replaceImage id content crc s))

/-- The reply of a LOAD_IMAGE that names its image (Table 10.5); of a content of fewer than 2 bytes the missing kind or
index is 0 (assumption log entry 20). -/
def loadReply (status : Status) (content : List Byte) (field contradicted : Option Nat) : Reply :=
  ⟨some status, .loadResult (u8 content 0) (u8 content 1) field contradicted⟩

/-- LOAD_IMAGE (R44). The payload is the image with its header, then the host's CRC-16. -/
def ownLoadImage (payload : List Byte) (s : State) : Reply × State :=
  let n := payload.length - 2
  let content := payload.take n
  let crc := word16 (payload.getD n 0) (payload.getD (n + 1) 0)
  if crc16 content ≠ crc then (loadReply .badCheck content none none, s)
  else
    match rangeFailure content with
    | some f => (loadReply .badArgument content (some f) none, s)
    | none =>
      match crossFailure s.store.images content with
      | some (f, k) => (loadReply .badArgument content (some f) k, s)
      | none =>
        if s.store.write.isSome then (loadReply .busy content none none, s)
        else
          match ImageId.ofKindIndex (u8 content 0) (u8 content 1) with
          | some id => (loadReply .accepted content none none, acceptImage id content crc s)
          | none => (loadReply .badArgument content (some 0) none, s)

end Sys2Proof.Machine
end

