-- ==== Sys2Proof/Machine/HostLine.lean ====
section
/-! DEFINITION. The record interface (Chapter 10): the receive parser, the judgement of records, the transmitter,
and the execution of each command. A command's row takes the command at the head of the command queue when it is of
the row's kind. -/

namespace Sys2Proof.Machine

/-! ## Reception -/

/-- The parser in SYNC_WAIT (R168). -/
def parserIdle (now : Time) : Parser :=
  { stage := .syncWait, length := 0, header := [], payload := [], check := [], lastByte := now }

/-- The record whose second CHECK byte `b` has come (Table 10.1). -/
def completedRecord (p : Parser) (b : Byte) : HostRecord where
  length := p.length
  kind := p.header.getD 0 0
  tag := p.header.getD 1 0
  payload := p.payload
  check := word16 (p.check.getD 0 0) b

/-- The parser after one byte, and the record that the byte completes (R168). -/
def parseByte (now : Time) (b : Byte) (p : Parser) : Parser × Option HostRecord :=
  match p.stage with
  | .syncWait =>
    if b = 0xC3 then ({ parserIdle now with stage := .length }, none) else (parserIdle now, none)
  | .length =>
    if 248 < b.toNat then (parserIdle now, none)
    else ({ p with stage := .header, length := b, lastByte := now }, none)
  | .header =>
    let q := { p with header := p.header ++ [b], lastByte := now }
    if p.header.isEmpty then (q, none)
    else if p.length = 0 then ({ q with stage := .check }, none)
    else ({ q with stage := .payload }, none)
  | .payload =>
    let q := { p with payload := p.payload ++ [b], lastByte := now }
    if q.payload.length = p.length.toNat then ({ q with stage := .check }, none) else (q, none)
  | .check =>
    if p.check.isEmpty then ({ p with check := [b], lastByte := now }, none)
    else (parserIdle now, some (completedRecord p b))

/-- HOST_BYTE_RECEIVED (R168): a record whose last byte this is arrives. -/
def execHostByteReceived (b : Byte) (s : State) : Host.Outcome State Fault Refusal :=
  .next
    (s.setHost
      { s.host with
        parser := (parseByte s.time b s.host.parser).1
        arrived := s.host.arrived ++ (parseByte s.time b s.host.parser).2.toList })

/-- RECEIVE_TIMEOUT (R168): the partial record is discarded. -/
def execReceiveTimeout (s : State) : Host.Outcome State Fault Refusal :=
  .next
    (if receiveDue s then s.setHost { s.host with parser := parserIdle s.host.parser.lastByte } else s)

/-- A reply place filled at once (R169). -/
def filledPlace (kind : Nat) (tag : Byte) (r : Reply) : ReplyPlace :=
  { kind := kind, tag := tag, reply := some r, restart := none }

/-- The record interface after the judgement of a record (R169). -/
def judgeRecord (r : HostRecord) (h : HostIf) : HostIf :=
  if 8 ≤ h.replies.length then { h with lostRecords := min 255 (h.lostRecords + 1) }
  else if r.check ≠ recordCrc r then
    { h with replies := h.replies ++ [filledPlace nakKind r.tag ⟨none, .empty⟩] }
  else if !isCommandKind r.kind then
    { h with replies := h.replies ++ [filledPlace badKindKind r.tag ⟨some .badKind, .kind r.kind⟩] }
  else if 4 ≤ h.commands.length then
    { h with replies := h.replies ++ [filledPlace (replyKindOf r.kind) r.tag ⟨some .queueFull, .empty⟩] }
  else
    { h with
      replies := h.replies ++ [{ kind := replyKindOf r.kind, tag := r.tag, reply := none, restart := none }]
      commands := h.commands ++ [{ kind := r.kind, tag := r.tag, payload := r.payload }] }

/-- HOST_RECORD_ARRIVAL (R169): the oldest record not yet judged. -/
def execHostRecordArrival (s : State) : Host.Outcome State Fault Refusal :=
  .next
    (match s.host.arrived with
      | r :: rest => s.setHost (judgeRecord r { s.host with arrived := rest })
      | [] => s)

/-! ## Transmission -/

/-- The report queue after its head has left it: an OVERRUN report takes the freed place while the overrun flag is
set (R172). -/
def afterReportLeaves (now : Time) (rest : List Report) (h : HostIf) : HostIf :=
  if h.overrun then
    { h with
      reports := rest ++ [.overrun { time := now, lost := h.lostReports, firstLoss := h.firstLoss }]
      overrun := false
      lostReports := 0 }
  else { h with reports := rest }

/-- The transmitter's choice on an idle line (R171). -/
def chooseRecord (now : Time) (h : HostIf) : HostIf :=
  match h.replies with
  | p :: _ => if p.reply.isSome then { h with tx := .reply p } else h
  | [] =>
    match h.reports with
    | r :: rest => { afterReportLeaves now rest h with tx := .report r }
    | [] => h

/-- TRANSMISSION_START (R171). -/
def execTransmissionStart (s : State) : Host.Outcome State Fault Refusal :=
  .next (if s.host.tx = .idle then s.setHost (chooseRecord s.time s.host) else s)

/-- The record interface after RESTART LINK (R176, Table 10.7). -/
def linkReset (h : HostIf) : HostIf :=
  { h with
    parser := parserIdle h.parser.lastByte
    arrived := []
    commands := []
    replies := []
    reports := []
    mask := 0x07FF
    overrun := false
    lostReports := 0
    lostRecords := 0
    tx := .idle
    restart := .none }

/-- What the end of a reply's transmission sets going (R176, R177). -/
def afterReply (p : ReplyPlace) (h : HostIf) : HostIf :=
  match p.restart with
  | none => h
  | some .link => linkReset h
  | some .full => { h with restart := .fullSent }

/-- TRANSMISSION_END (R171): a reply frees its place. -/
def execTransmissionEnd (s : State) : Host.Outcome State Fault Refusal :=
  .next
    (match s.host.tx with
      | .idle => s
      | .report _ => s.setHost { s.host with tx := .idle }
      | .reply p => s.setHost (afterReply p { s.host with tx := .idle, replies := s.host.replies.drop 1 }))

/-! ## Execution (R170) -/

/-- The oldest unfilled place takes a reply. -/
def fillFirst (r : Reply) (restart : Option RestartKind) : List ReplyPlace → List ReplyPlace
  | [] => []
  | p :: rest =>
    if p.reply.isSome then p :: fillFirst r restart rest
    else { p with reply := some r, restart := restart } :: rest

/-- The executing command's place takes its reply (R170). -/
def fillReply (r : Reply) (restart : Option RestartKind) (s : State) : State :=
  s.setHost { s.host with replies := fillFirst r restart s.host.replies }

/-- The command at the head of the queue, when it is of kind `k` and no restart command holds execution back
(R170, R176, R177). -/
def headCommand (k : CommandKind) (s : State) : Option Command :=
  match s.host.commands with
  | c :: _ => if c.kind.toNat = commandCode k ∧ s.host.restart = .none then some c else none
  | [] => none

/-- A command leaves the queue at the start of its execution (R170). -/
def popCommand (s : State) : State := s.setHost { s.host with commands := s.host.commands.drop 1 }

/-- The execution of a command by its owner: a payload of the wrong length is refused before the owner sees it
(R170). -/
def execute (k : CommandKind) (own : List Byte → State → Reply × State) (c : Command) (s : State) : State :=
  if payloadLengthOk k c.payload.length then
    fillReply (own c.payload (popCommand s)).1 none (own c.payload (popCommand s)).2
  else fillReply (badArgument 0) none (popCommand s)

/-- The execution of the head command of kind `k`, if there is one. -/
def runCommand (k : CommandKind) (own : List Byte → State → Reply × State) (s : State) : State :=
  match headCommand k s with
  | some c => execute k own c s
  | none => s

/-! ## Reading commands (R174) -/

/-- ECHO's reply: the complements of at most 247 bytes (R174). -/
def ownEcho (payload : List Byte) (s : State) : Reply × State :=
  (okReply (.bytes ((payload.take 247).map fun b => ~~~b)), s)

/-- The revision of a group's working copy; 0 for group S (R54). -/
def groupRevision (s : State) (g : Nat) : Nat := (inForceOf s.store.images g).settings.revision

/-- READ_STATUS section 1. -/
def systemStatus (s : State) : SystemStatus where
  time := s.time
  seq := s.seq
  breaker := breakerStatus s
  active := s.regime.active
  activeRevision := s.settings.revision
  pending := s.regime.pending.map fun g => (g, groupRevision s g)
  candidate := s.regime.candidate
  fallback := s.regime.fallback
  override := s.regime.override
  fire := s.regime.fire
  season := s.plant.season
  lostRecords := s.host.lostRecords

/-- READ_STATUS section 2. -/
def conditionStatus (s : State) : ConditionStatus where
  time := s.time
  recs := CondTable.build fun c => (s.mon.recs.get c, (s.mon.recs.get c).inForce)
  hard := s.mon.hard
  hold := s.mon.hold
  startBar := s.mon.startBar
  huntBar := s.mon.huntBar
  alarm := s.mon.alarm

/-- READ_STATUS section 3. -/
def imageStatus (s : State) : ImageStatus where
  time := s.time
  directory := ImageId.all.map (dirRecord s.store.images)
  scanPos := s.store.scanPos
  checking := s.store.checking
  write := s.store.write.map (·.image)

/-- READ_STATUS section 4. -/
def stationStatus (s : State) : StationStatus where
  time := s.time
  stations := s.pilot.stations
  downStage := s.pilot.down.stage
  upStage := s.pilot.up.stage
  holder := s.pilot.up.holder
  inFlight := s.pilot.down.msg
  queue := s.pilot.queue.map fun e => (e.msg.cls, e.msg.dest)
  cursor := s.pilot.cursor

/-- READ_STATUS section 5 (R153). -/
def huntStatus (s : State) : HuntStatus where
  time := s.time
  state := s.hunt.state
  origin := s.hunt.origin
  step := s.hunt.step
  phase := s.hunt.phase
  switchRemaining := s.hunt.switchTimer.map (·.remaining)
  dwellRemaining := s.hunt.dwellTimer.map (·.remaining)
  openStation := s.hunt.openStation
  outstanding := s.hunt.outstanding
  plan := s.hunt.plan
  results := s.hunt.results
  last := s.hunt.last
  openedFlags := s.pilot.stations.map fun st => (st.address, st.openedByHunt)

/-- READ_STATUS section 6 (R166). -/
def admissionStatus (s : State) : AdmissionStatus := { time := s.time, admission := s.adm }

/-- READ_STATUS (R174). -/
def ownReadStatus (payload : List Byte) (s : State) : Reply × State :=
  let n := u8 payload 0
  if n = 1 then (okReply (.system (systemStatus s)), s)
  else if n = 2 then (okReply (.conditions (conditionStatus s)), s)
  else if n = 3 then (okReply (.images (imageStatus s)), s)
  else if n = 4 then (okReply (.stations (stationStatus s)), s)
  else if n = 5 then (okReply (.hunt (huntStatus s)), s)
  else if n = 6 then (okReply (.admission (admissionStatus s)), s)
  else (badArgument 1, s)

/-- READ_MEASURE (R39, R174). -/
def ownReadMeasure (_ : List Byte) (s : State) : Reply × State := (okReply (.measure s.meas.latest s.prot), s)

/-- The defaults that READ_IMAGE PLANT also carries while PLANT is not present or not valid (R174). -/
def shownDefaults (i : ImageId) (s : State) : Option (List Byte) :=
  if i = .plant ∧ usable s.store.images.plant = false then some (plantBytes plantDefaults) else none

/-- READ_IMAGE (R174). -/
def ownReadImage (payload : List Byte) (s : State) : Reply × State :=
  match ImageId.ofKindIndex (u8 payload 0) (u8 payload 1) with
  | some i =>
    let im := s.store.images.get i
    (okReply
        (.image (dirRecord s.store.images i) (if im.present then some im.working else none) (shownDefaults i s)),
      s)
  | none => (if 1 ≤ u8 payload 0 ∧ u8 payload 0 ≤ 6 then badArgument 2 else badArgument 1, s)

/-! ## Acting commands of the record interface and the condition monitor -/

/-- The permit of SET_PERMIT's first byte (Table 10.4). -/
def permitOf (v : Nat) : Option Cond :=
  if v = 1 then some .liveLine else if v = 2 then some .hostHold else none

/-- The reply of SET_PERMIT (R111). -/
def permitReply (c : Cond) (s : State) : Reply :=
  okReply
    (.permit (s.mon.recs.get c).active (s.mon.recs.get c).latched (s.mon.recs.get c).inForce s.mon.hard s.mon.hold)

/-- SET_PERMIT (R111). -/
def ownSetPermit (payload : List Byte) (s : State) : Reply × State :=
  match permitOf (u8 payload 0) with
  | none => (badArgument 1, s)
  | some c =>
    if 1 < u8 payload 1 then (badArgument 2, s)
    else (permitReply c (setCondition c (u8 payload 1 == 1) s), setCondition c (u8 payload 1 == 1) s)

/-- The conditions that ACK_CONDITIONS names: bit n − 1 names condition n (Table 10.4). -/
def namedConditions (set : Nat) : List Cond := Cond.all.filter fun c => set.testBit (c.number - 1)

/-- A record after an acknowledgement that names it (R110). -/
def acknowledged (r : CondRec) : CondRec := if r.active then r else { r with latched := false }

/-- The records after an acknowledgement (R110). -/
def acknowledgedTable (set : Nat) (t : CondTable CondRec) : CondTable CondRec :=
  CondTable.build fun c => if set.testBit (c.number - 1) then acknowledged (t.get c) else t.get c

/-- The state after an acknowledgement (R110). -/
def acknowledge (set : Nat) (s : State) : State :=
  huntBarArrival s (replaceRecords .ack (acknowledgedTable set s.mon.recs) s)

/-- ACK_CONDITIONS (R110). -/
def ownAckConditions (payload : List Byte) (s : State) : Reply × State :=
  let set := u16 payload 0
  if 4096 ≤ set then (badArgument 1, s)
  else
    let s1 := acknowledge set s
    (okReply
        (.acknowledged ((namedConditions set).filter fun c => !(s.mon.recs.get c).active)
          ((namedConditions set).filter fun c => (s.mon.recs.get c).active) s1.mon.hard s1.mon.hold),
      s1)

/-- SET_REPORT_MASK (R173): START_UP and OVERRUN stay enabled, bits 11 to 15 are ignored. -/
def maskInForce (m : Word16) : Word16 := (m &&& 0x07FF) ||| 0x0401

/-- SET_REPORT_MASK (R173). -/
def ownSetReportMask (payload : List Byte) (s : State) : Reply × State :=
  let m := maskInForce (word16 (payload.getD 0 0) (payload.getD 1 0))
  (okReply (.mask m), s.setHost { s.host with mask := m })

/-! ## Acting commands of the hunt controller -/

/-- The reason code of a start test (Table 10.6). -/
def notStartedReason (r : NotStarted) : Reason :=
  match r with
  | .notIdle => .notIdle
  | .huntDisabled => .huntDisabled
  | .planUnfit => .planUnfit
  | .stationsUnfit => .stationsUnfit
  | .huntBar => .huntBar
  | .sequencerNotReady => .sequencerNotReady
  | .breakerNotClosed => .breakerNotClosed

/-- START_HUNT (R141). -/
def ownStartHunt (_ : List Byte) (s : State) : Reply × State :=
  match requestTests s with
  | some r => (refusedFor (notStartedReason r) (.huntState s.hunt.state), s)
  | none => (okReply (.huntState (admitHunt .host s).hunt.state), admitHunt .host s)

/-- The content of STOP_HUNT's reply (Table 10.5, R153). -/
def stopContent (s : State) : ReplyBody := .huntStopped s.hunt.state s.hunt.last

/-- STOP_HUNT (R150). -/
def ownStopHunt (_ : List Byte) (s : State) : Reply × State :=
  if s.hunt.state = .idle ∨ s.hunt.state = .settling then
    (refusedFor .notRunning (stopContent s), s)
  else (okReply (stopContent (huntAbort .stop s)), huntAbort .stop s)

/-! ## Restart commands (R176, R177) -/

/-- The execution of RESTART LINK: OK, and no further command is executed (R176). -/
def linkRestartTaken (s : State) : State :=
  fillReply (okReply .empty) (some .link) (s.setHost { s.host with restart := .link })

/-- The execution of RESTART FULL: refused while a coil output is asserted (R177). -/
def fullRestartTaken (s : State) : State :=
  if s.brk.tripOut || s.brk.closeOut then fillReply (refusedFor .outputActive .empty) none s
  else fillReply (okReply .empty) (some .full) (s.setHost { s.host with restart := .full })

/-- The execution of a RESTART command by its payload (Table 10.4, R170). -/
def executeRestart (c : Command) (s : State) : State :=
  if c.payload.length ≠ 1 then fillReply (badArgument 0) none (popCommand s)
  else if u8 c.payload 0 = 1 then linkRestartTaken (popCommand s)
  else if u8 c.payload 0 = 2 then fullRestartTaken (popCommand s)
  else fillReply (badArgument 1) none (popCommand s)

/-- The execution of the head RESTART, unless its payload is that of the other row. -/
def runRestart (other : List Byte) (s : State) : State :=
  match headCommand .restart s with
  | some c => if c.payload = other then s else executeRestart c s
  | none => s

/-! ## Commands of the table -/

/-- ECHO. -/
def execEcho (s : State) : Host.Outcome State Fault Refusal := .next (runCommand .echo ownEcho s)

/-- READ_STATUS. -/
def execReadStatus (s : State) : Host.Outcome State Fault Refusal := .next (runCommand .readStatus ownReadStatus s)

/-- READ_MEASURE. -/
def execReadMeasure (s : State) : Host.Outcome State Fault Refusal :=
  .next (runCommand .readMeasure ownReadMeasure s)

/-- READ_IMAGE. -/
def execReadImage (s : State) : Host.Outcome State Fault Refusal := .next (runCommand .readImage ownReadImage s)

/-- LOAD_IMAGE. -/
def execLoadImage (s : State) : Host.Outcome State Fault Refusal := .next (runCommand .loadImage ownLoadImage s)

/-- CHECK_IMAGES. -/
def execCheckImages (s : State) : Host.Outcome State Fault Refusal :=
  .next (runCommand .checkImages (fun _ => ownCheckImages) s)

/-- SET_FIRE_LEVEL. -/
def execSetFireLevel (s : State) : Host.Outcome State Fault Refusal :=
  .next (runCommand .setFireLevel ownSetFireLevel s)

/-- SELECT_GROUP. -/
def execSelectGroup (s : State) : Host.Outcome State Fault Refusal :=
  .next (runCommand .selectGroup ownSelectGroup s)

/-- TRIP. -/
def execTrip (s : State) : Host.Outcome State Fault Refusal := .next (runCommand .trip (fun _ => ownTrip) s)

/-- CLOSE. -/
def execClose (s : State) : Host.Outcome State Fault Refusal := .next (runCommand .close (fun _ => ownClose) s)

/-- RESET_LOCKOUT. -/
def execResetLockout (s : State) : Host.Outcome State Fault Refusal :=
  .next (runCommand .resetLockout (fun _ => ownResetLockout) s)

/-- SET_PERMIT. -/
def execSetPermit (s : State) : Host.Outcome State Fault Refusal := .next (runCommand .setPermit ownSetPermit s)

/-- ACK_CONDITIONS. -/
def execAckConditions (s : State) : Host.Outcome State Fault Refusal :=
  .next (runCommand .ackConditions ownAckConditions s)

/-- START_HUNT. -/
def execStartHunt (s : State) : Host.Outcome State Fault Refusal := .next (runCommand .startHunt ownStartHunt s)

/-- STOP_HUNT. -/
def execStopHunt (s : State) : Host.Outcome State Fault Refusal := .next (runCommand .stopHunt ownStopHunt s)

/-- REQUEST_START. -/
def execRequestStart (s : State) : Host.Outcome State Fault Refusal :=
  .next (runCommand .requestStart ownRequestStart s)

/-- CANCEL_START. -/
def execCancelStart (s : State) : Host.Outcome State Fault Refusal :=
  .next (runCommand .cancelStart ownCancelStart s)

/-- PILOT_QUERY. -/
def execPilotQuery (s : State) : Host.Outcome State Fault Refusal := .next (runCommand .pilotQuery ownPilotQuery s)

/-- SET_REPORT_MASK. -/
def execSetReportMask (s : State) : Host.Outcome State Fault Refusal :=
  .next (runCommand .setReportMask ownSetReportMask s)

/-- RESTART_LINK. A RESTART whose payload is neither restart's is refused by either row. -/
def execRestartLink (s : State) : Host.Outcome State Fault Refusal := .next (runRestart [2] s)

/-- RESTART_FULL. -/
def execRestartFull (s : State) : Host.Outcome State Fault Refusal := .next (runRestart [1] s)

end Sys2Proof.Machine
end

