-- ==== Sys2Proof/Machine/Restart.lean ====
section
/-! DEFINITION. The full restart (R16, R40, R64, R77, R101, R113, R139, R154, R167, R178). It keeps the backing
copies, and of the model's own fields the free-value counter and the queue of commands. -/

namespace Sys2Proof.Machine

/-! ## Settings store and regime unit (R64) -/

/-- The backing copies that a restart finds: that of an unfinished backing write is spoiled (R46). -/
def backingAtRestart (s : State) (i : ImageId) : Backing :=
  match s.store.write with
  | some w => if w.image = i then .spoiled s.freeIx else (s.store.images.get i).backing
  | none => (s.store.images.get i).backing

/-- The counter of free values after the restart. -/
def freeIxAtRestart (s : State) : Nat := if s.store.write.isSome then s.freeIx + 1 else s.freeIx

/-- The images after the load and the restart check (R64 steps 1 and 2). -/
def imagesAtRestart (f : ImageId → Backing) : ImageTable Image where
  plant := restartImage .plant (f .plant)
  stations := restartImage .stations (f .stations)
  curve0 := restartImage .curve0 (f .curve0)
  curve1 := restartImage .curve1 (f .curve1)
  curve2 := restartImage .curve2 (f .curve2)
  curve3 := restartImage .curve3 (f .curve3)
  group0 := restartImage .group0 (f .group0)
  group1 := restartImage .group1 (f .group1)
  group2 := restartImage .group2 (f .group2)
  group3 := restartImage .group3 (f .group3)
  hunt := restartImage .hunt (f .hunt)
  drives := restartImage .drives (f .drives)

/-- The fire level state at a restart, with its effective level (R64 step 3). -/
def fireAtRestart (season : Bool) : FireLevel where
  level := none
  setTime := 0
  validity := 0
  expired := false
  effective := if season then 5 else 0

/-- The regime unit at a restart (R64 steps 3 and 4). -/
def regimeAtRestart (t : ImageTable Image) : Regime :=
  let fire := fireAtRestart (plantOf t).season
  let c := candidateFor t fire.effective (selectedGroup none (plantOf t).regimeMap fire.effective)
  { fire := fire
    override := none
    candidate := c.1
    fallback := c.2
    pending := none
    active := c.1
    inForce := inForceOf t c.1
    refreshGroup := false
    refreshCurve := false }

/-! ## Conditions (R113) -/

/-- An owner's restart value of a condition (R113). -/
def activeAtRestart (t : ImageTable Image) (r : Regime) (c : Cond) : Bool :=
  match c with
  | .integrity => anyInvalid t
  | .breakerNotReady => true
  | .fireStale => (plantOf t).season
  | .fireRegime => decide ((plantOf t).alarmRank ≤ r.inForce.settings.rank)
  | .sampleLoss => false
  | .breakerFail => false
  | .closeFail => false
  | .huntActive => false
  | .earthFaultStanding => false
  | .stationSilent => false
  | .liveLine => false
  | .hostHold => false

/-- The record of a condition at a restart: its restart value applied as a rise (R103, R113). -/
def recordAtRestart (t : ImageTable Image) (r : Regime) (c : Cond) : CondRec :=
  CondRec.setActive
    { active := false
      latched := false
      mode := ((plantOf t).actions.get c).mode
      actions := actionsUnder (plantOf t).actions c }
    (activeAtRestart t r c)

/-! ## The other blocks -/

/-- The latest evaluation record at a restart (Table 1.5). -/
def noRecord (group : Nat) : EvalRecord where
  present := false
  time := 0
  group := group
  startPickups := false
  e := ⟨0, 0, 0, 0, 0⟩
  clipped := ⟨false, false, false, false, false⟩
  q :=
    { phTime := ⟨none, none, none⟩, phHigh := ⟨none, none, none⟩, efTime := none, efHigh := none, sef := none,
      sefVn := none, huntClear := none, quiet := ⟨none, none, none⟩ }

/-- The measurement unit at a restart (R16). -/
def measAtRestart (group : Nat) : Measurement where
  windows := ⟨[], [], [], [], []⟩
  sums := ⟨0, 0, 0, 0, 0⟩
  fill := 0
  phase := 0
  latest := noRecord group

/-- The breaker interface at a restart (Table 4.3). -/
def breakerAtRestart : Breaker where
  prevPos := none
  accepted := .none
  prevReady := none
  ready := .none
  tripOut := false
  closeOut := false
  tripMemo := none
  closeMemo := none
  tripTimer := none
  closeTimer := none

/-- The sequencer at a restart (R101). -/
def sequencerAtRestart : Sequencer where
  state := .lockout
  shots := 0
  loaded := none
  remaining := none
  held := false
  holdUsed := 0
  lastTrip := none
  closeOrigin := none
  closeWithdrawn := false
  cause := some .powerOnOpen
  posAwaited := true
  closedLast := false

/-- The down channel at a restart (Table 7.9). -/
def downAtRestart (take : Nat) : DownChannel where
  stage := .ending
  msg := none
  cell := 1
  phase := false
  echoLooks := 0
  echoSeen := false
  idleLooks := 0
  slotsOffered := 0
  loadedTake := take
  endingLeft := 2
  outcome := none

/-- The pilot bus controller at a restart (Table 7.9). The station table is empty also where STATIONS is present and
fails its restart check (assumption log entry 46). -/
def pilotAtRestart (t : ImageTable Image) : Pilot where
  down := downAtRestart (plantOf t).takeTimeout
  queue := []
  up := upIdle (if usable t.stations then .openToContest else .closed) none
  half := none
  pollRemaining := (plantOf t).pollInterval * 1000
  cursor := none
  stations := (inAddressOrder ((stationsOf t).getD [])).map newStation

/-- The hunt controller at a restart (R154). -/
def huntAtRestart : Hunt where
  state := .idle
  origin := none
  plan := none
  step := 0
  phase := none
  switchTimer := none
  dwellTimer := none
  openStation := none
  outstanding := none
  indicators := []
  results := []
  last := none
  startTime := none
  judgedQ := none
  pointTime := none

/-- The start admission unit at a restart (R167). -/
def admissionAtRestart (t : ImageTable Image) : Admission where
  drives := if usable t.drives then (inDriveOrder (parseDrives t.drives.working)).map newDrive else []
  queue := []
  quiet := 0
  second := .empty
  window := none
  outstanding := none
  releaseDue := none

/-- START_UP (R178). -/
def startUpReport (cause : RestartCause) (rate : Nat) (t : ImageTable Image) (r : Regime) : StartUpReport where
  time := 0
  cause := cause
  lineRate := rate
  images := t.map passEntry
  group := r.active
  revision := r.inForce.settings.revision
  fallback := r.fallback
  season := (plantOf t).season
  effective := r.fire.effective

/-- The record interface at a restart (Table 10.7). -/
def hostAtRestart (rate : Nat) (startUp : StartUpReport) : HostIf where
  lineRate := rate
  parser := parserIdle 0
  arrived := []
  commands := []
  replies := []
  reports := [.startUp startUp]
  mask := 0x07FF
  overrun := false
  lostReports := 0
  firstLoss := 0
  lostRecords := 0
  tx := .idle
  restart := .none

/-- The state that a full restart makes of loaded images (R178). -/
def restarted (cause : RestartCause) (rate : Nat) (t : ImageTable Image) (freeIx : Nat) (pending : List Instr) :
    State where
  time := 0
  due :=
    { slot := false, inSlot := false, scan := false, second := false, settle := false, restart := false,
      holdOver := none }
  port := { state := .start, lastSeq := none, lastArrival := 0 }
  meas := measAtRestart (regimeAtRestart t).active
  prot := ⟨⟨0, 0, 0⟩, 0, ⟨0, 0, 0⟩, 0, 0, false, false⟩
  store := { images := t, write := none, scanPos := .plant, checking := none }
  regime := regimeAtRestart t
  brk := breakerAtRestart
  seq := sequencerAtRestart
  mon := monitorOf (CondTable.build (recordAtRestart t (regimeAtRestart t)))
  pilot := pilotAtRestart t
  hunt := huntAtRestart
  adm := admissionAtRestart t
  host := hostAtRestart rate (startUpReport cause rate t (regimeAtRestart t))
  resetLow := false
  freeIx := freeIx
  pending := pending

/-- A full restart (R64, R178). -/
def fullRestart (cause : RestartCause) (baud1 baud0 : Bool) (s : State) : State :=
  restarted cause (lineRateOf baud1 baud0) (imagesAtRestart (backingAtRestart s)) (freeIxAtRestart s) s.pending

/-- The cause of a restart that no command asked for (R178). -/
def causeOf (c : PowerCause) : RestartCause :=
  match c with
  | .powerOn => .powerOn
  | .powerOnHeld => .powerOn
  | .pin => .pin
  | .pinHeld => .pin

/-- RESET_N is still low after this restart (Table 0.8; log entry 18). -/
def heldLow (c : PowerCause) : Bool :=
  match c with
  | .powerOn => false
  | .powerOnHeld => true
  | .pin => false
  | .pinHeld => true

/-- FULL_RESTART (R64, R178): power-on or RESET_N. It goes on while RESET_N is low, and is complete at the event that
finds the pin high; ALARM_OUT is released until then (R109; assumption log entry 18). -/
def execFullRestart (cause : PowerCause) (baud1 baud0 : Bool) (s : State) : Host.Outcome State Fault Refusal :=
  .next ((fullRestart (causeOf cause) baud1 baud0 s).setResetLow (heldLow cause))

/-- The restart that RESTART FULL set going takes place at this 1 ms event (R177). -/
def commandRestartDue (s : State) : Bool :=
  s.host.restart == .fullSent && s.due.restart && !s.brk.tripOut && !s.brk.closeOut

/-- FULL_RESTART_BY_COMMAND (R177). -/
def execFullRestartByCommand (baud1 baud0 : Bool) (s : State) : Host.Outcome State Fault Refusal :=
  .next (if commandRestartDue s then fullRestart .command baud1 baud0 s else s)

end Sys2Proof.Machine
end

