-- ==== Sys2Proof/Machine/TimeBase.lean ====
section
/-! DEFINITION. The 1 ms event of the time base (00_scope.md 3.2, R65): it paces every millisecond timer, scans the
contacts, and makes due the events that fall at this value of the counter. -/

namespace Sys2Proof.Machine

/-- A millisecond timer after one 1 ms event. -/
def MsTimer.tick (t : MsTimer) : MsTimer := { t with remaining := t.remaining - 1 }

/-- The start window after one 1 ms event (R163). -/
def StartWindow.tick (w : StartWindow) : StartWindow := { w with remaining := w.remaining - 1 }

/-- The events that fall at a value of the counter: a slot at each even one (R115), a scan event at each multiple of
500 (R48), a whole-second boundary at each multiple of 1000 (R161), the test of SETTLING (R151) and that of a restart
by command (R177). The increased hold time used is compared with the maximum hold in force now, and the mark of one
exceeded stands until the dead time is left (R85; assumption log entry 9). -/
def dueAt (now : Time) (s : State) : Due where
  slot := now.toNat % 2 == 0
  inSlot := false
  scan := now.toNat % 500 == 0
  second := now.toNat % 1000 == 0
  settle := s.hunt.state == .settling
  restart := s.host.restart == .fullSent
  holdOver :=
    if s.seq.state = .deadTime then
      if s.seq.held = true ∧ s.settings.maxHold < s.seq.holdUsed + 1 then some s.settings.maxHold else s.due.holdOver
    else none

/-- Every millisecond timer is paced (R83, R84, R90, R132, R145, R146, R163). -/
def paceTimers (s : State) : State :=
  let s1 := s.setSeq (paceSequencer s.seq)
  let s2 := s1.setAdm { s1.adm with window := s1.adm.window.map StartWindow.tick }
  let s3 := s2.setPilot { s2.pilot with pollRemaining := s2.pilot.pollRemaining - 1 }
  s3.setHunt
    { s3.hunt with
      switchTimer := s3.hunt.switchTimer.map MsTimer.tick
      dwellTimer := s3.hunt.dwellTimer.map MsTimer.tick }

/-- The counter advances by one, and the events of its new value come due. -/
def advanceTime (s : State) : State := (s.setTime (s.time + 1)).setDue (dueAt (s.time + 1) s)

/-- TIME_BASE_EVENT (R65, R67): the counter advances, the timers are paced, and BKR_A with BKR_B and then BKR_READY
are scanned. -/
def execTimeBaseEvent (bkrA bkrB bkrReady : Bool) (s : State) : Host.Outcome State Fault Refusal :=
  .next (scanReady bkrReady (scanPosition bkrA bkrB (paceTimers (advanceTime s))))

end Sys2Proof.Machine
end

