-- ==== Sys2Proof/Machine/Dispatch.lean ====
section
/-! DEFINITION. One arm per command of the table, in the table's order. -/

namespace Sys2Proof.Machine

/-- The effect of a command on everything but the queue of commands. -/
def exec (i : Instr) (s : State) : Host.Outcome State Fault Refusal :=
  match i with
  | .fullRestart cause baud1 baud0 => Sys2Proof.Machine.execFullRestart cause baud1 baud0 s
  | .fullRestartByCommand baud1 baud0 => Sys2Proof.Machine.execFullRestartByCommand baud1 baud0 s
  | .timeBaseEvent bkrA bkrB bkrReady => Sys2Proof.Machine.execTimeBaseEvent bkrA bkrB bkrReady s
  | .sampleSetArrival nbits frame => Sys2Proof.Machine.execSampleSetArrival nbits frame s
  | .lossDeclared => Sys2Proof.Machine.execLossDeclared s
  | .tripTimerExpiry => Sys2Proof.Machine.execTripTimerExpiry s
  | .closeTimerExpiry => Sys2Proof.Machine.execCloseTimerExpiry s
  | .deadTimerExpiry => Sys2Proof.Machine.execDeadTimerExpiry s
  | .holdExceeded => Sys2Proof.Machine.execHoldExceeded s
  | .reclaimTimerExpiry => Sys2Proof.Machine.execReclaimTimerExpiry s
  | .scanEvent => Sys2Proof.Machine.execScanEvent s
  | .backingWriteCompletion stored => Sys2Proof.Machine.execBackingWriteCompletion stored s
  | .fireLevelExpiry => Sys2Proof.Machine.execFireLevelExpiry s
  | .slotEvent up => Sys2Proof.Machine.execSlotEvent up s
  | .takeTimeout => Sys2Proof.Machine.execTakeTimeout s
  | .downMessageEnd => Sys2Proof.Machine.execDownMessageEnd s
  | .holdingTimeout => Sys2Proof.Machine.execHoldingTimeout s
  | .refusingEnd => Sys2Proof.Machine.execRefusingEnd s
  | .coolDownEnd => Sys2Proof.Machine.execCoolDownEnd s
  | .status => Sys2Proof.Machine.execStatus s
  | .switchDone => Sys2Proof.Machine.execSwitchDone s
  | .startRequest => Sys2Proof.Machine.execStartRequest s
  | .startDone => Sys2Proof.Machine.execStartDone s
  | .startAbandon => Sys2Proof.Machine.execStartAbandon s
  | .pollTimerExpiry => Sys2Proof.Machine.execPollTimerExpiry s
  | .replyWaitExpiry station => Sys2Proof.Machine.execReplyWaitExpiry station s
  | .switchWaitExpiry => Sys2Proof.Machine.execSwitchWaitExpiry s
  | .dwellExpiry => Sys2Proof.Machine.execDwellExpiry s
  | .settlingEnd => Sys2Proof.Machine.execSettlingEnd s
  | .wholeSecondBoundary => Sys2Proof.Machine.execWholeSecondBoundary s
  | .requestLifetimeExpiry drive => Sys2Proof.Machine.execRequestLifetimeExpiry drive s
  | .startWindowExpiry => Sys2Proof.Machine.execStartWindowExpiry s
  | .hostRecordArrival => Sys2Proof.Machine.execHostRecordArrival s
  | .receiveTimeout => Sys2Proof.Machine.execReceiveTimeout s
  | .transmissionStart => Sys2Proof.Machine.execTransmissionStart s
  | .transmissionEnd => Sys2Proof.Machine.execTransmissionEnd s
  | .echo => Sys2Proof.Machine.execEcho s
  | .readStatus => Sys2Proof.Machine.execReadStatus s
  | .readMeasure => Sys2Proof.Machine.execReadMeasure s
  | .readImage => Sys2Proof.Machine.execReadImage s
  | .loadImage => Sys2Proof.Machine.execLoadImage s
  | .checkImages => Sys2Proof.Machine.execCheckImages s
  | .setFireLevel => Sys2Proof.Machine.execSetFireLevel s
  | .selectGroup => Sys2Proof.Machine.execSelectGroup s
  | .trip => Sys2Proof.Machine.execTrip s
  | .close => Sys2Proof.Machine.execClose s
  | .resetLockout => Sys2Proof.Machine.execResetLockout s
  | .setPermit => Sys2Proof.Machine.execSetPermit s
  | .ackConditions => Sys2Proof.Machine.execAckConditions s
  | .startHunt => Sys2Proof.Machine.execStartHunt s
  | .stopHunt => Sys2Proof.Machine.execStopHunt s
  | .requestStart => Sys2Proof.Machine.execRequestStart s
  | .cancelStart => Sys2Proof.Machine.execCancelStart s
  | .pilotQuery => Sys2Proof.Machine.execPilotQuery s
  | .setReportMask => Sys2Proof.Machine.execSetReportMask s
  | .restartLink => Sys2Proof.Machine.execRestartLink s
  | .restartFull => Sys2Proof.Machine.execRestartFull s
  | .hostByteReceived b => Sys2Proof.Machine.execHostByteReceived b s

end Sys2Proof.Machine
end

