-- ==== Sys2Proof/Safety.lean ====
section
/-! DEFINITION. What a sound state of the LDV340 is: invariants that every step keeps, each read from the rules it
names. -/

namespace Sys2Proof.Machine

/-! ## Chapter 1 -/

/-- A window's sum is the exact sum of squares of its entries (R6). -/
abbrev SumExact (w : List Sample) (sum : Nat) : Prop := sum = (w.map fun x => square x.value).sum

/-- The windows hold the fill count of entries, at most 32; every S is exact; the phase is below 16, and 0 while
the windows fill (R6, R7, Table 1.3). -/
abbrev MeasurementExact (s : State) : Prop :=
  s.meas.fill ≤ 32 ∧ s.meas.phase ≤ 15 ∧ (s.meas.fill < 32 → s.meas.phase = 0) ∧
  (s.meas.windows.ia.length = s.meas.fill ∧ s.meas.windows.ib.length = s.meas.fill ∧
    s.meas.windows.ic.length = s.meas.fill ∧ s.meas.windows.inn.length = s.meas.fill ∧
    s.meas.windows.vn.length = s.meas.fill) ∧
  SumExact s.meas.windows.ia s.meas.sums.ia ∧ SumExact s.meas.windows.ib s.meas.sums.ib ∧
  SumExact s.meas.windows.ic s.meas.sums.ic ∧ SumExact s.meas.windows.inn s.meas.sums.inn ∧
  SumExact s.meas.windows.vn s.meas.sums.vn

/-! ## Chapter 2 -/

/-- Accumulators are at most full and counts at most 65535 (R20, R23, Table 2.2). -/
abbrev ProtectionBounded (s : State) : Prop :=
  (s.prot.phTime.a ≤ accFull ∧ s.prot.phTime.b ≤ accFull ∧ s.prot.phTime.c ≤ accFull) ∧
  s.prot.efTime ≤ accFull ∧
  (s.prot.phHigh.a ≤ 65535 ∧ s.prot.phHigh.b ≤ 65535 ∧ s.prot.phHigh.c ≤ 65535) ∧
  s.prot.efHigh ≤ 65535 ∧ s.prot.sef ≤ 65535

/-! ## Chapter 3 -/

/-- A stored group in force that waits for no refresh stands in force as its working copy reads (R47, R62). -/
abbrev InForceCurrent (s : State) : Prop :=
  (s.regime.active = groupSIndex → s.settings = groupS) ∧
  (s.regime.active ≠ groupSIndex → s.regime.refreshGroup = false →
    s.settings = parseGroup (groupImage s.store.images s.regime.active).working)

/-- The stored fire level is at most 5, and the effective level is at most 5 and at most the rank of the group in
force (R55, R57, R62). -/
abbrev RankCovers (s : State) : Prop :=
  InForceCurrent s ∧ (∀ l ∈ s.regime.fire.level, l ≤ 5) ∧ s.regime.fire.effective ≤ 5 ∧
  s.regime.fire.effective ≤ s.settings.rank

/-- The candidate and its fallback cause are those the settings give now, and the pending group is the one that
candidate leaves (R58, R61). -/
abbrev CandidateCurrent (s : State) : Prop :=
  (s.regime.candidate, s.regime.fallback) = chooseCandidate s ∧
  s.regime.pending = pendingFor s.regime s.regime.candidate

/-! ## Chapters 4 and 6 -/

/-- The derived state of the condition monitor is that of its records (R106, R108, R109). -/
abbrev MonitorConsistent (s : State) : Prop := s.mon = monitorOf s.mon.recs

/-- The two coil outputs are never asserted together, CLOSE_OUT stands only without a hard reason, and memos and
timers stand with their outputs (R68 to R73, Table 4.1). -/
abbrev CoilInterlock (s : State) : Prop :=
  ¬(s.brk.tripOut = true ∧ s.brk.closeOut = true) ∧
  (s.brk.closeOut = true → s.mon.hard = []) ∧
  s.brk.closeMemo.isSome = s.brk.closeOut ∧ s.brk.closeTimer.isSome = s.brk.closeOut ∧
  s.brk.tripTimer.isSome = s.brk.tripOut ∧
  (s.brk.tripOut = true → s.brk.tripMemo.isSome = true) ∧
  (s.brk.tripMemo.isSome = true → s.brk.closeMemo = none ∧ s.brk.accepted ≠ .opened)

/-- Each condition owned by one block is active exactly when that block's state says so; SAMPLE_LOSS is active while
the port is LOST (R3, R27, R50, R56, R63, R67, R134, R140). -/
abbrev OwnersHold (s : State) : Prop :=
  (s.port.state = .lost → s.mon.recs.sampleLoss.active = true) ∧
  s.mon.recs.integrity.active = anyInvalid s.store.images ∧
  s.mon.recs.breakerNotReady.active = (s.brk.ready != .active) ∧
  s.mon.recs.fireStale.active = fireStaleNow s ∧
  s.mon.recs.fireRegime.active = decide (s.plant.alarmRank ≤ s.settings.rank) ∧
  s.mon.recs.huntActive.active = (s.hunt.state != .idle) ∧
  s.mon.recs.earthFaultStanding.active = s.prot.sefOperated ∧
  s.mon.recs.stationSilent.active = s.pilot.stations.any fun st => st.presence == .silent

/-! ## Chapter 5 -/

/-- The sequencer record has the shape of its state: a timer in DEAD_TIME and RECLAIM alone, a lockout cause in
LOCKOUT alone, a close origin in CLOSING alone, a hold in DEAD_TIME alone, and the first position awaited in
LOCKOUT alone, exactly while no breaker state is accepted (Tables 5.1 and 5.2, R98, R101). That a hold, a close origin
and a withdrawal go with their state is assumption log entry 21. -/
abbrev SequencerShape (s : State) : Prop :=
  (s.seq.loaded.isSome = true ↔ s.seq.state = .deadTime ∨ s.seq.state = .reclaim) ∧
  s.seq.remaining.isSome = s.seq.loaded.isSome ∧
  (s.seq.cause.isSome = true ↔ s.seq.state = .lockout) ∧
  (s.seq.closeOrigin.isSome = true ↔ s.seq.state = .closing) ∧
  (s.seq.closeWithdrawn = true → s.seq.state = .closing) ∧
  (s.seq.held = true → s.seq.state = .deadTime) ∧
  (s.seq.posAwaited = true → s.seq.state = .lockout) ∧
  (s.seq.posAwaited = true ↔ s.brk.accepted = .none)

/-! ## Chapters 7 to 9 -/

/-- The hunt controller has at most one message in the down queue and on the channel, and its outstanding message
says where it is (R122, R148, Table 8.2). The first three parts say what the down channel's stages hold. -/
abbrev HuntMessageTracked (s : State) : Prop :=
  (s.pilot.down.stage = .freeChannel → s.pilot.down.msg = none) ∧
  (s.pilot.down.stage = .offering → s.pilot.down.msg.isSome = true) ∧
  (s.pilot.down.stage = .ending → s.pilot.down.msg.isSome = s.pilot.down.outcome.isSome) ∧
  (∀ e ∈ s.pilot.queue, e.msg.cls = .hunt → e.msg.kind ≠ .query) ∧
  s.pilot.queue.countP (fun e => e.msg.cls == .hunt) =
    (if s.hunt.outstanding.any (fun m => !m.inFlight) then 1 else 0) ∧
  (s.pilot.down.msg.any fun m => m.cls == .hunt) = (s.hunt.outstanding.any fun m => m.inFlight)

/-- A start window stands only in READY with the breaker CLOSED and no hunt running (R143, R162, R165). -/
abbrev WindowGuarded (s : State) : Prop :=
  s.adm.window.isSome = true →
    s.seq.state = .ready ∧ s.brk.accepted = .closed ∧ (s.hunt.state = .idle ∨ s.hunt.state = .deferred)

/-- The drive records, the start queue and the window agree: a drive is in the queue exactly while its request is
PENDING, and its request is WINDOW exactly while the window is its own (Table 9.1, R157, R163, R165). -/
abbrev AdmissionAgrees (s : State) : Prop :=
  (∀ d ∈ s.adm.drives,
    d.drive ≤ 7 ∧ (d.isPending = true ↔ d.drive ∈ s.adm.queue) ∧
    (d.request = .window ↔ (s.adm.window.any fun w => w.drive == d.drive) = true)) ∧
  (∀ n ∈ s.adm.queue, ∃ d ∈ s.adm.drives, d.drive = n) ∧
  (∀ w ∈ s.adm.window, ∃ d ∈ s.adm.drives, d.drive = w.drive)

/-! ## Chapter 10 -/

/-- The kind and tag of a place. -/
def ReplyPlace.label (p : ReplyPlace) : Nat × Byte := (p.kind, p.tag)

/-- The kind and tag that a command's reply has. -/
def Command.label (c : Command) : Nat × Byte := (replyKindOf c.kind, c.tag)

/-- The queues hold no more than R169, R171 and R172 allow; the unfilled reply places are those of the waiting
commands in their order, and a reply in transmission is the filled head of the queue (R169, R170, R171). -/
abbrev QueuesAgree (s : State) : Prop :=
  s.host.commands.length ≤ 4 ∧ s.host.replies.length ≤ 8 ∧ s.host.reports.length ≤ 32 ∧
  (s.host.replies.filter fun p => !p.reply.isSome).map ReplyPlace.label = s.host.commands.map Command.label ∧
  (∀ p, s.host.tx = .reply p → s.host.replies.head? = some p ∧ p.reply.isSome = true)

/-- All invariants together. -/
abbrev Sound (s : State) : Prop :=
  MeasurementExact s ∧ ProtectionBounded s ∧ RankCovers s ∧ CandidateCurrent s ∧ MonitorConsistent s ∧
  CoilInterlock s ∧ OwnersHold s ∧ SequencerShape s ∧ HuntMessageTracked s ∧ WindowGuarded s ∧
  AdmissionAgrees s ∧ QueuesAgree s

/-! ## Words of the statements -/

/-- The clock, the sample port, the measurement unit, RESET_N, the free-value counter and the queue of commands are the
same in both states. -/
abbrev SameClock (s t : State) : Prop :=
  t.time = s.time ∧ t.due = s.due ∧ t.port = s.port ∧ t.meas = s.meas ∧ t.resetLow = s.resetLow ∧
  t.freeIx = s.freeIx ∧ t.pending = s.pending

/-- The settings store and the regime unit are the same in both states. -/
abbrev SameSettings (s t : State) : Prop := t.store = s.store ∧ t.regime = s.regime

/-- The record interface is the same but for its reports: their queue, the overrun flag and the lost count. -/
abbrev SameLine (s t : State) : Prop :=
  t.host.lineRate = s.host.lineRate ∧ t.host.parser = s.host.parser ∧ t.host.arrived = s.host.arrived ∧
  t.host.commands = s.host.commands ∧ t.host.replies = s.host.replies ∧ t.host.mask = s.host.mask ∧
  t.host.lostRecords = s.host.lostRecords ∧ t.host.tx = s.host.tx ∧ t.host.restart = s.host.restart

/-- The head of the command queue is `c`, a command of kind `k`, with `rest` behind it, and no restart command holds
execution back (R170, R176). -/
abbrev HeadIs (k : CommandKind) (c : Command) (rest : List Command) (s : State) : Prop :=
  s.host.commands = c :: rest ∧ c.kind.toNat = commandCode k ∧ s.host.restart = .none

/-- The head command has left the queue, and the oldest unfilled reply place holds its reply (R170). -/
abbrev Replied (r : Reply) (rest : List Command) (s t : State) : Prop :=
  t.host.commands = rest ∧ t.host.replies = fillFirst r none s.host.replies

/-- The record interface after a reply: the head command gone, its place filled, `mark` on a restart command's reply,
and nothing else changed. -/
def HostIf.afterReply (r : Reply) (mark : Option RestartKind) (rest : List Command) (h : HostIf) : HostIf :=
  { h with commands := rest, replies := fillFirst r mark h.replies }

/-- The row of the table that executes commands of a kind; RESTART has two, of which this is RESTART_LINK. -/
def rowOf : CommandKind → Instr
  | .echo => .echo
  | .readStatus => .readStatus
  | .readMeasure => .readMeasure
  | .readImage => .readImage
  | .loadImage => .loadImage
  | .checkImages => .checkImages
  | .setFireLevel => .setFireLevel
  | .selectGroup => .selectGroup
  | .trip => .trip
  | .close => .close
  | .resetLockout => .resetLockout
  | .setPermit => .setPermit
  | .ackConditions => .ackConditions
  | .startHunt => .startHunt
  | .stopHunt => .stopHunt
  | .requestStart => .requestStart
  | .cancelStart => .cancelStart
  | .pilotQuery => .pilotQuery
  | .setReportMask => .setReportMask
  | .restart => .restartLink

/-- Bytes received one after another, each by HOST_BYTE_RECEIVED (R168). -/
def receiveBytes : List Byte → State → Host.Outcome State Fault Refusal
  | [], s => .next s
  | b :: rest, s =>
    match exec (.hostByteReceived b) s with
    | .next t => receiveBytes rest t
    | .fault f => .fault f
    | .refused r => .refused r

/-- The latest evaluation record after a full restart (Table 1.5). -/
def blankRecord (group : Nat) : EvalRecord where
  present := false
  time := 0
  group := group
  startPickups := false
  e := ⟨0, 0, 0, 0, 0⟩
  clipped := ⟨false, false, false, false, false⟩
  q :=
    { phTime := ⟨none, none, none⟩, phHigh := ⟨none, none, none⟩, efTime := none, efHigh := none, sef := none,
      sefVn := none, huntClear := none, quiet := ⟨none, none, none⟩ }

/-- The regime unit after a full restart: no stored level and no override, and the candidate in force at once
(R64 steps 3 and 4). -/
abbrev RegimeRestarted (t : State) : Prop :=
  t.regime.override = none ∧ t.regime.pending = none ∧ t.regime.fire.level = none ∧ t.regime.fire.expired = false ∧
  t.regime.fire.effective = (if t.plant.season then 5 else 0) ∧ t.regime.active = t.regime.candidate ∧
  CandidateCurrent t ∧ t.regime.inForce = inForceOf t.store.images t.regime.active ∧ InForceCurrent t ∧
  t.regime.refreshGroup = false ∧ t.regime.refreshCurve = false

/-- The condition monitor after a full restart: each owner's restart value, latched where it is active and STICKY,
with the mode and the actions of the table in use, and the derived state of these records (R104, R113). -/
abbrev MonitorRestarted (t : State) : Prop :=
  MonitorConsistent t ∧ t.mon.recs.integrity.active = anyInvalid t.store.images ∧
  t.mon.recs.breakerNotReady.active = true ∧ t.mon.recs.fireStale.active = t.plant.season ∧
  t.mon.recs.fireRegime.active = decide (t.plant.alarmRank ≤ t.settings.rank) ∧
  (∀ c ∈ [Cond.sampleLoss, .breakerFail, .closeFail, .huntActive, .earthFaultStanding, .stationSilent, .liveLine,
    .hostHold], (t.mon.recs.get c).active = false) ∧
  ∀ c, (t.mon.recs.get c).mode = (t.plant.actions.get c).mode ∧
    (t.mon.recs.get c).actions = (fixedActions c).union (t.plant.actions.get c).added ∧
    ((t.mon.recs.get c).latched = true ↔ (t.mon.recs.get c).active = true ∧ (t.mon.recs.get c).mode = .sticky)

/-- The pilot bus controller after a full restart (Table 7.9). -/
abbrev PilotRestarted (t : State) : Prop :=
  (t.pilot.down.stage = .ending ∧ t.pilot.down.endingLeft = 2 ∧ t.pilot.down.msg = none ∧
    t.pilot.down.outcome = none) ∧
  t.pilot.queue = [] ∧ t.pilot.half = none ∧
  t.pilot.up.stage = (if usable t.store.images.stations then .openToContest else .closed) ∧
  (t.pilot.up.holder = none ∧ t.pilot.up.coolDown = none ∧ t.pilot.up.cells = []) ∧
  t.pilot.pollRemaining = t.plant.pollInterval * 1000 ∧ t.pilot.cursor = none ∧
  (t.store.images.stations.present = false → t.pilot.stations = []) ∧
  (usable t.store.images.stations = true →
    (∀ st ∈ t.pilot.stations, ∃ e ∈ parseStations t.store.images.stations.working,
      st = { address := e.address, role := e.role, presence := .unknown, switch := .unknown, indicator := false,
             lock := false, missed := 0, answer := .none, hostMark := false, openedByHunt := false }) ∧
    (∀ e ∈ parseStations t.store.images.stations.working, e.address ≤ 15 →
      ∃ st ∈ t.pilot.stations, st.address = e.address) ∧
    (t.pilot.stations.map fun st => st.address).Pairwise (· < ·))

/-- The hunt controller after a full restart (R154). -/
abbrev HuntRestarted (t : State) : Prop :=
  t.hunt.state = .idle ∧ t.hunt.origin = none ∧ t.hunt.plan = none ∧ t.hunt.step = 0 ∧ t.hunt.phase = none ∧
  t.hunt.switchTimer = none ∧ t.hunt.dwellTimer = none ∧ t.hunt.openStation = none ∧ t.hunt.outstanding = none ∧
  t.hunt.indicators = [] ∧ t.hunt.results = [] ∧ t.hunt.last = none

/-- The start admission unit after a full restart: one record for each listed drive, in drive number order, while
DRIVES is usable (R155, R167). -/
abbrev AdmissionRestarted (t : State) : Prop :=
  t.adm.window = none ∧ t.adm.queue = [] ∧ t.adm.quiet = 0 ∧ t.adm.second = .empty ∧ t.adm.outstanding = none ∧
  t.adm.releaseDue = none ∧
  (usable t.store.images.drives = false → t.adm.drives = []) ∧
  (usable t.store.images.drives = true →
    (∀ d ∈ t.adm.drives, ∃ e ∈ parseDrives t.store.images.drives.working,
      d = { drive := e.drive, station := e.station, cls := e.cls, windowLength := e.windowLength,
            lifetime := e.lifetime, level := .normal, request := .none }) ∧
    (∀ e ∈ parseDrives t.store.images.drives.working, e.drive ≤ 7 → ∃ d ∈ t.adm.drives, d.drive = e.drive) ∧
    (t.adm.drives.map fun d => d.drive).Pairwise (· < ·))

/-- The record interface after a full restart, with START_UP alone in the report queue (Table 10.7, R178). -/
abbrev LineRestarted (cause : RestartCause) (rate : Nat) (t : State) : Prop :=
  (t.host.lineRate = rate ∧ t.host.parser.stage = .syncWait ∧ t.host.arrived = [] ∧ t.host.commands = [] ∧
    t.host.replies = [] ∧ t.host.mask = 0x07FF ∧ t.host.overrun = false ∧ t.host.lostReports = 0 ∧
    t.host.lostRecords = 0 ∧ t.host.tx = .idle ∧ t.host.restart = .none) ∧
  t.host.reports =
    [.startUp
      { time := 0
        cause := cause
        lineRate := rate
        images := t.store.images.map passEntry
        group := t.regime.active
        revision := t.settings.revision
        fallback := t.regime.fallback
        season := t.plant.season
        effective := t.regime.fire.effective }]

/-- The state of a full restart with a cause, a line rate and RESET_N low or high after it, but for the images that
it loads (R16, R40, R64, R77, R101, R109, R113, R139, R154, R167, R178). -/
abbrev RestartedWith (cause : RestartCause) (rate : Nat) (resetLow : Bool) (s t : State) : Prop :=
  t.time = 0 ∧ t.port = ⟨.start, none, 0⟩ ∧
  t.meas = { windows := ⟨[], [], [], [], []⟩, sums := ⟨0, 0, 0, 0, 0⟩, fill := 0, phase := 0,
             latest := blankRecord t.regime.active } ∧
  t.prot = ⟨⟨0, 0, 0⟩, 0, ⟨0, 0, 0⟩, 0, 0, false, false⟩ ∧
  (t.store.write = none ∧ t.store.scanPos = .plant ∧ t.store.checking = none) ∧
  RegimeRestarted t ∧
  t.brk = ⟨none, .none, none, .none, false, false, none, none, none, none⟩ ∧
  (t.seq.state = .lockout ∧ t.seq.cause = some .powerOnOpen ∧ t.seq.posAwaited = true ∧ t.seq.shots = 0 ∧
    t.seq.lastTrip = none ∧ t.seq.loaded = none ∧ t.seq.remaining = none ∧ t.seq.held = false ∧
    t.seq.holdUsed = 0 ∧ t.seq.closeOrigin = none ∧ t.seq.closeWithdrawn = false) ∧
  MonitorRestarted t ∧ PilotRestarted t ∧ HuntRestarted t ∧ AdmissionRestarted t ∧ LineRestarted cause rate t ∧
  (t.resetLow = resetLow ∧ (resetLow = true → alarmOut t = false) ∧ (resetLow = false → alarmOut t = t.mon.alarm)) ∧
  t.pending = s.pending

/-- The protection values that an evaluation point with multiples `q` under an in-force set leaves in `p'`. With no trip
element operating they are those of stage 3 with the SEF operated flag of stage 6, which falls with a count of 0 and
in mode TRIP, and rises at the delay; a trip leaves every value 0 and suspension set unless the breaker is OPEN (R17,
R27, R31 to R34, R38). -/
abbrev PointMoved (f : InForce) (q : Multiples) (s : State) (p' : Protection) : Prop :=
  (tripEntries f.settings q (stepValues f q s.prot) = [] →
    p' =
      { stepValues f q s.prot with
        sefOperated :=
          if f.settings.sef.mode = .trip ∨ (stepValues f q s.prot).sef = 0 then false
          else if f.settings.sef.delay ≤ (stepValues f q s.prot).sef then true
          else s.prot.sefOperated }) ∧
  (tripEntries f.settings q (stepValues f q s.prot) ≠ [] →
    p' = ⟨⟨0, 0, 0⟩, 0, ⟨0, 0, 0⟩, 0, 0, false, s.brk.accepted != .opened⟩)

/-- What the quiet test of a point with multiples `q` makes of the admission unit of `s` (R160). -/
abbrev QuietTested (q : Multiples) (s : State) (quiet : Nat) (second : SecondState) : Prop :=
  (∀ a b c, s.adm.window = none → s.seq.state = .ready → s.brk.accepted = .closed → q.quiet = ⟨some a, some b, some c⟩ →
    a < 256 → b < 256 → c < 256 →
    quiet = s.adm.quiet ∧ second = if s.adm.second = .empty then .quiet else s.adm.second) ∧
  (s.adm.window.isSome = true ∨ s.seq.state ≠ .ready ∨ s.brk.accepted ≠ .closed ∨
      (∃ v ∈ [q.quiet.a, q.quiet.b, q.quiet.c], v = none ∨ ∃ n, v = some n ∧ 256 ≤ n) →
    quiet = 0 ∧ second = .spoiled)

/-- What a protection trip `trip` makes of the sequencer record of `s` (R79, R80). That a hold, the close origin and its
withdrawal go with their state is assumption log entry 21. -/
abbrev TripTaken (trip : LastTrip) (s : State) (q : Sequencer) : Prop :=
  (s.seq.state = .ready ∨ s.seq.state = .closing ∨ s.seq.state = .reclaim → s.brk.accepted ≠ .opened →
    q = { s.seq with
          state := .opening, loaded := none, remaining := none, held := false, lastTrip := some trip,
          closeOrigin := none, closeWithdrawn := false, cause := none }) ∧
  ((s.seq.state = .ready ∨ s.seq.state = .closing ∨ s.seq.state = .reclaim) ∧ s.brk.accepted = .opened ∨
      s.seq.state = .deadTime →
    q = { s.seq with
          state := .lockout, loaded := none, remaining := none, held := false, lastTrip := some trip,
          closeOrigin := none, closeWithdrawn := false, cause := some .unsequencedTrip }) ∧
  (∀ old, s.seq.state = .opening → s.seq.lastTrip = some old →
    q = { s.seq with
          lastTrip :=
            some
              { trip with
                origin := if old.origin = .manual then .manual else trip.origin
                eligible := old.eligible && trip.eligible } }) ∧
  (s.seq.state = .lockout →
    q = { s.seq with
          lastTrip := some trip
          cause := if s.seq.posAwaited = true then some .unsequencedTrip else s.seq.cause })

/-- What the judgement of OPEN in OPENING, with last trip record `trip`, makes of the sequencer record of `s` (R81, R84,
R85). -/
abbrev OpenJudged (trip : LastTrip) (s : State) (q : Sequencer) : Prop :=
  (trip.origin = .manual → q.state = .lockout ∧ q.cause = some .manualTrip) ∧
  (trip.origin = .protection → trip.eligible = false → q.state = .lockout ∧ q.cause = some .notEligible) ∧
  (trip.origin = .protection → trip.eligible = true → s.settings.shotLimit ≤ s.seq.shots →
    q.state = .lockout ∧ q.cause = some (.shotsUsed s.seq.shots s.settings.shotLimit)) ∧
  (∀ c rest, trip.origin = .protection → trip.eligible = true → s.seq.shots < s.settings.shotLimit →
    s.mon.hard = c :: rest → q.state = .lockout ∧ q.cause = some (.hardBlock c)) ∧
  (trip.origin = .protection → trip.eligible = true → s.seq.shots < s.settings.shotLimit → s.mon.hard = [] →
    (s.mon.hold = [] ∨ s.settings.maxHold ≠ 0 →
      q.state = .deadTime ∧ q.holdUsed = 0 ∧ q.loaded = some (s.settings.deadTimes.getD s.seq.shots 0) ∧
      q.remaining = some (s.settings.deadTimes.getD s.seq.shots 0) ∧ (q.held = true ↔ s.mon.hold ≠ [])) ∧
    (s.mon.hold ≠ [] → s.settings.maxHold = 0 → q.state = .lockout ∧ q.cause = some (.holdExceeded 0 0))) ∧
  q.shots = s.seq.shots ∧ q.lastTrip = s.seq.lastTrip

/-- The requester of a message that the arbiter puts in flight learns of it between `u` and `t`: the hunt controller's
and the admission unit's outstanding message is in flight, a CURRENT GRANT's window with it, and a QUERY's station is
IN_FLIGHT; nothing else of the three changes (R123, R133, R148, R164). -/
abbrev InFlightNoted (m : DownMessage) (u t : State) : Prop :=
  (m.cls = .hunt →
    t.hunt = { u.hunt with outstanding := u.hunt.outstanding.map fun x => { x with inFlight := true } } ∧
    t.adm = u.adm ∧ t.pilot.stations = u.pilot.stations) ∧
  (m.cls = .admission →
    t.adm =
      { u.adm with
        outstanding := u.adm.outstanding.map fun x => { x with inFlight := true }
        window :=
          if u.adm.outstanding.any (fun x => x.kind == .grant && !x.stale) = true then
            u.adm.window.map fun w => { w with grant := .inFlight }
          else u.adm.window } ∧
    t.hunt = u.hunt ∧ t.pilot.stations = u.pilot.stations) ∧
  (m.cls = .host ∨ m.cls = .poll →
    t.pilot.stations =
      u.pilot.stations.map (fun x => if x.address = m.dest then { x with answer := .inFlight } else x) ∧
    t.hunt = u.hunt ∧ t.adm = u.adm)

/-- The place of a class in the arbiter's order (Table 7.5). -/
def DownClass.order : DownClass → Nat
  | .hunt => 0
  | .admission => 1
  | .host => 2
  | .poll => 3

/-- A message that the hunt controller hands to a down queue takes the class's kept place there (R122). -/
def huntEntry (kind : DownKind) (station : Nat) : QueueEntry :=
  { msg := { cls := .hunt, dest := station, kind := kind, cells := shortCells kind station }, kept := true }

/-- What the end of a QUERY to an address with outcome `o` does from `s` to `u`: a delivered one starts the reply wait, one
not delivered counts a missed answer, and one already answered leaves its station in NONE (R133). -/
abbrev QueryEnded (o : DownOutcome) (a : Nat) (s u : State) : Prop :=
  ∀ st, findStation s a = some st →
    (st.answer = .inFlight → o = .delivered →
      findStation u a = some { st with answer := .waiting (s.time + BitVec.ofNat 32 s.plant.replyWait) }) ∧
    (st.answer = .inFlight → o ≠ .delivered →
      findStation u a =
        some
          { st with
            missed := min 10 (st.missed + 1)
            presence := if s.plant.silentCount ≤ min 10 (st.missed + 1) then .silent else st.presence
            answer := .none
            hostMark := false }) ∧
    (st.answer = .answered → findStation u a = some { st with answer := .none }) ∧
    (st.answer = .none → findStation u a = some st) ∧
    ∀ x, x ≠ a → findStation u x = findStation s x

/-- What the end of the hunt controller's outstanding message with outcome `o` does from `s` to `u` (R144 to R149). A
stale message acts on no hunt, and a message held behind it goes to the queue. The step's own message starts the
switch wait when delivered; else it ends the step NO_RESPONSE in OPENING, and the hunt ABORTED in RESTORING. -/
abbrev HuntMessageEnded (o : DownOutcome) (s u : State) : Prop :=
  ∀ x, s.hunt.outstanding = some x →
    (x.stale = true → s.hunt.phase ≠ some .held →
      u.hunt = { s.hunt with outstanding := none } ∧ u.pilot.queue = s.pilot.queue) ∧
    (∀ k, x.stale = true → s.hunt.phase = some .held → keptFree s.pilot.queue .hunt = true →
      (s.hunt.state = .opening ∧ k = DownKind.openSwitch ∨ s.hunt.state = .restoring ∧ k = .closeSwitch) →
      u.hunt =
        { s.hunt with
          phase := some .sent
          outstanding :=
            some { kind := k, station := (currentStep s).station, inFlight := false, stale := false } } ∧
      u.pilot.queue = s.pilot.queue ++ [huntEntry k (currentStep s).station]) ∧
    (x.stale = false → s.hunt.phase = some .sent → o = .delivered →
      s.hunt.state = .opening ∨ s.hunt.state = .restoring →
      u.hunt =
        { s.hunt with
          outstanding := none
          phase := some .answerWait
          switchTimer :=
            some { loaded := s.plant.switchWait * 1000, remaining := s.plant.switchWait * 1000 } }) ∧
    (x.stale = false → s.hunt.phase = some .sent → o ≠ .delivered → s.hunt.state = .opening →
      (∃ r more, u.hunt.results = s.hunt.results ++ r :: more ∧ r.result = .noResponse ∧
        r.number = s.hunt.step ∧ r.station = (currentStep s).station) ∧
      ((s.hunt.plan.getD []).drop s.hunt.step = [] →
        ∃ l, u.hunt.state = .idle ∧ u.hunt.last = some l ∧ l.outcome = .notFound ∧ l.unsettled = none ∧
          u.mon.recs.huntActive.active = false) ∧
      (∀ st more, (s.hunt.plan.getD []).drop s.hunt.step = st :: more → stationAnswers s st.station = true →
        keptFree s.pilot.queue .hunt = true →
        u.hunt.state = .opening ∧ u.hunt.step = s.hunt.step + 1 ∧ u.hunt.phase = some .sent ∧
        u.pilot.queue = s.pilot.queue ++ [huntEntry .openSwitch st.station])) ∧
    (x.stale = false → s.hunt.phase = some .sent → o ≠ .delivered → s.hunt.state = .restoring →
      ∃ l r, u.hunt.state = .idle ∧ u.hunt.last = some l ∧ l.outcome = .aborted ∧
        l.cause = some (.abort .restoreFailed) ∧ l.leftOpen = s.hunt.openStation ∧ l.unsettled = none ∧
        u.hunt.results = s.hunt.results ++ [r] ∧ r.result = .restoreFailed ∧
        u.mon.recs.huntActive.active = false)

/-- What the end of the admission unit's outstanding message with outcome `o` does from `s` to `u` (the table of R164).
A CURRENT GRANT settles its window. After any other message a release due goes to the queue first, unless its stale
GRANT was not delivered, and else a held GRANT does. -/
abbrev AdmissionMessageEnded (o : DownOutcome) (s u : State) : Prop :=
  ∀ x, s.adm.outstanding = some x →
    (x.kind = .grant → x.stale = false → o = .delivered → s.adm.releaseDue = none →
      u.adm =
        { s.adm with
          outstanding := none
          window := s.adm.window.map fun w => { w with grant := .delivered } } ∧
      u.pilot.queue = s.pilot.queue) ∧
    (∀ w, x.kind = .grant → x.stale = false → o ≠ .delivered → s.adm.releaseDue = none → s.adm.window = some w →
      u.adm =
        { s.adm with
          outstanding := none
          window := none
          drives := s.adm.drives.map fun d => if d.drive = w.drive then { d with request := .none } else d } ∧
      ∃ v r, u = addReport (.start r) v ∧ r.time = s.time ∧ r.drive = w.drive ∧ r.event = .ended ∧
        r.cause = some .grantUndelivered) ∧
    (∀ r, x.kind = .release ∨ x.stale = true ∧ o = .delivered → s.adm.releaseDue = some r →
      keptFree s.pilot.queue .admission = true →
      u.adm =
        { s.adm with
          outstanding :=
            some { kind := .release, drive := r.drive, station := r.station, inFlight := false, stale := false }
          releaseDue := none } ∧
      u.pilot.queue = s.pilot.queue ++ [{ msg := releaseMessage r.station r.drive, kept := true }]) ∧
    (x.kind = .release ∨ x.stale = true →
      s.adm.releaseDue = none ∨ x.kind = .grant ∧ o ≠ .delivered →
      ((∀ w, s.adm.window = some w → w.grant ≠ .held) →
        u.adm = { s.adm with outstanding := none, releaseDue := none } ∧ u.pilot.queue = s.pilot.queue) ∧
      (∀ w, s.adm.window = some w → w.grant = .held → keptFree s.pilot.queue .admission = true →
        u.adm =
          { s.adm with
            outstanding :=
              some { kind := .grant, drive := w.drive, station := w.station, inFlight := false, stale := false }
            window := some { w with grant := .waiting }
            releaseDue := none } ∧
        u.pilot.queue =
          s.pilot.queue ++ [{ msg := grantMessage w.station w.drive w.loaded, kept := true }])) ∧
    (x.kind = .release → keptFree s.pilot.queue .admission = true →
      (o = .delivered → u.host = s.host) ∧
      (o ≠ .delivered →
        ∃ r, r.time = s.time ∧ r.drive = x.drive ∧ r.event = .releaseUndelivered ∧
          u.host = (addReport (.start r) s).host))

end Sys2Proof.Machine
end

