-- ==== Sys2Proof/Certificates/Slice0/Obligations.lean ====
section
/-! DEFINITION. The statements about the model, for the provers. Each docstring names the rules it formalises; numbers
of assumption log entries mark a choice of the model. -/

open Sys2Proof Sys2Proof.Machine

/-! ## The queue of commands -/

/-- A step takes the command at the front of the queue and runs it with the queue's rest.

On an empty queue the part idles (log entry 4).

Every command ends in a next state, and its effect leaves the queue of waiting commands alone: no command of the
table stops the part. -/
def Obligations.StepRunsTheFrontCommand : Prop :=
  (∀ (c : Instr) (rest : List Instr) (s : State), s.pending = c :: rest → step s = exec c (s.setPending rest)) ∧
  (∀ s : State, s.pending = [] → step s = .next s) ∧
  (∀ (c : Instr) (s : State), ∃ t, exec c s = .next t ∧ t.pending = s.pending)

/-! ## Restarts -/

/-- Reset is a power-on restart (log entry 2), and it meets every invariant stated below. -/
def Obligations.ResetIsSound : Prop :=
  exec (.fullRestart .powerOn false false) State.reset = .next State.reset ∧ Sound State.reset

/-- FULL_RESTART and, when a RESTART FULL has been answered and both coil outputs are released at a 1 ms event,
FULL_RESTART_BY_COMMAND leave the restart state of every block: that of Table 1.5, of R40, of R64 for the images
loaded, of Table 4.3, of R101, R113 and Table 7.9, of R154 and R167, and of Table 10.7 with START_UP alone in the
report queue (R16, R40, R64, R77, R101, R113, R139, R154, R167, R177, R178). ALARM_OUT is released while RESET_N is
still low, and follows the records otherwise (R109).

FULL_RESTART_BY_COMMAND does nothing while a coil output is asserted, so a restart by command never cuts off a coil
command (R177).

That the restart by command waits for the mark of a 1 ms event, that the level of RESET_N comes with the event, and
that a record received and not yet judged is dropped, are the model's choices (log entries 1, 18, 39). -/
def Obligations.FullRestartLeavesRestartState : Prop :=
  (∀ (cause : PowerCause) (baud1 baud0 : Bool) (s : State),
    (∃ t, exec (.fullRestart cause baud1 baud0) s = .next t ∧
      RestartedWith (causeOf cause) (lineRateOf baud1 baud0) (heldLow cause) s t) ∧
    (s.host.restart = .fullSent → s.due.restart = true → s.brk.tripOut = false → s.brk.closeOut = false →
      ∃ t, exec (.fullRestartByCommand baud1 baud0) s = .next t ∧
        RestartedWith .command (lineRateOf baud1 baud0) false s t)) ∧
  (∀ (baud1 baud0 : Bool) (s : State), s.brk.tripOut = true ∨ s.brk.closeOut = true →
    exec (.fullRestartByCommand baud1 baud0) s = .next s)

/-- A full restart loads each image from its backing copy: one never written is not present; a written one is valid
exactly when its CRC agrees; one whose write failed, or was still in flight, is present and fails its check
(R46, R64; the content of a failed write is the free value of log entry 3). -/
def Obligations.FullRestartLoadsBackingCopies : Prop :=
  ∀ (cause : PowerCause) (baud1 baud0 : Bool) (s : State) (i : ImageId),
    ∃ t, exec (.fullRestart cause baud1 baud0) s = .next t ∧
      (∀ w, s.store.write = some w → w.image = i →
        (t.store.images.get i).present = true ∧ (t.store.images.get i).valid = false ∧
        (t.store.images.get i).lastCheck = .mismatch) ∧
      ((∀ w, s.store.write = some w → w.image ≠ i) →
        match (s.store.images.get i).backing with
        | .unwritten =>
          (t.store.images.get i).present = false ∧ (t.store.images.get i).valid = false ∧
          (t.store.images.get i).retained = false ∧ (t.store.images.get i).storedCrc = 0 ∧
          (t.store.images.get i).lastCheck = .notPresent
        | .written content crc =>
          (t.store.images.get i).present = true ∧ (t.store.images.get i).retained = true ∧
          (t.store.images.get i).working = content ∧ (t.store.images.get i).storedCrc = crc ∧
          ((t.store.images.get i).valid = true ↔ crc16 content = crc)
        | .spoiled _ =>
          (t.store.images.get i).present = true ∧ (t.store.images.get i).valid = false ∧
          (t.store.images.get i).lastCheck = .mismatch)

/-! ## The time base -/

/-- The 1 ms event advances the counter, makes due what falls at its value, and accepts a contact combination or a
ready level exactly at the second of two equal scans (00_scope 3.2, R48, R65, R67, R115, R161).

The hold time used that a held 1 ms event has increased is compared with the maximum hold in force, and one that
exceeds it is marked until the dead time is left (R85).

A 1 ms event whose scans repeat the accepted contacts paces the timers and changes nothing else: an unheld dead
time and a reclaim time fall by 1, a hold adds 1 to hold time used, and the window, poll, switch wait and dwell
timers fall by 1 (R83, R84, R90, R132, R145, R146, R163).

That what falls at a counter value, and a hold exceeded, is marked as due is the model's choice (log entries 1, 9,
41). -/
def Obligations.TimeBaseEventScansAndPaces : Prop :=
  (∀ (a b ready : Bool) (s : State),
    ∃ t, exec (.timeBaseEvent a b ready) s = .next t ∧ t.time = s.time + 1 ∧
      (t.due.slot = true ↔ (s.time + 1).toNat % 2 = 0) ∧ (t.due.scan = true ↔ (s.time + 1).toNat % 500 = 0) ∧
      (t.due.second = true ↔ (s.time + 1).toNat % 1000 = 0) ∧
      (s.seq.state = .deadTime → s.seq.held = true →
        t.due.holdOver =
          if s.settings.maxHold < s.seq.holdUsed + 1 then some s.settings.maxHold else s.due.holdOver) ∧
      (s.seq.state = .deadTime → s.seq.held = false → t.due.holdOver = s.due.holdOver) ∧
      (s.seq.state ≠ .deadTime → t.due.holdOver = none) ∧
      t.brk.prevPos = some (a, b) ∧ t.brk.prevReady = some ready ∧
      t.brk.accepted = (if s.brk.prevPos = some (a, b) then positionOf a b else s.brk.accepted) ∧
      t.brk.ready = (if s.brk.prevReady = some ready then readyOf ready else s.brk.ready) ∧
      t.port = s.port ∧ t.meas = s.meas ∧ SameSettings s t ∧ SameLine s t ∧
      t.resetLow = s.resetLow ∧ t.freeIx = s.freeIx ∧ t.pending = s.pending) ∧
  (∀ (a b ready : Bool) (s : State),
    s.brk.prevPos = some (a, b) → s.brk.accepted = positionOf a b → s.brk.prevReady = some ready →
    s.brk.ready = readyOf ready →
    ∃ q,
      exec (.timeBaseEvent a b ready) s =
        .next
          { s with
            time := s.time + 1
            due := dueAt (s.time + 1) s
            seq := q
            pilot := { s.pilot with pollRemaining := s.pilot.pollRemaining - 1 }
            adm :=
              { s.adm with
                window := s.adm.window.map fun w => { w with remaining := w.remaining - 1 } }
            hunt :=
              { s.hunt with
                switchTimer := s.hunt.switchTimer.map fun x => { x with remaining := x.remaining - 1 }
                dwellTimer := s.hunt.dwellTimer.map fun x => { x with remaining := x.remaining - 1 } } } ∧
      (s.seq.state = .reclaim ∨ s.seq.state = .deadTime ∧ s.seq.held = false →
        q = { s.seq with remaining := s.seq.remaining.map fun r => r - 1 }) ∧
      (s.seq.state = .deadTime → s.seq.held = true →
        q = { s.seq with holdUsed := s.seq.holdUsed + 1 }) ∧
      (s.seq.state ≠ .deadTime → s.seq.state ≠ .reclaim → q = s.seq))

/-! ## Sampling and measurement -/

/-- A frame that is not of exactly 96 bits, or lacks the marker, or has a nonzero bit 7 to 5 in word 5, is discarded
as if it had never arrived (R1).

A well-formed set that raises no evaluation point changes the port and the measurement unit alone: it is recorded as
the last acceptance, and it enters the windows, which an out-of-order set in TRACKING has flushed first (R2, R4, R5,
R6, R8). -/
def Obligations.FramesAreDiscardedOrTaken : Prop :=
  (∀ (nbits frame : Nat) (s : State),
    nbits ≠ 96 ∨ (frameWord frame 5).extractLsb' 8 8 ≠ 0xA5 ∨ (frameWord frame 5).extractLsb' 5 3 ≠ 0 →
    exec (.sampleSetArrival nbits frame) s = .next s) ∧
  (∀ (frame : Nat) (s : State) (m : Measurement),
    (frameWord frame 5).extractLsb' 8 8 = 0xA5 → (frameWord frame 5).extractLsb' 5 3 = 0 →
    m = (if s.port.state = .tracking ∧ s.port.lastSeq ≠ some ((sampleSetOf frame).seq - 1) then
          { s.meas with windows := ⟨[], [], [], [], []⟩, sums := ⟨0, 0, 0, 0, 0⟩, fill := 0, phase := 0 }
        else s.meas) →
    m.fill < 31 ∨ 32 ≤ m.fill ∧ m.phase < 15 →
    exec (.sampleSetArrival 96 frame) s =
      .next
        { s with
          port := { state := .tracking, lastSeq := some (sampleSetOf frame).seq, lastArrival := s.time }
          meas :=
            { m with
              windows :=
                m.windows.zip (fun w x => (if m.fill < 32 then w else w.drop 1) ++ [x])
                  ((sampleSetOf frame).values.map fun v =>
                    { value := v
                      clip := v == -32768 || v == 32767 || (sampleSetOf frame).overload })
              sums :=
                (m.windows.zip Prod.mk (m.sums.zip Prod.mk (sampleSetOf frame).values)).map fun p =>
                  if m.fill < 32 then p.2.1 + p.2.2.natAbs ^ 2
                  else p.2.1 + p.2.2.natAbs ^ 2 - (p.1.headD ⟨0, false⟩).value.natAbs ^ 2
              fill := if m.fill < 32 then m.fill + 1 else m.fill
              phase := if m.fill < 32 then m.phase else m.phase + 1 } })

/-- The set that raises an evaluation point (the 32nd of a fill, or the 16th since the last point) replaces the
latest evaluation record whole, with E = floor(S / 32), the clip marks of the 16 newest entries and the multiples of
the group then in force, and clears SAMPLE_LOSS (R4, R7, R9, R11, R12, R13, R15, R29).

The point is handed with that record to the admission unit and to the protection unit: the quiet counter and the
second state take the quiet test, and the protection values move by their multiples, or a trip is issued (R14, R17,
R27, R33, R34, R36, R38, R160). That SAMPLE_LOSS is cleared before the hand-off, and the admission unit comes first,
is the model's choice (log entry 11). -/
def Obligations.EvaluationPointReplacesTheRecord : Prop :=
  ∀ (frame : Nat) (s : State),
    frameWellFormed 96 frame = true →
    s.port.state ≠ .tracking ∨ s.port.lastSeq = some ((sampleSetOf frame).seq - 1) →
    s.meas.fill = 31 ∨ 32 ≤ s.meas.fill ∧ s.meas.phase = 15 →
    ∃ t, exec (.sampleSetArrival 96 frame) s = .next t ∧
      t.meas.phase = 0 ∧ t.meas.sums = (takeIn (sampleSetOf frame) s.meas).sums ∧
      t.meas.windows = (takeIn (sampleSetOf frame) s.meas).windows ∧
      t.meas.latest.present = true ∧ t.meas.latest.time = s.time ∧ t.meas.latest.group = t.regime.active ∧
      t.meas.latest.startPickups = s.adm.window.isSome ∧
      t.meas.latest.e = t.meas.sums.map (fun x => x / 32) ∧
      t.meas.latest.clipped = t.meas.windows.map (fun w => (w.drop (w.length - 16)).any fun x => x.clip) ∧
      t.meas.latest.q = multiplesOf t.settings s.adm.window.isSome t.meas.latest.e t.meas.latest.clipped ∧
      t.mon.recs.sampleLoss.active = false ∧
      (∃ u, t = protPoint u.meas.latest.q u.meas.latest.startPickups (admPoint u.meas.latest.q u) ∧
        u.meas = t.meas ∧ u.regime = t.regime ∧ u.prot = s.prot ∧ u.adm = s.adm ∧
        u.brk.accepted = s.brk.accepted ∧ u.mon.recs.sampleLoss.active = false ∧ u.time = s.time) ∧
      PointMoved t.regime.inForce t.meas.latest.q s t.prot ∧
      QuietTested t.meas.latest.q s t.adm.quiet t.adm.second ∧
      t.time = s.time ∧ t.due = s.due ∧ t.store = s.store ∧ t.resetLow = s.resetLow ∧
      t.freeIx = s.freeIx ∧ SameLine s t

/-- A squared multiple is min(65535, floor(E × 256 / P²)): for every pickup of its range it is 256 or more exactly
when E is at least P², it saturates at P = 8 from E = 16384, and at P = 23170 it cannot exceed 512; an absent pickup
gives an absent multiple (R10). -/
def Obligations.SquaredMultipleOfAPickup : Prop :=
  ∀ e p : Nat,
    (8 ≤ p → p ≤ 23170 →
      multipleOf e (some p) = some (min 65535 (e * 256 / p ^ 2)) ∧
      (256 ≤ squaredMultiple e p ↔ p ^ 2 ≤ e)) ∧
    (16384 ≤ e → squaredMultiple e 8 = 65535) ∧ (e ≤ 2 ^ 30 → squaredMultiple e 23170 ≤ 512) ∧
    multipleOf e none = none

/-- At 2 ms or more without an acceptance the port declares loss: LOST, flushed windows, SAMPLE_LOSS active, every
accumulator and count 0 with suspension kept, and EARTH_FAULT_STANDING not active; the record is held (R3, R8, R36).

In LOST, and with less than 2 ms since the last acceptance, no loss is declared (R3). -/
def Obligations.LossFlushesAndZeroes : Prop :=
  (∀ s : State, s.port.state ≠ .lost → 2 ≤ elapsed s.time s.port.lastArrival →
    ∃ t, exec .lossDeclared s = .next t ∧
      t.port = { state := .lost, lastSeq := none, lastArrival := s.port.lastArrival } ∧
      t.meas = { windows := ⟨[], [], [], [], []⟩, sums := ⟨0, 0, 0, 0, 0⟩, fill := 0, phase := 0,
                 latest := s.meas.latest } ∧
      t.prot = ⟨⟨0, 0, 0⟩, 0, ⟨0, 0, 0⟩, 0, 0, false, s.prot.suspended⟩ ∧
      t.mon.recs.sampleLoss.active = true ∧ t.mon.recs.earthFaultStanding.active = false ∧
      t.time = s.time ∧ t.due = s.due ∧ SameSettings s t ∧ t.adm = s.adm ∧ SameLine s t ∧
      t.resetLow = s.resetLow ∧ t.freeIx = s.freeIx ∧
      t.pending = s.pending) ∧
  (∀ s : State, s.port.state = .lost ∨ elapsed s.time s.port.lastArrival < 2 → exec .lossDeclared s = .next s)

/-! ## Protection -/

/-- At an evaluation point outside suspension each of the four accumulators moves by its own multiple, with the
curve and time multiplier in force: in the hold band it keeps its value; dropped out it falls by the reset rate to
no lower than 0, and a reset rate of 0 empties it at once (R21).

Picked up, an accumulator takes the rate of the curve point with the largest threshold not above Q, times 100 over
the time multiplier code, and is clamped at 1,048,576 (R20). -/
def Obligations.AccumulatorsMoveByTheBand : Prop :=
  ((∀ (c : Curve) (tms q a : Nat),
    (231 ≤ q → q ≤ 255 → accStep (some c) tms (some q) a = a) ∧
    (q < 231 → c.resetRate ≠ 0 → accStep (some c) tms (some q) a = max 0 (a - c.resetRate)) ∧
    (q < 231 → c.resetRate = 0 → accStep (some c) tms (some q) a = 0)) ∧
  ∀ (f : InForce) (q : Multiples) (p : Protection), p.suspended = false →
    (stepValues f q p).phTime.a = accStep f.phCurve f.settings.phTime.tms q.phTime.a p.phTime.a ∧
    (stepValues f q p).phTime.b = accStep f.phCurve f.settings.phTime.tms q.phTime.b p.phTime.b ∧
    (stepValues f q p).phTime.c = accStep f.phCurve f.settings.phTime.tms q.phTime.c p.phTime.c ∧
    (stepValues f q p).efTime = accStep f.efCurve f.settings.efTime.tms q.efTime p.efTime) ∧
  (∀ (c : Curve) (tms q a : Nat) (p : CurvePoint),
    256 ≤ q → p ∈ c.points → p.threshold ≤ q →
    (∀ x ∈ c.points, x.threshold ≤ q → x.threshold < p.threshold ∨ x = p) →
    accStep (some c) tms (some q) a = min 1048576 (a + p.rate * 100 / tms))

/-- At an evaluation point outside suspension each of the five counts moves by the band of its own multiple: it
rises by 1 to no more than 65535 picked up, stays in the hold band, and becomes 0 dropped out; SEF's own multiple is
the one that supervision leaves. Every trip issue sets the counts to 0 (R23; R25 for SEF, R33 for the trip). -/
def Obligations.CountFollowsTheBand : Prop :=
  (∀ q n : Nat,
    (256 ≤ q → countStep (some q) n = min 65535 (n + 1)) ∧
    (231 ≤ q → q ≤ 255 → countStep (some q) n = n) ∧
    (q < 231 → countStep (some q) n = 0)) ∧
  (∀ (t : Trip) (s : State),
    (issueTrip t s).prot.phHigh = ⟨0, 0, 0⟩ ∧ (issueTrip t s).prot.efHigh = 0 ∧ (issueTrip t s).prot.sef = 0) ∧
  ∀ (f : InForce) (q : Multiples) (p : Protection), p.suspended = false →
    (stepValues f q p).phHigh.a = countStep q.phHigh.a p.phHigh.a ∧
    (stepValues f q p).phHigh.b = countStep q.phHigh.b p.phHigh.b ∧
    (stepValues f q p).phHigh.c = countStep q.phHigh.c p.phHigh.c ∧
    (stepValues f q p).efHigh = countStep q.efHigh p.efHigh ∧
    (stepValues f q p).sef =
      countStep (if q.sefVn.any (fun v => v < 256) then q.sef.map (fun _ => 0) else q.sef) p.sef

/-- A point at which a trip element operates issues one trip: every accumulator and count 0, the SEF operated flag
clear, suspension set unless the breaker is OPEN, TRIP_OUT asserted unless it is OPEN, the start window ended, and
no hunt left running (R31 to R34, R68, R150, R165).

The trip is reported first, with its entries, eligibility, group and revision, whether start pickups were used, its
time, and the shots done before the sequencer acts; every other report of the point follows it. The sequencer then
takes the trip with its eligibility: READY, CLOSING and RECLAIM go to OPENING, or to LOCKOUT with UNSEQUENCED_TRIP on an
OPEN breaker, DEAD_TIME goes to that LOCKOUT, and OPENING and LOCKOUT keep their state (R31, R32, R79, R80, R99). Its
premise is that HUNT_ACTIVE stands while a hunt is not IDLE (R140). That a hold and a close origin go with their state,
that the sequencer comes last, and that the report carries the eligibility, are the model's choices (log entries 11, 21,
49).

While suspension is set no trip element operates and every trip element stays at 0 (R34). -/
def Obligations.TripZeroesAndSuspends : Prop :=
  (∀ (q : Multiples) (started : Bool) (s : State),
    tripEntries s.settings q (stepValues s.regime.inForce q s.prot) ≠ [] →
    (protPoint q started s).prot =
      ⟨⟨0, 0, 0⟩, 0, ⟨0, 0, 0⟩, 0, 0, false, s.brk.accepted != .opened⟩ ∧
    (s.brk.accepted ≠ .opened → (protPoint q started s).brk.tripOut = true) ∧
    (protPoint q started s).brk.accepted = s.brk.accepted ∧
    (protPoint q started s).adm.window = none ∧
    ((protPoint q started s).hunt.state = .idle ∨ (protPoint q started s).hunt.state = .settling) ∧
    (protPoint q started s).mon.recs.earthFaultStanding.active = false ∧
    (∀ trip more,
      trip = { entries := tripEntries s.settings q (stepValues s.regime.inForce q s.prot)
               eligible :=
                 (tripEntries s.settings q (stepValues s.regime.inForce q s.prot)).all fun e =>
                   elementEligible s.settings e.element
               group := s.regime.active
               revision := s.settings.revision
               startPickups := started
               time := s.time } →
      more = (addReport (.trip { trip := trip, shots := s.seq.shots }) s).host.reports →
      more <+: (protPoint q started s).host.reports ∧
      (s.mon.recs.huntActive.active = (s.hunt.state != .idle) →
        TripTaken { origin := .protection, eligible := trip.eligible, time := s.time, group := s.regime.active } s
          (protPoint q started s).seq)) ∧
    SameClock s (protPoint q started s) ∧ SameSettings s (protPoint q started s) ∧
    SameLine s (protPoint q started s)) ∧
  (∀ (f : InForce) (q : Multiples) (p : Protection), p.suspended = true →
    tripEntries f.settings q (stepValues f q p) = [] ∧
    (stepValues f q p).phTime = ⟨0, 0, 0⟩ ∧ (stepValues f q p).efTime = 0 ∧
    (stepValues f q p).phHigh = ⟨0, 0, 0⟩ ∧ (stepValues f q p).efHigh = 0 ∧
    (f.settings.sef.mode = .trip → (stepValues f q p).sef = 0) ∧ (stepValues f q p).suspended = true)

/-! ## Breaker interface -/

/-- The two coil timers' expiries: TRIP_OUT is released with its memo kept, BREAKER_FAIL is active, suspension ends,
and OPENING goes to LOCKOUT with cause BREAKER_FAIL at its activation (R35, R70, R82).

CLOSE_OUT is released at the close timer's expiry with its memo removed, CLOSE_FAIL is active, and CLOSING goes to
LOCKOUT with cause CLOSE_FAIL and the close's origin, whichever of the hard reason and TIMED_OUT comes first (R72,
R88, R89).

OPEN accepted while a trip memo is present releases TRIP_OUT, stops its timer, removes the memo, clears BREAKER_FAIL
and ends suspension (R35, R66, R69).

That an expiry is a step of its own once its timer has run out is the model's choice (log entry 1). -/
def Obligations.CoilOutputsAreReleased : Prop :=
  (∀ (s : State) (l : Nat) (m : TripMemo),
    s.brk.tripTimer = some l → s.brk.tripMemo = some m → l ≤ elapsed s.time m.time →
    ∃ t, exec .tripTimerExpiry s = .next t ∧
      t.brk.tripOut = false ∧ t.brk.tripTimer = none ∧ t.brk.tripMemo = some m ∧
      t.brk.accepted = s.brk.accepted ∧ t.mon.recs.breakerFail.active = true ∧
      t.prot = { s.prot with suspended := false } ∧
      (s.seq.state = .opening → s.mon.recs.breakerFail.active = false →
        t.seq.state = .lockout ∧ t.seq.cause = some .breakerFail ∧ t.seq.shots = s.seq.shots) ∧
      SameClock s t ∧ SameSettings s t ∧ t.adm = s.adm ∧ SameLine s t) ∧
  (∀ (s : State) (l : Nat) (m : CloseMemo),
    s.brk.closeTimer = some l → s.brk.closeMemo = some m → l ≤ elapsed s.time m.time →
    ∃ t, exec .closeTimerExpiry s = .next t ∧
      t.brk.closeOut = false ∧ t.brk.closeTimer = none ∧ t.brk.closeMemo = none ∧
      t.brk.tripOut = s.brk.tripOut ∧ t.brk.accepted = s.brk.accepted ∧ t.mon.recs.closeFail.active = true ∧
      (MonitorConsistent s → s.seq.state = .closing →
        t.seq.state = .lockout ∧ t.seq.cause = some (.closeFail (s.seq.closeOrigin.getD .automatic))) ∧
      SameClock s t ∧ SameSettings s t ∧ t.prot = s.prot ∧ t.adm = s.adm ∧ SameLine s t) ∧
  (∀ (s : State) (ready : Bool),
    s.brk.prevPos = some (false, true) → s.brk.accepted ≠ .opened → s.brk.tripMemo.isSome = true →
    ∃ t, exec (.timeBaseEvent false true ready) s = .next t ∧ t.brk.accepted = .opened ∧
      t.brk.tripOut = false ∧ t.brk.tripTimer = none ∧ t.brk.tripMemo = none ∧
      t.mon.recs.breakerFail.active = false ∧ t.prot = { s.prot with suspended := false } ∧
      t.adm.window = none)

/-! ## Reclose sequencer -/

/-- The dead timer's expiry with shots left and every guard of a close request passed enters CLOSING, counts the
shot and asserts CLOSE_OUT with origin AUTOMATIC, creates the SEQUENCE report, and changes nothing else (R71, R75,
R83, R99).

At the expiry with no shot left the sequencer enters LOCKOUT with cause SHOTS_USED; with a shot left and a hard
reason in the block set the close is refused and the cause is HARD_BLOCK with its lowest number; no coil is asserted
(R71, R83).

That an expiry is a step of its own once its timer has run out is the model's choice (log entry 1). -/
def Obligations.DeadTimeEnds : Prop :=
  (∀ s : State,
    s.seq.state = .deadTime → s.seq.held = false → s.seq.remaining = some 0 → s.seq.shots < s.settings.shotLimit →
    s.brk.tripOut = false → s.mon.hard = [] → s.brk.accepted = .opened → s.brk.closeOut = false →
    ∃ q r,
      q = { s.seq with
            state := .closing
            shots := s.seq.shots + 1
            loaded := none
            remaining := none
            held := false
            closeOrigin := some .automatic
            closeWithdrawn := false } ∧
      r = { time := s.time, previous := .deadTime, state := .closing, event := .expiry, shots := s.seq.shots + 1,
            loaded := none, cause := s.seq.cause, breaker := .opened, origin := none, group := s.regime.active,
            revision := s.settings.revision } ∧
      exec .deadTimerExpiry s =
        .next
          { s with
            seq := q
            brk :=
              { s.brk with
                closeOut := true
                closeMemo := some { origin := .automatic, time := s.time }
                closeTimer := some s.plant.closeTimeout }
            host := (addReport (.sequence r) s).host }) ∧
  (∀ s : State,
    s.seq.state = .deadTime → s.seq.held = false → s.seq.remaining = some 0 →
    (s.settings.shotLimit ≤ s.seq.shots →
      ∃ t, exec .deadTimerExpiry s = .next t ∧ t.seq.state = .lockout ∧
        t.seq.cause = some (.shotsUsed s.seq.shots s.settings.shotLimit) ∧ t.seq.shots = s.seq.shots ∧
        t.brk = s.brk) ∧
    (∀ c rest, s.seq.shots < s.settings.shotLimit → s.brk.tripOut = false → s.mon.hard = c :: rest →
      ∃ t, exec .deadTimerExpiry s = .next t ∧ t.seq.state = .lockout ∧ t.seq.cause = some (.hardBlock c) ∧
        t.brk = s.brk))

/-- A hold time used that exceeded the maximum hold at a 1 ms event ends in LOCKOUT with cause HOLD_EXCEEDED and both
compared values as its detail, with a SEQUENCE report; without such a comparison nothing happens (R85, R98, R99).
The other items of the record stay but for the hold, the close origin and its withdrawal, which are cleared: that
they go at the entry into LOCKOUT is the model's choice (log entry 21), and so is the lockout as a step of its own
(log entries 1, 9).

The reclaim timer's expiry enters READY with shots done 0 and no timer, with a SEQUENCE report and nothing else
changed (R90, R93, R99). -/
def Obligations.HoldAndReclaimEnd : Prop :=
  (∀ s : State, s.due.holdOver = none → exec .holdExceeded s = .next s) ∧
  (∀ (s : State) (m : Nat), s.seq.state = .deadTime → s.due.holdOver = some m →
    ∃ q r,
      q = { s.seq with
            state := .lockout
            loaded := none
            remaining := none
            held := false
            closeOrigin := none
            closeWithdrawn := false
            cause := some (.holdExceeded s.seq.holdUsed m) } ∧
      r = { time := s.time, previous := .deadTime, state := .lockout, event := .holdExceeded, shots := s.seq.shots,
            loaded := none, cause := some (.holdExceeded s.seq.holdUsed m),
            breaker := s.brk.accepted, origin := none, group := s.regime.active,
            revision := s.settings.revision } ∧
      exec .holdExceeded s = .next { s with seq := q, host := (addReport (.sequence r) s).host }) ∧
  (∀ s : State, s.seq.state = .reclaim → s.seq.remaining = some 0 →
    ∃ r,
      r = { time := s.time, previous := .reclaim, state := .ready, event := .expiry, shots := 0, loaded := none,
            cause := none, breaker := s.brk.accepted, origin := none, group := s.regime.active,
            revision := s.settings.revision } ∧
      exec .reclaimTimerExpiry s =
        .next
          { s with
            seq := { s.seq with state := .ready, shots := 0, loaded := none, remaining := none, cause := none }
            host := (addReport (.sequence r) s).host })

/-- OPEN in OPENING is judged by the tests of R81 in their order, and without a failing test loads the dead time of
the next shot, held from the start when a hold reason stands; with a maximum hold of 0 that is LOCKOUT at entry
(R81, R84, R85).

The 1 ms event whose scan accepts OPEN hands it so judged to the sequencer in OPENING: its record, shots and last trip
included, is then the one this judgement gives, where the same event changes no condition (R65, R66, R78, R81). That
the judgement is of the state before the trip's own outputs are released is the model's choice (log entries 11,
41). -/
def Obligations.OpenIsJudgedInOrder : Prop :=
  (∀ (origin : ChangeOrigin) (trip : LastTrip) (s : State),
    s.seq.state = .opening → s.seq.lastTrip = some trip → OpenJudged trip s (openJudgement origin s).seq) ∧
  (∀ (trip : LastTrip) (ready : Bool) (s : State),
    s.seq.state = .opening → s.seq.lastTrip = some trip → s.brk.prevPos = some (false, true) →
    s.brk.accepted ≠ .opened → s.brk.accepted ≠ .none → s.mon.recs.breakerFail.active = false →
    (s.brk.prevReady = some ready → s.brk.ready = readyOf ready) →
    (s.adm.window = none ∨ s.hunt.state ≠ .deferred) →
    ∃ t, exec (.timeBaseEvent false true ready) s = .next t ∧ t.brk.accepted = .opened ∧
      OpenJudged trip s t.seq ∧ t.mon = s.mon)

/-! ## Condition monitor -/

/-- An owner's report of a new active state sets the field, latches a STICKY condition at a rise, derives both sets,
both bars and the pin anew, and creates last a CONDITION report with cause OWNER and the record and derived state as
they then stand, which is all that it does while both sets stay as they were; a report of the state already held
changes nothing (R102, R103, R106, R108, R109, R112).

A hard reason that arrives releases CLOSE_OUT, and it sends DEAD_TIME to LOCKOUT with cause HARD_BLOCK and the
lowest number among the hard reasons (R73, R86, R106, R107). -/
def Obligations.OwnerReportLatchesAndDerives : Prop :=
  (∀ (c : Cond) (active : Bool) (s : State),
    ((s.mon.recs.get c).active = active → ownerReport c active s = s) ∧
    ((s.mon.recs.get c).active ≠ active →
      ((ownerReport c active s).mon.recs.get c).active = active ∧
      (((ownerReport c active s).mon.recs.get c).latched = true ↔
        (s.mon.recs.get c).latched = true ∨ (s.mon.recs.get c).mode = .sticky ∧ active = true) ∧
      (∀ d, d ≠ c → (ownerReport c active s).mon.recs.get d = s.mon.recs.get d) ∧
      (∀ d, d ∈ (ownerReport c active s).mon.hard ↔
        ((ownerReport c active s).mon.recs.get d).inForce = true ∧
        ((ownerReport c active s).mon.recs.get d).actions.blockHard = true) ∧
      ((ownerReport c active s).mon.alarm = true ↔
        ∃ d, ((ownerReport c active s).mon.recs.get d).inForce = true ∧
          ((ownerReport c active s).mon.recs.get d).actions.alarmPin = true) ∧
      MonitorConsistent (ownerReport c active s) ∧
      SameClock s (ownerReport c active s) ∧ SameSettings s (ownerReport c active s) ∧
      SameLine s (ownerReport c active s) ∧
      ∃ u m k,
        m = (ownerReport c active s).mon ∧ k = m.recs.get c ∧
        ownerReport c active s =
          addReport
            (.condition
              { time := s.time, cond := c, cause := .owner, active := active, latched := k.latched,
                inForce := k.inForce, mode := k.mode, actions := k.actions, hard := m.hard, hold := m.hold,
                startBar := m.startBar, huntBar := m.huntBar, alarm := m.alarm }) u ∧
        u.mon = m ∧ (m.hard = s.mon.hard → m.hold = s.mon.hold → u = { s with mon := m }))) ∧
  (∀ (c : Cond) (s : State),
    MonitorConsistent s → (s.mon.recs.get c).active = false → (s.mon.recs.get c).inForce = false →
    (s.mon.recs.get c).actions.blockHard = true →
    (ownerReport c true s).brk.closeOut = false ∧
    (s.seq.state = .deadTime →
      (ownerReport c true s).seq.state = .lockout ∧
      (ownerReport c true s).seq.cause = some (.hardBlock ((ownerReport c true s).mon.hard.headD .sampleLoss))) ∧
    (s.seq.state = .closing → (ownerReport c true s).seq.state = .lockout))

/-! ## Settings store -/

/-- The end of a check: a scan event ends the check in progress, so that its image takes the result of comparing its
CRC-16 with the stored CRC, and begins the check at the scan position, which moves on. A mismatch of a valid image
makes it invalid and INTEGRITY active; a good check makes no invalid image valid (R41, R48, R50).

CHECK_IMAGES checks all twelve images in one event, leaves no check in progress with the scan position PLANT, and
replies OK (R50, R51).

The mark of a scan event that is due, the place of a command at the head of its queue and the coding of the reply
are the model's choices (log entries 1, 13, 17). -/
def Obligations.ChecksOfWorkingCopies : Prop :=
  (∀ s : State, s.due.scan = true →
    ∃ t, exec .scanEvent s = .next t ∧ t.due = { s.due with scan := false } ∧
      t.store.checking = some s.store.scanPos ∧ t.store.scanPos = s.store.scanPos.next ∧
      t.store.write = s.store.write ∧
      (∀ i, s.store.checking ≠ some i → t.store.images.get i = s.store.images.get i) ∧
      (∀ i, s.store.checking = some i →
        t.store.images.get i =
          if (s.store.images.get i).present = false then { s.store.images.get i with lastCheck := .notPresent }
          else if crc16 (s.store.images.get i).working = (s.store.images.get i).storedCrc then
            { s.store.images.get i with lastCheck := .good }
          else { s.store.images.get i with lastCheck := .mismatch, valid := false }) ∧
      (∀ i, s.store.checking = some i → (s.store.images.get i).present = true →
        (s.store.images.get i).valid = true →
        crc16 (s.store.images.get i).working ≠ (s.store.images.get i).storedCrc →
        t.mon.recs.integrity.active = true) ∧
      (s.store.checking = none →
        t = { s with
              due := { s.due with scan := false }
              store :=
                { s.store with checking := some s.store.scanPos, scanPos := s.store.scanPos.next } }) ∧
      t.time = s.time ∧ t.port = s.port ∧ t.meas = s.meas ∧ t.prot = s.prot ∧ SameLine s t) ∧
  (∀ (c : Command) (rest : List Command) (s : State), HeadIs .checkImages c rest s → c.payload = [] →
    ∃ t, exec .checkImages s = .next t ∧ t.store.checking = none ∧ t.store.scanPos = .plant ∧
      t.store.write = s.store.write ∧
      (∀ i, t.store.images.get i =
        if (s.store.images.get i).present = false then { s.store.images.get i with lastCheck := .notPresent }
        else if crc16 (s.store.images.get i).working = (s.store.images.get i).storedCrc then
          { s.store.images.get i with lastCheck := .good }
        else { s.store.images.get i with lastCheck := .mismatch, valid := false }) ∧
      Replied (okReply .empty) rest s t ∧ SameClock s t ∧ t.prot = s.prot)

/-- A LOAD_IMAGE whose CRC, ranges and cross-checks pass, with no backing write in flight, replaces the working copy
and the record of its image, starts the backing write, and is answered ACCEPTED; every other image is unchanged
(R41, R44, R45, R46).

A LOAD_IMAGE is judged in the order CRC, ranges, cross-checks, backing write in flight; the first failing test gives
the reply, and nothing else changes (R42, R43, R44).

The place of a command at the head of its queue, the coding of the reply, the field that is named where two fail, HUNT
before DRIVES at field 255, and 0 for a kind or an index that is missing, are the model's choices (log entries 13, 14,
15, 17, 20). -/
def Obligations.LoadImageIsJudged : Prop :=
  (∀ (c : Command) (rest : List Command) (content : List Byte) (hi lo : Byte) (id : ImageId) (s : State),
    HeadIs .loadImage c rest s → c.payload = content ++ [hi, lo] → crc16 content = word16 hi lo →
    rangeFailure content = none → crossFailure s.store.images content = none → s.store.write = none →
    ImageId.ofKindIndex (u8 content 0) (u8 content 1) = some id →
    ∃ t, exec .loadImage s = .next t ∧
      t.store.images.get id =
        { present := true
          valid := true
          retained := false
          revision := if id.kind = 4 then some (u16 content 4) else none
          storedCrc := word16 hi lo
          lastCheck := .notChecked
          working := content
          backing := (s.store.images.get id).backing } ∧
      (∀ j, j ≠ id → t.store.images.get j = s.store.images.get j) ∧
      t.store.write = some { image := id, content := content, crc := word16 hi lo, started := s.time } ∧
      t.store.scanPos = s.store.scanPos ∧ t.store.checking = s.store.checking ∧
      t.mon.recs.integrity.active = (ImageId.all.any fun j =>
        (t.store.images.get j).present && !(t.store.images.get j).valid) ∧
      Replied ⟨some .accepted, .loadResult (u8 content 0) (u8 content 1) none none⟩ rest s t ∧ SameClock s t ∧
      t.prot = s.prot) ∧
  (∀ (c : Command) (rest : List Command) (content : List Byte) (hi lo : Byte) (s : State),
    HeadIs .loadImage c rest s → c.payload = content ++ [hi, lo] →
    ∀ r,
      (crc16 content ≠ word16 hi lo ∧ r = loadReply .badCheck content none none) ∨
      (crc16 content = word16 hi lo ∧ ∃ f, rangeFailure content = some f ∧
        r = loadReply .badArgument content (some f) none) ∨
      (crc16 content = word16 hi lo ∧ rangeFailure content = none ∧
        ∃ f k, crossFailure s.store.images content = some (f, k) ∧ r = loadReply .badArgument content (some f) k) ∨
      (crc16 content = word16 hi lo ∧ rangeFailure content = none ∧ crossFailure s.store.images content = none ∧
        s.store.write.isSome = true ∧ r = loadReply .busy content none none) →
      exec .loadImage s = .next { s with host := s.host.afterReply r none rest })

/-- A backing write's end: STORED makes the image retained and its backing copy that content; WRITE_FAILED leaves a
backing copy that will fail its check (log entry 3), with the working copy and its validity as they were. Either
creates an IMAGE report; with no write in flight nothing happens (R46). -/
def Obligations.BackingWriteCompletes : Prop :=
  ∀ (s : State) (w : BackingWrite),
    (s.store.write = some w →
      exec (.backingWriteCompletion true) s =
        .next
          { s with
            store :=
              { s.store with
                write := none
                images :=
                  s.store.images.set w.image
                    { s.store.images.get w.image with retained := true, backing := .written w.content w.crc } }
            host := (addReport (.image s.time (.stored w.image)) s).host } ∧
      exec (.backingWriteCompletion false) s =
        .next
          { s with
            store :=
              { s.store with
                write := none
                images :=
                  s.store.images.set w.image { s.store.images.get w.image with backing := .spoiled s.freeIx } }
            freeIx := s.freeIx + 1
            host := (addReport (.image s.time (.writeFailed w.image)) s).host }) ∧
    (s.store.write = none → ∀ stored, exec (.backingWriteCompletion stored) s = .next s)

/-! ## Regime unit -/

/-- The effective level is recomputed at an evaluation point and at a full restart from the season flag in use and
the stored level: 0 with the season OFF, else 5 without a stored level or with an expired one, else the stored
level. Every command but a sample set and a restart leaves it as it is (R57). -/
def Obligations.EffectiveLevelFollowsTheTable : Prop :=
  (∀ (frame : Nat) (s t : State),
    frameWellFormed 96 frame = true →
    s.port.state ≠ .tracking ∨ s.port.lastSeq = some ((sampleSetOf frame).seq - 1) →
    s.meas.fill = 31 ∨ 32 ≤ s.meas.fill ∧ s.meas.phase = 15 →
    exec (.sampleSetArrival 96 frame) s = .next t →
    (s.plant.season = false → t.regime.fire.effective = 0) ∧
    (s.plant.season = true → s.regime.fire.level = none → t.regime.fire.effective = 5) ∧
    (∀ l, s.plant.season = true → s.regime.fire.level = some l →
      t.regime.fire.effective = if s.regime.fire.expired then 5 else l)) ∧
  (∀ (cause : PowerCause) (baud1 baud0 : Bool) (s t : State),
    exec (.fullRestart cause baud1 baud0) s = .next t →
    t.regime.fire.effective = if t.plant.season then 5 else 0) ∧
  (∀ (baud1 baud0 : Bool) (s t : State), commandRestartDue s = true →
    exec (.fullRestartByCommand baud1 baud0) s = .next t →
    t.regime.fire.effective = if t.plant.season then 5 else 0) ∧
  (∀ (c : Instr) (s t : State), exec c s = .next t →
    (∀ nbits frame, c ≠ .sampleSetArrival nbits frame) →
    (∀ cause baud1 baud0, c ≠ .fullRestart cause baud1 baud0) →
    (∀ baud1 baud0, c ≠ .fullRestartByCommand baud1 baud0) →
    t.regime.fire.effective = s.regime.fire.effective)

/-- SET_FIRE_LEVEL stores the level, 5 at most, with its set time and validity, the default for 0, clears expired
and makes FIRE_STALE not active; a validity above 1440 is refused and nothing else changes (R55, R56).

A stored level expires when its validity has passed; FIRE_STALE is then active exactly while the season is ON (R56).

The place of a command at the head of its queue, and the field number and the content of a refusal, are the model's
choices (log entries 13, 32, 33). -/
def Obligations.FireLevelIsStoredAndExpires : Prop :=
  (∀ (c : Command) (rest : List Command) (l v1 v0 : Byte) (s : State),
    HeadIs .setFireLevel c rest s → c.payload = [l, v1, v0] →
    (v1.toNat * 256 + v0.toNat ≤ 1440 →
      ∃ t v, exec .setFireLevel s = .next t ∧
        v = (if v1.toNat * 256 + v0.toNat = 0 then s.plant.defaultValidity else v1.toNat * 256 + v0.toNat) ∧
        t.regime =
          { s.regime with
            fire :=
              { s.regime.fire with
                level := some (min 5 l.toNat), setTime := s.time, validity := v, expired := false } } ∧
        t.mon.recs.fireStale.active = false ∧
        Replied (okReply (.fireLevel (some (min 5 l.toNat)) v s.regime.fire.effective)) rest s t ∧ SameClock s t ∧
        t.store = s.store ∧ t.prot = s.prot ∧ t.adm = s.adm) ∧
    (1440 < v1.toNat * 256 + v0.toNat →
      exec .setFireLevel s =
        .next
          { s with
            host :=
              s.host.afterReply
                (badArgumentWith 2
                  (.fireLevel s.regime.fire.level s.regime.fire.validity s.regime.fire.effective))
                none rest })) ∧
  (∀ (s : State) (l : Nat),
    s.regime.fire.level = some l → s.regime.fire.expired = false →
    (s.regime.fire.validity * 60000 ≤ elapsed s.time s.regime.fire.setTime →
      ∃ t, exec .fireLevelExpiry s = .next t ∧
        t.regime = { s.regime with fire := { s.regime.fire with expired := true } } ∧
        t.mon.recs.fireStale.active = s.plant.season ∧ SameClock s t ∧ t.store = s.store ∧ t.prot = s.prot ∧
        t.adm = s.adm ∧ SameLine s t) ∧
    (elapsed s.time s.regime.fire.setTime < s.regime.fire.validity * 60000 → exec .fireLevelExpiry s = .next s))

/-- SELECT_GROUP of a fit stored group makes it the override and the candidate, and pending unless it is active with
no refresh marked; an unfit one is refused with the first failing test and nothing else changes; 4 to 254 are
refused with BAD_ARGUMENT (R58, R59, R61).

SELECT_GROUP AUTO sets the override to AUTO and recomputes the candidate from the regime map (R58, R59).

A group is fit exactly when its image is present and valid, each curve that an enabled inverse-time element names is
present and valid, and its rank is at least the effective level (R58).

The place of a command at the head of its queue, and the field number and the content of a refusal, are the model's
choices (log entries 13, 32, 33). -/
def Obligations.SelectGroupIsJudged : Prop :=
  (∀ (c : Command) (rest : List Command) (g : Byte) (s : State),
    HeadIs .selectGroup c rest s → c.payload = [g] →
    (g.toNat ≤ 3 → unfitness s.store.images s.regime.fire.effective g.toNat = none →
      ∃ p,
        p = (if g.toNat ≠ s.regime.active then some g.toNat
          else if s.regime.refreshGroup || s.regime.refreshCurve then some s.regime.active else none) ∧
        exec .selectGroup s =
          .next
            { s with
              regime :=
                { s.regime with
                  override := some g.toNat, candidate := g.toNat, fallback := none, pending := p }
              host := s.host.afterReply (okReply (.group (some g.toNat) p)) none rest }) ∧
    (∀ f, g.toNat ≤ 3 → unfitness s.store.images s.regime.fire.effective g.toNat = some f →
      exec .selectGroup s =
        .next
          { s with
            host :=
              s.host.afterReply (refusedFor (fallbackReason f) (.group s.regime.override s.regime.pending)) none
                rest }) ∧
    (3 < g.toNat → g.toNat ≠ 255 →
      exec .selectGroup s =
        .next
          { s with
            host :=
              s.host.afterReply (badArgumentWith 1 (.group s.regime.override s.regime.pending)) none rest })) ∧
  (∀ (c : Command) (rest : List Command) (s : State),
    HeadIs .selectGroup c rest s → c.payload = [255] →
    ∃ t, exec .selectGroup s = .next t ∧ t.regime.override = none ∧
      (t.regime.candidate, t.regime.fallback) =
        candidateFor s.store.images s.regime.fire.effective
          (s.plant.regimeMap.getD s.regime.fire.effective groupSIndex) ∧
      t.regime.active = s.regime.active ∧ t.regime.inForce = s.regime.inForce ∧ t.regime.fire = s.regime.fire ∧
      Replied (okReply (.group none t.regime.pending)) rest s t ∧ SameClock s t ∧ t.store = s.store ∧
      t.prot = s.prot ∧ t.brk = s.brk ∧ t.seq = s.seq ∧ t.mon = s.mon ∧ t.pilot = s.pilot ∧ t.hunt = s.hunt ∧
      t.adm = s.adm) ∧
  (∀ (t : ImageTable Image) (effective : Nat) (i : ImageId) (g : Nat), ImageId.ofGroup g = some i →
    (unfitness t effective g = none ↔
      (t.get i).present = true ∧ (t.get i).valid = true ∧
      ((parseGroup (t.get i).working).phTime.enabled = true →
        usable (curveImage t (parseGroup (t.get i).working).phTime.curve) = true) ∧
      ((parseGroup (t.get i).working).efTime.enabled = true →
        usable (curveImage t (parseGroup (t.get i).working).efTime.curve) = true) ∧
      effective ≤ (parseGroup (t.get i).working).rank))

/-! ## Pilot bus -/

/-- A slot event settles the down half that its slot shows, from the state it has left: FREE, holder, OFFER with
phase and cell, and up-TAKE with its phase (R115, R118, R119, R128, R131, Table 7.6).

The mark of a slot event that is due, and the phase bits 0 of an idle mark, are the model's choices (log entries 1,
48). -/
def Obligations.SlotEventSettlesTheDownHalf : Prop :=
  ∀ (up : BitVec 32) (s : State), s.due.slot = true →
    ∃ t h, exec (.slotEvent up) s = .next t ∧ t.pilot.half = some h ∧
      (h.free = true ↔ t.pilot.up.stage = .openToContest) ∧
      (t.pilot.up.stage = .holding ∨ t.pilot.up.stage = .refusing → h.holder = t.pilot.up.holder.getD 0) ∧
      (t.pilot.up.stage = .openToContest ∨ t.pilot.up.stage = .closed → h.holder = 0) ∧
      (h.offer = true ↔ t.pilot.down.stage = .offering) ∧
      (t.pilot.down.stage = .offering →
        h.phase = t.pilot.down.phase ∧
        ∀ m, t.pilot.down.msg = some m → h.cell = m.cells.getD (t.pilot.down.cell - 1) 0) ∧
      (t.pilot.down.stage ≠ .offering → h.phase = false ∧ h.cell = 0) ∧
      (h.upTake = true ↔ t.pilot.up.stage = .holding ∧ t.pilot.up.lastPhase.isSome = true) ∧
      (∀ p, t.pilot.up.stage = .holding → t.pilot.up.lastPhase = some p → h.upTakePhase = p) ∧
      (h.upTake = false → h.upTakePhase = false) ∧
      t.due = { s.due with slot := false, inSlot := true } ∧
      t.time = s.time ∧ t.port = s.port ∧ t.meas = s.meas ∧ t.prot = s.prot ∧ SameSettings s t ∧ t.brk = s.brk ∧
      t.seq = s.seq ∧ t.mon = s.mon ∧ t.host = s.host ∧ t.resetLow = s.resetLow ∧ t.freeIx = s.freeIx ∧
      t.pending = s.pending

/-- Two up halves whose checks both fail have the same effect, whatever their bits: such a half carries nothing
(R116).

In OFFERING the second of two matching echoes accepts the cell: the last cell ends DELIVERED, another is followed by
the next with the phase flipped and the take timeout read afresh; the second idle down-TAKE after an echo ends
REFUSED (R118, R119, R120).

The mark of a slot event that is due is the model's choice (log entry 1). -/
def Obligations.UpHalvesDecideTheCell : Prop :=
  (∀ (x y : BitVec 32) (s : State), upHalfValid x = false → upHalfValid y = false →
    exec (.slotEvent x) s = exec (.slotEvent y) s) ∧
  (∀ (up : BitVec 32) (u : UpHalf) (h : DownHalf) (m : DownMessage) (s : State),
    s.due.slot = true → s.pilot.half = some h → s.pilot.down.stage = .offering → s.pilot.down.msg = some m →
    s.pilot.down.slotsOffered < s.pilot.down.loadedTake → readUpHalf up = some u →
    ∃ t, exec (.slotEvent up) s = .next t ∧
      (u.take = true → u.takePhase = s.pilot.down.phase → s.pilot.down.echoLooks = 1 →
        m.cells.length ≤ s.pilot.down.cell →
        t.pilot.down.stage = .ending ∧ t.pilot.down.outcome = some .delivered ∧ t.pilot.down.endingLeft = 2) ∧
      (u.take = true → u.takePhase = s.pilot.down.phase → s.pilot.down.echoLooks = 1 →
        s.pilot.down.cell < m.cells.length →
        t.pilot.down.stage = .offering ∧ t.pilot.down.cell = s.pilot.down.cell + 1 ∧
        t.pilot.down.phase = !s.pilot.down.phase ∧ t.pilot.down.slotsOffered = 0 ∧
        t.pilot.down.loadedTake = s.plant.takeTimeout) ∧
      (u.take = false → s.pilot.down.echoSeen = true → s.pilot.down.idleLooks = 1 →
        t.pilot.down.stage = .ending ∧ t.pilot.down.outcome = some .refused ∧ t.pilot.down.endingLeft = 2) ∧
      t.pilot.queue = s.pilot.queue)

/-- In OPEN_TO_CONTEST a valid up half with OFFER makes its contest address the holder when it is listed and the
cool-down does not name it; otherwise FREE stays shown (R125, R130).

With the down channel free, the slot event puts in flight the waiting message of the lowest arbiter order that
joined first: cell 1, phase 0, every look and the slots offered 0, and the take timeout of PLANT loaded; its requester
learns that it is in flight (R118, R123, R133, R148, R164).

The mark of a slot event that is due, the marks of a complete message and of a refusal shown, the value that ending slots
left keeps, and idle looks 0 of a new holder are the model's choices (log entries 1, 6, 7, 30, 45). -/
def Obligations.SlotEventChoosesHolderAndMessage : Prop :=
  (∀ (up : BitVec 32) (u : UpHalf) (h : DownHalf) (s : State),
    s.due.slot = true → s.pilot.half = some h → s.pilot.up.stage = .openToContest → readUpHalf up = some u →
    u.offer = true →
    ∃ t, exec (.slotEvent up) s = .next t ∧
      ((∃ x ∈ s.pilot.stations, x.address = u.contest) →
        (∀ c, s.pilot.up.coolDown = some c → c.address = u.contest → c.left = 0) →
        t.pilot.up =
          { stage := .holding, holder := some u.contest, cells := [], declared := none, lastPhase := none,
            look := none, idleLooks := 0, noProgress := 0, refusingLeft := 0, refusalShown := false,
            coolDown := none, complete := false }) ∧
      ((∀ x ∈ s.pilot.stations, x.address ≠ u.contest) ∨
        (∃ c, s.pilot.up.coolDown = some c ∧ c.address = u.contest ∧ c.left ≠ 0) →
        t.pilot.up.stage = .openToContest ∧ t.pilot.up.holder = s.pilot.up.holder)) ∧
  (∀ (up : BitVec 32) (s : State) (q1 q2 : List QueueEntry) (e : QueueEntry),
    s.due.slot = true → s.pilot.down.stage = .freeChannel → s.pilot.queue = q1 ++ e :: q2 →
    (∀ x ∈ q1, e.msg.cls.order < x.msg.cls.order) → (∀ x ∈ q2, e.msg.cls.order ≤ x.msg.cls.order) →
    ∃ t, exec (.slotEvent up) s = .next t ∧ t.pilot.queue = q1 ++ q2 ∧
      t.pilot.down =
        { stage := .offering, msg := some e.msg, cell := 1, phase := false, echoLooks := 0, echoSeen := false,
          idleLooks := 0, slotsOffered := 0, loadedTake := s.plant.takeTimeout,
          endingLeft := s.pilot.down.endingLeft, outcome := none } ∧
      InFlightNoted e.msg s t)

/-- A cell offered for its take timeout without an accepted echo ends the message NO_TAKE (R121).

The up channel after a holding ends, by timeout or at the end of the refusing slots: open to contest with a
cool-down of two slots on the former holder, or CLOSED while STATIONS is unfit (R128, R129, R130, R131).

A cool-down with no slots left becomes absent, and nothing else changes (R130).

The marks that say when each end is due, echo and idle looks 0 in ENDING, the channel CLOSED while STATIONS is unfit,
and idle looks 0 at the end of a holding are the model's choices (log entries 1, 7, 30, 31, 45). -/
def Obligations.PilotTimeoutsAndEnds : Prop :=
  (∀ s : State, s.pilot.down.stage = .offering → s.pilot.down.loadedTake ≤ s.pilot.down.slotsOffered →
    ∃ half up,
      exec .takeTimeout s =
        .next
          { s with
            pilot :=
              { s.pilot with
                down :=
                  { s.pilot.down with
                    stage := .ending, endingLeft := 2, outcome := some .noTake, echoLooks := 0, idleLooks := 0 }
                half := half
                up := { s.pilot.up with refusalShown := up } } }) ∧
  (∀ s : State,
    (s.pilot.up.stage = .holding → s.pilot.up.complete = false → 250 ≤ s.pilot.up.noProgress →
      ∃ t, exec .holdingTimeout s = .next t ∧ t.pilot.up = endHolding (usable s.store.images.stations) s.pilot.up ∧
        t = { s with pilot := { s.pilot with up := t.pilot.up, half := t.pilot.half } }) ∧
    (s.pilot.up.stage = .refusing → s.pilot.up.refusalShown = true → s.pilot.up.refusingLeft = 0 →
      ∃ t, exec .refusingEnd s = .next t ∧ t.pilot.up = endHolding (usable s.store.images.stations) s.pilot.up ∧
        t = { s with pilot := { s.pilot with up := t.pilot.up, half := t.pilot.half } }) ∧
    (∀ a, s.pilot.up.holder = some a →
      (endHolding true s.pilot.up).stage = .openToContest ∧ (endHolding true s.pilot.up).holder = none ∧
      (endHolding true s.pilot.up).coolDown = some { address := a, left := 2 }) ∧
    (endHolding false s.pilot.up).stage = .closed ∧ (endHolding false s.pilot.up).coolDown = none) ∧
  (∀ (s : State) (c : CoolDown), s.pilot.up.coolDown = some c →
    (c.left = 0 →
      exec .coolDownEnd s =
        .next { s with pilot := { s.pilot with up := { s.pilot.up with coolDown := none } } }) ∧
    (c.left ≠ 0 → exec .coolDownEnd s = .next s))

/-- After its two idle slots a message leaves flight and its outcome, DELIVERED, REFUSED or NO_TAKE, reaches its
requester: a QUERY its station's answer state, an OPEN or CLOSE the hunt's step, a GRANT or RELEASE the start
admission unit by the table of R164; the idle slots after a restart have no outcome (R119, R133, R139, R144 to R149,
R164).

In the slot event that ended it the arbiter may choose the next message, that of the lowest arbiter order that joined
first, whose requester learns that it is in flight; everything else stands as the outcome has left it, and the down
half is settled from the state reached (R115, R119, R123).

That the end is a step of its own within that slot event, the values that the other items of the down channel keep, the
phase bits 0 of an idle mark, and that a message the outcome queues joins before the arbiter's choice, are the model's
choices (log entries 1, 30, 48, 51). -/
def Obligations.DownMessageEndHandsItsOutcome : Prop :=
  ∀ s : State, s.pilot.down.stage = .ending → s.pilot.down.endingLeft = 0 →
    ∃ t u, exec .downMessageEnd s = .next t ∧ u = endMessage s ∧
      u.pilot.down = { s.pilot.down with stage := .freeChannel, msg := none, outcome := none } ∧
      (∀ m o, s.pilot.down.msg = some m → s.pilot.down.outcome = some o →
        (m.cls = .poll ∨ m.cls = .host → QueryEnded o m.dest s u) ∧ (m.cls = .hunt → HuntMessageEnded o s u) ∧
        (m.cls = .admission → AdmissionMessageEnded o s u)) ∧
      (s.pilot.down.msg = none → u = { s with pilot := { s.pilot with down := u.pilot.down } }) ∧
      (s.due.inSlot = false → t = u) ∧
      (s.due.inSlot = true → t = settle (arbitrate u) ∧ t.pilot.half = some (settledHalf t.pilot)) ∧
      (s.due.inSlot = true → u.pilot.queue = [] →
        t = { u with
              pilot :=
                { u.pilot with
                  half := t.pilot.half
                  up := { u.pilot.up with refusalShown := t.pilot.up.refusalShown } } }) ∧
      (∀ q1 e q2, s.due.inSlot = true → u.pilot.queue = q1 ++ e :: q2 →
        (∀ x ∈ q1, e.msg.cls.order < x.msg.cls.order) → (∀ x ∈ q2, e.msg.cls.order ≤ x.msg.cls.order) →
        t = { u with
              hunt := t.hunt
              adm := t.adm
              pilot :=
                { u.pilot with
                  queue := q1 ++ q2
                  down :=
                    { stage := .offering, msg := some e.msg, cell := 1, phase := false, echoLooks := 0,
                      echoSeen := false, idleLooks := 0, slotsOffered := 0, loadedTake := s.plant.takeTimeout,
                      endingLeft := 0, outcome := none }
                  stations := t.pilot.stations
                  half := t.pilot.half
                  up := { u.pilot.up with refusalShown := t.pilot.up.refusalShown } } } ∧
        InFlightNoted e.msg u t) ∧
      SameClock s t ∧ SameSettings s t ∧ t.prot = s.prot ∧ SameLine s t

/-- A delivered STATUS makes its station PRESENT with missed count 0, takes its switch, indicator and lock from the
content, and answers a QUERY; the holding then ends (R127, R130, R133, R135, R136).

The mark of a message that has ended whole, and idle looks 0 at the end of the holding, are the model's choices (log
entries 6, 45). -/
def Obligations.StatusUpdatesItsStation : Prop :=
  ∀ (s : State) (a : Nat) (c : Word16) (st : Station),
    dueMessage s = some (.status, a, c) → findStation s a = some st →
    ∃ t, exec .status s = .next t ∧
      findStation t a =
        some
          { st with
            presence := .present
            missed := 0
            switch := statusSwitch c
            indicator := c.getLsbD 4
            lock := c.getLsbD 5
            answer :=
              (match st.answer with
                | .inFlight => .answered
                | .waiting _ => .none
                | .none => .none
                | .answered => .answered)
            hostMark :=
              (match st.answer with
                | .inFlight => false
                | .waiting _ => false
                | .none => st.hostMark
                | .answered => st.hostMark) } ∧
      (∀ x, x ≠ a → findStation t x = findStation s x) ∧
      t.pilot.up = endHolding (usable s.store.images.stations) s.pilot.up ∧
      t.mon.recs.stationSilent.active = t.pilot.stations.any (fun x => x.presence == .silent) ∧
      SameClock s t ∧ SameSettings s t ∧ t.prot = s.prot ∧ t.adm = s.adm ∧ SameLine s t

/-- A SWITCH_DONE with result DONE_OPEN from the station a step waits for sets the station's switch and
opened-by-hunt flag and enters DWELL with the step's dwell (R127, R136, R140, R145).

The mark of a message that has ended whole, and idle looks 0 at the end of the holding, are the model's choices (log
entries 6, 45). -/
def Obligations.SwitchDoneEntersDwell : Prop :=
  ∀ (s : State) (a : Nat) (c : Word16) (st : Station),
    dueMessage s = some (.switchDone, a, c) → findStation s a = some st → c.extractLsb' 0 2 = 0 →
    s.hunt.state = .opening → s.hunt.phase = some .answerWait → (currentStep s).station = a →
    (∀ x ∈ s.pilot.stations, x.presence ≠ .silent) → s.mon.recs.stationSilent.active = false →
    ∃ t, exec .switchDone s = .next t ∧
      t.hunt =
        { s.hunt with
          state := .dwell
          phase := none
          switchTimer := none
          openStation := some a
          dwellTimer := some { loaded := (currentStep s).dwell, remaining := (currentStep s).dwell } } ∧
      findStation t a =
        some { st with presence := .present, missed := 0, switch := .opened, openedByHunt := true } ∧
      (∀ x, x ≠ a → findStation t x = findStation s x) ∧
      t.pilot.up = endHolding (usable s.store.images.stations) s.pilot.up ∧
      SameClock s t ∧ SameSettings s t ∧ t.prot = s.prot ∧ t.brk = s.brk ∧ t.seq = s.seq ∧ t.mon = s.mon ∧
      t.adm = s.adm ∧ SameLine s t

/-- The poll timer's expiry loads the poll interval, moves the cursor to the lowest address above it, or to the
lowest, and joins a QUERY of class POLL when none is waiting or in flight for that station and an open place is free
(R122, R132). With the up channel CLOSED, or STATIONS not present or not valid, it polls no station (R52, R132,
R137).

PILOT_QUERY to a listed station with no QUERY to it waiting or in flight joins a QUERY of class HOST in an open
place and sets the host query mark; with no open place it is answered BUSY, and with STATIONS unfit it is refused,
with nothing else changed (R122, R135).

The address that a BUSY or a refused reply carries, the place of a command at the head of its queue, and STATIONS unfit
in a stage still REFUSING after an invalidity, are the model's choices (log entries 13, 31, 32). -/
def Obligations.QueriesJoinTheQueue : Prop :=
  (∀ s : State, s.pilot.pollRemaining = 0 →
    s.pilot.up.stage = .closed ∨ usable s.store.images.stations = false →
    exec .pollTimerExpiry s =
      .next { s with pilot := { s.pilot with pollRemaining := s.plant.pollInterval * 1000 } }) ∧
  (∀ (s : State) (a : Nat),
    s.pilot.pollRemaining = 0 → s.pilot.up.stage ≠ .closed → usable s.store.images.stations = true →
    (match s.pilot.stations.find? fun st => decide (s.pilot.cursor.getD 0 < st.address) with
      | some st => some st.address
      | none => s.pilot.stations.head?.map fun st => st.address) = some a →
    ∃ q,
      exec .pollTimerExpiry s =
        .next
          { s with
            pilot :=
              { s.pilot with pollRemaining := s.plant.pollInterval * 1000, cursor := some a, queue := q } } ∧
      (queryWaiting s a = true ∨ queryInFlight s a = true ∨
        6 ≤ (s.pilot.queue.filter fun e => !e.kept).length → q = s.pilot.queue) ∧
      (queryWaiting s a = false → queryInFlight s a = false →
        (s.pilot.queue.filter fun e => !e.kept).length < 6 →
        q = s.pilot.queue ++
          [{ msg := { cls := .poll, dest := a, kind := .query, cells := [headerCell a 1 1] }, kept := false }])) ∧
  (∀ (c : Command) (rest : List Command) (a : Byte) (s : State),
    HeadIs .pilotQuery c rest s → c.payload = [a] →
    (s.pilot.up.stage = .closed ∨ usable s.store.images.stations = false →
      exec .pilotQuery s =
        .next { s with host := s.host.afterReply (refusedFor .stationsUnfit (.address a.toNat)) none rest }) ∧
    (s.pilot.up.stage ≠ .closed → usable s.store.images.stations = true →
      (∃ x ∈ s.pilot.stations, x.address = a.toNat) →
      queryWaiting s a.toNat = false → queryInFlight s a.toNat = false →
      ((s.pilot.queue.filter fun e => !e.kept).length < 6 →
        exec .pilotQuery s =
          .next
            { s with
              pilot :=
                { s.pilot with
                  queue :=
                    s.pilot.queue ++
                      [{ msg := { cls := .host, dest := a.toNat, kind := .query, cells := [headerCell a.toNat 1 1] },
                         kept := false }]
                  stations :=
                    s.pilot.stations.map fun x => if x.address = a.toNat then { x with hostMark := true } else x }
              host := s.host.afterReply ⟨some .accepted, .address a.toNat⟩ none rest }) ∧
      (6 ≤ (s.pilot.queue.filter fun e => !e.kept).length →
        exec .pilotQuery s = .next { s with host := s.host.afterReply ⟨some .busy, .address a.toNat⟩ none rest })))

/-- A reply wait that runs out counts one missed answer, to no more than 10: the answer state is NONE, the host
query mark is clear, and at the silent count the station is SILENT with STATION_SILENT active (R133, R134, R135). -/
def Obligations.MissedAnswerIsCounted : Prop :=
  ∀ (s : State) (a : Nat) (st : Station) (deadline : Time),
    findStation s a = some st → st.answer = .waiting deadline → elapsed s.time deadline < 2 ^ 31 →
    ∃ t, exec (.replyWaitExpiry a) s = .next t ∧
      findStation t a =
        some
          { st with
            missed := min 10 (st.missed + 1)
            presence := if s.plant.silentCount ≤ min 10 (st.missed + 1) then .silent else st.presence
            answer := .none
            hostMark := false } ∧
      (∀ x, x ≠ a → findStation t x = findStation s x) ∧
      (s.plant.silentCount ≤ min 10 (st.missed + 1) → t.mon.recs.stationSilent.active = true) ∧
      SameClock s t ∧ SameSettings s t ∧ t.prot = s.prot ∧ t.adm = s.adm ∧ SameLine s t

/-! ## Hunt controller -/

/-- START_HUNT with every start test passed: with a start window open the hunt waits in DEFERRED; with none it
starts, takes its plan, sends OPEN to the first station and makes HUNT_ACTIVE active (R122, R140, R141, R142, R144).

START_HUNT is refused with the first test of Table 8.5 that fails, and nothing else changes (R141).

The place of a command at the head of its queue, the coding of the reply, and STATIONS unfit in a stage still REFUSING
after an invalidity, are the model's choices (log entries 13, 17, 31). -/
def Obligations.StartHuntIsJudged : Prop :=
  (∀ (c : Command) (rest : List Command) (s : State),
    HeadIs .startHunt c rest s → c.payload = [] → MonitorConsistent s →
    (s.mon.recs.get .huntActive).actions.barHunt = false →
    s.hunt.state = .idle → s.settings.huntEnabled = true → usable s.store.images.hunt = true →
    s.pilot.up.stage ≠ .closed → usable s.store.images.stations = true → s.mon.huntBar = false →
    s.seq.state = .ready → s.brk.accepted = .closed →
    (s.adm.window.isSome = true →
      ∃ t, exec .startHunt s = .next t ∧ t.hunt = { s.hunt with state := .deferred, origin := some .host } ∧
        t.mon.recs.huntActive.active = true ∧ Replied (okReply (.huntState .deferred)) rest s t ∧
        SameClock s t ∧ SameSettings s t ∧ t.prot = s.prot ∧ t.adm = s.adm ∧ t.pilot = s.pilot) ∧
    (∀ (st : HuntStep) (more : List HuntStep),
      s.adm.window = none → s.hunt.outstanding = none → parseHunt s.store.images.hunt.working = st :: more →
      stationAnswers s st.station = true → keptFree s.pilot.queue .hunt = true →
      ∃ t, exec .startHunt s = .next t ∧
        t.hunt.state = .opening ∧ t.hunt.origin = some .host ∧ t.hunt.plan = some (st :: more) ∧
        t.hunt.step = 1 ∧ t.hunt.phase = some .sent ∧ t.hunt.results = [] ∧ t.hunt.openStation = none ∧
        t.hunt.startTime = some s.time ∧
        t.hunt.outstanding =
          some { kind := .openSwitch, station := st.station, inFlight := false, stale := false } ∧
        t.pilot.queue = s.pilot.queue ++ [huntEntry .openSwitch st.station] ∧
        (∀ x ∈ t.pilot.stations, x.openedByHunt = false) ∧ t.mon.recs.huntActive.active = true ∧
        Replied (okReply (.huntState .opening)) rest s t ∧ SameClock s t ∧ SameSettings s t ∧ t.prot = s.prot ∧
        t.adm = s.adm)) ∧
  (∀ (c : Command) (rest : List Command) (s : State), HeadIs .startHunt c rest s → c.payload = [] →
    ∀ r,
      (s.hunt.state ≠ .idle ∧ r = Reason.notIdle) ∨
      (s.hunt.state = .idle ∧ s.settings.huntEnabled = false ∧ r = .huntDisabled) ∨
      (s.hunt.state = .idle ∧ s.settings.huntEnabled = true ∧ usable s.store.images.hunt = false ∧
        r = .planUnfit) ∨
      (s.hunt.state = .idle ∧ s.settings.huntEnabled = true ∧ usable s.store.images.hunt = true ∧
        (s.pilot.up.stage = .closed ∨ usable s.store.images.stations = false) ∧ r = .stationsUnfit) ∨
      (s.hunt.state = .idle ∧ s.settings.huntEnabled = true ∧ usable s.store.images.hunt = true ∧
        s.pilot.up.stage ≠ .closed ∧ usable s.store.images.stations = true ∧ s.mon.huntBar = true ∧
        r = .huntBar) ∨
      (s.hunt.state = .idle ∧ s.settings.huntEnabled = true ∧ usable s.store.images.hunt = true ∧
        s.pilot.up.stage ≠ .closed ∧ usable s.store.images.stations = true ∧ s.mon.huntBar = false ∧
        s.seq.state ≠ .ready ∧ r = .sequencerNotReady) ∨
      (s.hunt.state = .idle ∧ s.settings.huntEnabled = true ∧ usable s.store.images.hunt = true ∧
        s.pilot.up.stage ≠ .closed ∧ usable s.store.images.stations = true ∧ s.mon.huntBar = false ∧
        s.seq.state = .ready ∧ s.brk.accepted ≠ .closed ∧ r = .breakerNotClosed) →
      exec .startHunt s =
        .next { s with host := s.host.afterReply (refusedFor r (.huntState s.hunt.state)) none rest })

/-- STOP_HUNT ends a running hunt ABORTED with cause STOP and the station it holds open left open; in IDLE and
SETTLING it is refused NOT_RUNNING and nothing else changes (R140, R149, R150).

SETTLING ends at a 1 ms event that finds the sequencer in LOCKOUT, with HUNT_ACTIVE not active; elsewhere it goes on
(R151).

That SETTLING is judged at the mark of a 1 ms event, that no origin is held after the end, and that a refused STOP_HUNT
carries the last-result record, are the model's choices (log entries 1, 23, 32). -/
def Obligations.StopHuntAndSettlingEnd : Prop :=
  (∀ (c : Command) (rest : List Command) (s : State), HeadIs .stopHunt c rest s → c.payload = [] →
    (s.hunt.state = .opening ∨ s.hunt.state = .dwell ∨ s.hunt.state = .restoring →
      ∃ t l, exec .stopHunt s = .next t ∧ t.hunt.state = .idle ∧ t.hunt.last = some l ∧ l.outcome = .aborted ∧
        l.cause = some (.abort .stop) ∧ l.leftOpen = s.hunt.openStation ∧ l.origin = s.hunt.origin ∧
        l.endTime = s.time ∧ l.stepsDone = s.hunt.results.length + 1 ∧
        (∃ x, t.hunt.results = s.hunt.results ++ [x] ∧ x.result = .interrupted ∧ x.number = s.hunt.step ∧
          x.station = (currentStep s).station) ∧
        t.hunt.switchTimer = none ∧ t.hunt.dwellTimer = none ∧ t.hunt.openStation = s.hunt.openStation ∧
        t.mon.recs.huntActive.active = false ∧ Replied (okReply (.huntStopped .idle (some l))) rest s t ∧
        SameClock s t ∧ SameSettings s t ∧ t.prot = s.prot ∧ t.adm = s.adm) ∧
    (s.hunt.state = .idle ∨ s.hunt.state = .settling →
      exec .stopHunt s =
        .next
          { s with
            host :=
              s.host.afterReply (refusedFor .notRunning (.huntStopped s.hunt.state s.hunt.last)) none rest })) ∧
  (∀ s : State, s.due.settle = true → s.hunt.state = .settling →
    (s.seq.state = .lockout →
      ∃ t, exec .settlingEnd s = .next t ∧ t.hunt = { s.hunt with state := .idle } ∧
        t.mon.recs.huntActive.active = false ∧ t.seq = s.seq ∧ SameClock s t ∧ SameSettings s t ∧
        t.prot = s.prot ∧ t.adm = s.adm ∧ t.pilot = s.pilot ∧ SameLine s t) ∧
    (s.seq.state ≠ .lockout → exec .settlingEnd s = .next s))

/-- A switch wait that runs out in OPENING ends the step NO_RESPONSE, and the hunt NOT_FOUND after the last step,
else the next step sends its OPEN; in RESTORING it ends the hunt ABORTED with cause RESTORE_FAILED and the station
left open and unsettled (R144, R145, R147, R149). -/
def Obligations.SwitchWaitRunsOut : Prop :=
  ∀ (s : State) (plan : List HuntStep) (w : MsTimer),
    s.hunt.switchTimer = some w → w.remaining = 0 → s.hunt.plan = some plan →
    (s.hunt.state = .opening → plan.drop s.hunt.step = [] →
      ∃ t l x, exec .switchWaitExpiry s = .next t ∧ t.hunt.state = .idle ∧ t.hunt.last = some l ∧
        l.outcome = .notFound ∧ l.cause = none ∧ l.unsettled = some (currentStep s).station ∧
        t.hunt.results = s.hunt.results ++ [x] ∧ x.result = .noResponse ∧ x.number = s.hunt.step ∧
        t.mon.recs.huntActive.active = false ∧ SameClock s t ∧ SameSettings s t ∧ t.adm = s.adm) ∧
    (∀ (st : HuntStep) (more : List HuntStep),
      s.hunt.state = .opening → plan.drop s.hunt.step = st :: more → stationAnswers s st.station = true →
      s.hunt.outstanding = none → keptFree s.pilot.queue .hunt = true →
      ∃ t x, exec .switchWaitExpiry s = .next t ∧ t.hunt.state = .opening ∧ t.hunt.step = s.hunt.step + 1 ∧
        t.hunt.phase = some .sent ∧ t.hunt.results = s.hunt.results ++ [x] ∧ x.result = .noResponse ∧
        t.pilot.queue = s.pilot.queue ++ [huntEntry .openSwitch st.station] ∧ SameClock s t ∧
        SameSettings s t ∧ t.prot = s.prot ∧ t.brk = s.brk ∧ t.seq = s.seq ∧ t.mon = s.mon ∧ t.adm = s.adm) ∧
    (s.hunt.state = .restoring →
      ∃ t l x, exec .switchWaitExpiry s = .next t ∧ t.hunt.state = .idle ∧ t.hunt.last = some l ∧
        l.outcome = .aborted ∧ l.cause = some (.abort .restoreFailed) ∧ l.leftOpen = s.hunt.openStation ∧
        l.unsettled = some (currentStep s).station ∧ t.hunt.results = s.hunt.results ++ [x] ∧
        x.result = .restoreFailed ∧ t.mon.recs.huntActive.active = false ∧ SameClock s t ∧ SameSettings s t ∧
        t.adm = s.adm)

/-- The dwell's judgement: off CLOSED the hunt ends BREAKER_NOT_CLOSED; with a record made since the opening and a
hunt clear multiple below 256 it ends FOUND with the station left open; otherwise a CLOSE is sent and the hunt is in
RESTORING (R146, R147, R149; that the time fields of a record not used stay absent is log entry 12). -/
def Obligations.DwellIsJudged : Prop :=
  ∀ (s : State) (w : MsTimer), s.hunt.dwellTimer = some w → w.remaining = 0 → s.hunt.state = .dwell →
    (s.brk.accepted ≠ .closed →
      ∃ t l x, exec .dwellExpiry s = .next t ∧ t.hunt.state = .idle ∧ t.hunt.last = some l ∧
        l.outcome = .aborted ∧ l.cause = some (.abort .breakerNotClosed) ∧ l.leftOpen = s.hunt.openStation ∧
        t.hunt.results = s.hunt.results ++ [x] ∧ x.result = .interrupted ∧
        t.mon.recs.huntActive.active = false ∧ SameClock s t ∧ SameSettings s t ∧ t.adm = s.adm) ∧
    (∀ q, s.brk.accepted = .closed → s.meas.latest.present = true →
      elapsed s.time s.meas.latest.time ≤ (currentStep s).dwell → s.meas.latest.q.huntClear = some q → q < 256 →
      ∃ t l x, exec .dwellExpiry s = .next t ∧ t.hunt.state = .idle ∧ t.hunt.last = some l ∧
        l.outcome = .found ∧ l.leftOpen = s.hunt.openStation ∧ l.unsettled = none ∧
        t.hunt.results = s.hunt.results ++ [x] ∧ x.result = .cleared ∧ x.judgedQ = some q ∧
        x.pointTime = some s.meas.latest.time ∧ t.mon.recs.huntActive.active = false ∧ SameClock s t ∧
        SameSettings s t ∧ t.adm = s.adm) ∧
    (s.brk.accepted = .closed → s.hunt.outstanding = none → keptFree s.pilot.queue .hunt = true →
      (s.meas.latest.present = false ∨ (currentStep s).dwell < elapsed s.time s.meas.latest.time ∨
        s.meas.latest.q.huntClear = none ∨ ∃ q, s.meas.latest.q.huntClear = some q ∧ 256 ≤ q) →
      ∃ t, exec .dwellExpiry s = .next t ∧ t.hunt.state = .restoring ∧ t.hunt.phase = some .sent ∧
        t.hunt.dwellTimer = none ∧ t.hunt.results = s.hunt.results ∧ t.hunt.openStation = s.hunt.openStation ∧
        t.pilot.queue = s.pilot.queue ++ [huntEntry .closeSwitch (currentStep s).station] ∧
        t.pilot.stations = s.pilot.stations ∧ SameClock s t ∧ SameSettings s t ∧ t.prot = s.prot ∧
        t.brk = s.brk ∧ t.seq = s.seq ∧ t.mon = s.mon ∧ t.adm = s.adm ∧ t.host = s.host)

/-! ## Start admission -/

/-- A whole-second boundary that admits no drive counts the second that ends, restores each LOWERED drive whose
requirement the counter has reached, and changes nothing else (R161, R162).

The drive a boundary admits is the pending one of the smallest requirement within the counter, and of the lowest
number among equals, and only with every standing requirement met (R162).

The boundary that admits a drive opens its window: the drive leaves the start queue, its request is WINDOW, the
quiet counter is 0, a GRANT of a station drive joins the down queue, and a START report GRANTED with the drive's
fields after the event is all that the boundary reports (R122, R161, R162, R163, R166).

The mark of a boundary that is due is the model's choice (log entry 1). -/
def Obligations.BoundaryCountsAndAdmits : Prop :=
  (∀ (s : State) (n : Nat),
    s.due.second = true → admittedDrive (afterRestoration (s.setDue { s.due with second := false })) = none →
    n = (match s.adm.second with
      | .quiet => min 255 (s.adm.quiet + 1)
      | .spoiled => s.adm.quiet
      | .empty => 0) →
    exec .wholeSecondBoundary s =
      .next
        { s with
          due := { s.due with second := false }
          adm :=
            { s.adm with
              quiet := n
              second := .empty
              drives :=
                if usable s.store.images.drives = true then
                  s.adm.drives.map fun d =>
                    if d.level = .lowered ∧ requirement s.plant d ≤ n then { d with level := .normal } else d
                else s.adm.drives } }) ∧
  (∀ (s : State) (d : Drive), admittedDrive s = some d →
    d ∈ s.adm.drives ∧ d.isPending = true ∧ requirement s.plant d ≤ s.adm.quiet ∧
    (∀ e ∈ s.adm.drives, e.isPending = true → requirement s.plant e ≤ s.adm.quiet →
      requirement s.plant d < requirement s.plant e ∨
      requirement s.plant d = requirement s.plant e ∧ d.drive ≤ e.drive) ∧
    usable s.store.images.drives = true ∧ s.adm.window = none ∧ s.mon.startBar = false ∧
    s.hunt.state = .idle ∧ s.settings.startsAllowed = true ∧ s.seq.state = .ready ∧ s.brk.accepted = .closed) ∧
  (∀ (s : State) (d : Drive),
    s.due.second = true →
    admittedDrive (afterRestoration (s.setDue { s.due with second := false })) = some d →
    s.adm.outstanding = none → keptFree s.pilot.queue .admission = true →
    ∃ t w, exec .wholeSecondBoundary s = .next t ∧ t.adm.window = some w ∧ w.drive = d.drive ∧
      w.station = d.station ∧ w.opened = s.time ∧ w.loaded = d.windowLength ∧ w.remaining = d.windowLength ∧
      t.adm.quiet = 0 ∧ t.adm.second = .empty ∧ d.drive ∉ t.adm.queue ∧
      (∀ n, n ≠ d.drive → (n ∈ t.adm.queue ↔ n ∈ s.adm.queue)) ∧
      (∀ x ∈ t.adm.drives, x.drive = d.drive → x.request = .window) ∧
      (d.station = 0 → w.grant = .hostDrive ∧ t.adm.outstanding = none ∧ t.pilot = s.pilot) ∧
      (d.station ≠ 0 →
        w.grant = .waiting ∧
        t.adm.outstanding =
          some { kind := .grant, drive := d.drive, station := d.station, inFlight := false, stale := false } ∧
        t.pilot =
          { s.pilot with
            queue :=
              s.pilot.queue ++ [{ msg := grantMessage d.station d.drive d.windowLength, kept := true }] }) ∧
      t.host =
        (addReport
          (.start
            { time := s.time, drive := d.drive, event := .granted, cause := none, source := none,
              level := (findDrive t d.drive).map fun x => x.level, request := some .window,
              requirement := (findDrive t d.drive).map (requirement s.plant), quiet := 0,
              window := some (d.windowLength, 0) }) s).host ∧
      t.time = s.time ∧ t.port = s.port ∧ t.meas = s.meas ∧ t.prot = s.prot ∧ SameSettings s t ∧ t.brk = s.brk ∧
      t.seq = s.seq ∧ t.mon = s.mon ∧ t.hunt = s.hunt ∧ SameLine s t)

/-- A delivered START_REQUEST of a drive's own station makes its request PENDING with its deadline, at the end of
the start queue; a request that is not NONE is left as it is (R127, R157).

The mark of a message that has ended whole, and idle looks 0 at the end of the holding, are the model's choices (log
entries 6, 45). -/
def Obligations.StartRequestBecomesPending : Prop :=
  ∀ (s : State) (a : Nat) (c : Word16) (d : Drive),
    dueMessage s = some (.startRequest, a, c) → usable s.store.images.drives = true →
    findDrive s (driveOfCell c) = some d → d.station = a → d.station ≠ 0 →
    ∃ t, exec .startRequest s = .next t ∧
      (d.request = .none →
        t.adm.queue = s.adm.queue ++ [driveOfCell c] ∧
        findDrive t (driveOfCell c) =
          some { d with request := .pending s.time (s.time + BitVec.ofNat 32 (d.lifetime * 1000)) }) ∧
      (d.request ≠ .none → t.adm = s.adm) ∧
      (∀ n, n ≠ driveOfCell c → findDrive t n = findDrive s n) ∧
      t.adm.window = s.adm.window ∧ t.adm.quiet = s.adm.quiet ∧ t.adm.outstanding = s.adm.outstanding ∧
      t.pilot.up = endHolding (usable s.store.images.stations) s.pilot.up ∧ SameClock s t ∧ SameSettings s t ∧
      t.prot = s.prot ∧ SameLine s t

/-- START_DONE and START_ABANDON from the window's station for its drive end the window, and the drive's level is
LOWERED; from another source START_DONE has no effect on the unit (R127, R159, R165).

The mark of a message that has ended whole, and idle looks 0 at the end of the holding, are the model's choices (log
entries 6, 45). -/
def Obligations.StationEndsTheWindow : Prop :=
  ∀ (s : State) (a : Nat) (c : Word16) (w : StartWindow),
    s.adm.window = some w →
    (dueMessage s = some (.startDone, a, c) →
      ∃ t, exec .startDone s = .next t ∧
        (w.station = a → w.drive = driveOfCell c →
          t.adm.window = none ∧
          ∀ d, findDrive s w.drive = some d →
            findDrive t w.drive = some { d with request := .none, level := .lowered }) ∧
        (w.station ≠ a ∨ w.drive ≠ driveOfCell c → t.adm = s.adm) ∧
        (∀ n, n ≠ w.drive → findDrive t n = findDrive s n) ∧
        t.pilot.up = endHolding (usable s.store.images.stations) s.pilot.up ∧ SameClock s t ∧
        SameSettings s t ∧ t.prot = s.prot ∧ SameLine s t) ∧
    (dueMessage s = some (.startAbandon, a, c) → w.station = a → w.drive = driveOfCell c →
      ∃ t, exec .startAbandon s = .next t ∧ t.adm.window = none ∧
        (∀ d, findDrive s w.drive = some d →
          findDrive t w.drive = some { d with request := .none, level := .lowered }) ∧
        (∀ n, n ≠ w.drive → findDrive t n = findDrive s n) ∧
        t.pilot.up = endHolding (usable s.store.images.stations) s.pilot.up ∧ SameClock s t ∧
        SameSettings s t ∧ t.prot = s.prot ∧ SameLine s t)

/-- A start window that runs out ends with its drive's request NONE and level LOWERED; a station that has its GRANT
is sent a RELEASE, and a host drive nothing (R122, R164, R165).

A pending request whose lifetime has passed since its arrival leaves the start queue with request NONE and START
EXPIRED, and nothing else changes (R159).

That a station whose GRANT was never in flight is sent no RELEASE is the model's choice (log entry 24). -/
def Obligations.WindowAndLifetimeExpire : Prop :=
  (∀ (s : State) (w : StartWindow), s.adm.window = some w → w.remaining = 0 →
    ∃ t, exec .startWindowExpiry s = .next t ∧ t.adm.window = none ∧ t.adm.quiet = s.adm.quiet ∧
      t.adm.queue = s.adm.queue ∧
      t.adm.drives =
        s.adm.drives.map (fun d =>
          if d.drive = w.drive then { d with request := .none, level := .lowered } else d) ∧
      (w.grant = .hostDrive → t.adm.outstanding = s.adm.outstanding) ∧
      (w.grant = .delivered → s.adm.outstanding = none → keptFree s.pilot.queue .admission = true →
        s.hunt.state ≠ .deferred →
        t.adm.outstanding =
          some { kind := .release, drive := w.drive, station := w.station, inFlight := false, stale := false } ∧
        t.pilot =
          { s.pilot with
            queue := s.pilot.queue ++ [{ msg := releaseMessage w.station w.drive, kept := true }] }) ∧
      SameClock s t ∧ SameSettings s t ∧ t.prot = s.prot ∧ SameLine s t) ∧
  (∀ (s : State) (d : Drive) (arrival deadline : Time),
    findDrive s d.drive = some d → d.request = .pending arrival deadline →
    (elapsed deadline arrival ≤ elapsed s.time arrival →
      ∃ h, exec (.requestLifetimeExpiry d.drive) s =
        .next
          { s with
            adm :=
              { s.adm with
                drives :=
                  s.adm.drives.map fun x => if x.drive = d.drive then { x with request := .none } else x
                queue := s.adm.queue.filter fun n => n != d.drive }
            host := h } ∧
        ∃ r, r.drive = d.drive ∧ r.event = .expired ∧ r.time = s.time ∧ r.request = some .none ∧
          h = (addReport (.start r) s).host) ∧
    (elapsed s.time arrival < elapsed deadline arrival → exec (.requestLifetimeExpiry d.drive) s = .next s))

/-- REQUEST_START of a host drive with no request makes it PENDING, creates a START report REQUESTED with source HOST,
and replies its level, requirement and the quiet counter; with a request already PENDING or WINDOW it replies
ALREADY_PENDING and nothing changes (R158, R166).

CANCEL_START takes a pending request back with level kept and a START report WITHDRAWN, cause CANCELLED; it ends the
window of its drive with level LOWERED, a START report ENDED, cause CANCELLED, and a RELEASE to a station that has its
GRANT; it refuses a drive whose request is NONE (R159, R164, R165, R166).

The place of a command at the head of its queue, the coding of the reply, the time open in the report ENDED, and what
an ALREADY_PENDING or a refused reply carries are the model's choices (log entries 13, 17, 26, 32). -/
def Obligations.HostRequestsAndCancels : Prop :=
  ∀ (c : Command) (rest : List Command) (n : Byte) (d : Drive) (s : State),
    c.payload = [n] → n.toNat ≤ 7 → findDrive s n.toNat = some d →
    (HeadIs .requestStart c rest s → usable s.store.images.drives = true → d.station = 0 → d.request = .none →
      ∃ t, exec .requestStart s = .next t ∧
        t.adm =
          { s.adm with
            drives :=
              s.adm.drives.map fun x =>
                if x.drive = n.toNat then
                  { x with request := .pending s.time (s.time + BitVec.ofNat 32 (x.lifetime * 1000)) }
                else x
            queue := s.adm.queue ++ [n.toNat] } ∧
        Replied (okReply (.startPending false d.level (requirement s.plant d) s.adm.quiet)) rest s t ∧
        t.host.reports =
          (addReport
            (.start
              { time := s.time, drive := n.toNat, event := .requested, cause := none, source := some 0,
                level := some d.level,
                request := some (.pending s.time (s.time + BitVec.ofNat 32 (d.lifetime * 1000))),
                requirement := some (requirement s.plant d), quiet := s.adm.quiet, window := none })
            s).host.reports ∧
        SameClock s t ∧ SameSettings s t ∧ t.prot = s.prot ∧ t.brk = s.brk ∧ t.seq = s.seq ∧ t.mon = s.mon ∧
        t.pilot = s.pilot ∧ t.hunt = s.hunt) ∧
    (HeadIs .requestStart c rest s → usable s.store.images.drives = true → d.station = 0 → d.request ≠ .none →
      exec .requestStart s =
        .next
          { s with
            host :=
              s.host.afterReply (okReply (.startPending true d.level (requirement s.plant d) s.adm.quiet)) none
                rest }) ∧
    (∀ w, HeadIs .cancelStart c rest s → d.request = .window → s.adm.window = some w → w.drive = n.toNat →
      ∃ t, exec .cancelStart s = .next t ∧ t.adm.window = none ∧ t.adm.quiet = s.adm.quiet ∧
        t.adm.queue = s.adm.queue ∧
        t.adm.drives =
          s.adm.drives.map (fun x => if x.drive = n.toNat then { x with request := .none, level := .lowered } else x) ∧
        Replied (okReply (.startCancelled .none .lowered)) rest s t ∧
        (w.grant = .delivered → s.adm.outstanding = none → keptFree s.pilot.queue .admission = true →
          s.hunt.state ≠ .deferred →
          t.adm.outstanding =
            some { kind := .release, drive := w.drive, station := w.station, inFlight := false, stale := false } ∧
          t.pilot =
            { s.pilot with
              queue := s.pilot.queue ++ [{ msg := releaseMessage w.station w.drive, kept := true }] }) ∧
        (w.grant ≠ .delivered ∨ s.adm.outstanding = none ∧ keptFree s.pilot.queue .admission = true →
          s.hunt.state ≠ .deferred →
          t.host.reports =
            (addReport
              (.start
                { time := s.time, drive := n.toNat, event := .ended, cause := some .cancelled, source := none,
                  level := some .lowered, request := some .none,
                  requirement := some (requirement s.plant { d with level := .lowered }), quiet := s.adm.quiet,
                  window := some (w.loaded, elapsed s.time w.opened) })
              s).host.reports) ∧
        SameClock s t ∧ SameSettings s t ∧ t.prot = s.prot) ∧
    (∀ arrival deadline, HeadIs .cancelStart c rest s → d.request = .pending arrival deadline →
      ∃ t, exec .cancelStart s = .next t ∧
        t.adm =
          { s.adm with
            drives := s.adm.drives.map fun x => if x.drive = n.toNat then { x with request := .none } else x
            queue := s.adm.queue.filter fun k => k != n.toNat } ∧
        Replied (okReply (.startCancelled .none d.level)) rest s t ∧
        t.host.reports =
          (addReport
            (.start
              { time := s.time, drive := n.toNat, event := .withdrawn, cause := some .cancelled, source := none,
                level := some d.level, request := some .none, requirement := some (requirement s.plant d),
                quiet := s.adm.quiet, window := none })
            s).host.reports ∧
        SameClock s t ∧ SameSettings s t ∧ t.prot = s.prot ∧ t.brk = s.brk ∧ t.seq = s.seq ∧ t.mon = s.mon ∧
        t.pilot = s.pilot ∧ t.hunt = s.hunt) ∧
    (HeadIs .cancelStart c rest s → d.request = .none →
      exec .cancelStart s =
        .next { s with host := s.host.afterReply (refusedFor .notPending (.startCancelled .none d.level)) none rest })

/-! ## Manual operations and permits -/

/-- TRIP with the breaker not OPEN and TRIP_OUT released asserts TRIP_OUT with origin MANUAL and takes READY,
CLOSING and RECLAIM to OPENING with a last trip record that is not eligible, ending an open start window (R68, R95,
R165).

The place of a command at the head of its queue, the coding of the reply, and the time and group of the last trip
record are the model's choices (log entries 13, 17, 47). -/
def Obligations.TripCommandOpens : Prop :=
  ∀ (c : Command) (rest : List Command) (s : State),
    HeadIs .trip c rest s → c.payload = [] → s.brk.accepted ≠ .opened → s.brk.tripOut = false →
    s.seq.state = .ready ∨ s.seq.state = .closing ∨ s.seq.state = .reclaim →
    ∃ t, exec .trip s = .next t ∧ t.brk.tripOut = true ∧ t.brk.closeOut = false ∧
      t.brk.tripMemo = some { origin := .manual, time := s.time } ∧ t.brk.tripTimer = some s.plant.tripTimeout ∧
      t.brk.accepted = s.brk.accepted ∧ t.seq.state = .opening ∧ t.seq.shots = s.seq.shots ∧
      t.seq.lastTrip =
        some { origin := .manual, eligible := false, time := s.time, group := s.regime.active } ∧
      t.seq.loaded = none ∧ t.seq.remaining = none ∧ t.seq.closeOrigin = none ∧
      (s.seq.state = .ready → t.adm.window = none) ∧
      Replied (okReply (.tripResult .asserted .opening)) rest s t ∧ SameClock s t ∧ SameSettings s t ∧
      t.prot = s.prot

/-- CLOSE with every guard passed asserts CLOSE_OUT with origin MANUAL and enters CLOSING with shots done 4. With no
start window open, as R162 and R165 have it on an OPEN breaker, nothing else changes but the reply and the SEQUENCE
report MANUAL_CLOSE (R71, R75, R96, R99). That a hold is no longer held is the model's choice (log entry 21).

CLOSE is refused by the first guard that fails, in the order STATE, NOT_OPEN, HARD_BLOCK, HOLD, MECHANISM_NOT_READY,
and nothing else changes (R96, R175).

The place of a command at the head of its queue, and the coding and the content of a refusal, are the model's choices
(log entries 13, 17, 32). -/
def Obligations.CloseCommandIsJudged : Prop :=
  (∀ (c : Command) (rest : List Command) (s : State),
    HeadIs .close c rest s → c.payload = [] → MonitorConsistent s → s.seq.state = .ready ∨ s.seq.state = .lockout →
    s.brk.accepted = .opened → s.mon.hard = [] → s.mon.hold = [] → s.brk.ready = .active → s.brk.tripOut = false →
    s.brk.closeOut = false →
    ∃ t, exec .close s = .next t ∧
      t.brk =
        { s.brk with
          closeOut := true
          closeMemo := some { origin := .manual, time := s.time }
          closeTimer := some s.plant.closeTimeout } ∧
      t.seq =
        { s.seq with
          state := .closing, shots := 4, loaded := none, remaining := none, held := false,
          closeOrigin := some .manual, closeWithdrawn := false, cause := none } ∧
      (s.adm.window = none →
        ∃ r,
          r = { time := s.time, previous := s.seq.state, state := .closing, event := .manualClose, shots := 4,
                loaded := none, cause := none, breaker := .opened, origin := none, group := s.regime.active,
                revision := s.settings.revision } ∧
          t = { s with
                brk := t.brk
                seq := t.seq
                host :=
                  (addReport (.sequence r) s).host.afterReply (okReply (.seqState .closing)) none rest }) ∧
      Replied (okReply (.seqState .closing)) rest s t ∧ SameClock s t ∧ SameSettings s t ∧ t.prot = s.prot) ∧
  (∀ (c : Command) (rest : List Command) (s : State), HeadIs .close c rest s → c.payload = [] →
    ∀ r,
      (s.seq.state ≠ .ready ∧ s.seq.state ≠ .lockout ∧ r = refusedFor .state (.seqState s.seq.state)) ∨
      ((s.seq.state = .ready ∨ s.seq.state = .lockout) ∧ s.brk.accepted ≠ .opened ∧
        r = refusedFor .notOpen (.seqState s.seq.state)) ∨
      (∃ x l, (s.seq.state = .ready ∨ s.seq.state = .lockout) ∧ s.brk.accepted = .opened ∧ s.mon.hard = x :: l ∧
        r = refusedBy .hardBlock x (.seqState s.seq.state)) ∨
      (∃ x l, (s.seq.state = .ready ∨ s.seq.state = .lockout) ∧ s.brk.accepted = .opened ∧ s.mon.hard = [] ∧
        s.mon.hold = x :: l ∧ r = refusedBy .hold x (.seqState s.seq.state)) ∨
      ((s.seq.state = .ready ∨ s.seq.state = .lockout) ∧ s.brk.accepted = .opened ∧ s.mon.hard = [] ∧
        s.mon.hold = [] ∧ s.brk.ready ≠ .active ∧
        r = refusedFor .mechanismNotReady (.seqState s.seq.state)) →
      exec .close s = .next { s with host := s.host.afterReply r none rest })

/-- RESET_LOCKOUT clears CLOSE_FAIL whatever follows; in LOCKOUT with a position accepted and no hard reason left it
enters READY with shots done 0, and otherwise it is refused with the first reason that holds (R74, R97).

Where CLOSE_FAIL was active it is cleared first and the block set that is left is judged: in LIVE mode it is no
longer among the hard reasons, and in STICKY mode its latch keeps the set as it was, so a CLOSE_FAIL that is a hard
reason refuses with HARD_BLOCK (R74, R97, R103, R106).

The place of a command at the head of its queue, and the coding and the content of a refusal, are the model's choices
(log entries 13, 17, 32). -/
def Obligations.ResetLockoutIsJudged : Prop :=
  ∀ (c : Command) (rest : List Command) (s : State), HeadIs .resetLockout c rest s → c.payload = [] →
    ∃ t, exec .resetLockout s = .next t ∧ t.mon.recs.closeFail.active = false ∧ SameClock s t ∧ SameSettings s t ∧
      t.prot = s.prot ∧ t.adm = s.adm ∧
      (s.mon.recs.closeFail.active = false → t.brk = s.brk ∧ t.mon = s.mon ∧ t.hunt = s.hunt ∧ t.pilot = s.pilot) ∧
      (s.mon.recs.closeFail.active = false → s.seq.state = .lockout → s.seq.posAwaited = false → s.mon.hard = [] →
        t.seq =
          { s.seq with state := .ready, shots := 0, loaded := none, remaining := none, cause := none } ∧
        Replied (okReply (.lockoutReset .ready [])) rest s t) ∧
      (s.mon.recs.closeFail.active = false → s.seq.state ≠ .lockout →
        t.seq = s.seq ∧ Replied (refusedFor .notInLockout (.lockoutReset s.seq.state s.mon.hard)) rest s t) ∧
      (s.mon.recs.closeFail.active = false → s.seq.state = .lockout → s.seq.posAwaited = true →
        t.seq = s.seq ∧ Replied (refusedFor .noPosition (.lockoutReset .lockout s.mon.hard)) rest s t) ∧
      (∀ x l, s.mon.recs.closeFail.active = false → s.seq.state = .lockout → s.seq.posAwaited = false →
        s.mon.hard = x :: l →
        t.seq = s.seq ∧ Replied (refusedBy .hardBlock x (.lockoutReset .lockout s.mon.hard)) rest s t) ∧
      (s.mon.recs.closeFail.active = true → MonitorConsistent s →
        (s.mon.recs.closeFail.mode = .live → t.mon.hard = s.mon.hard.filter fun d => d != .closeFail) ∧
        (s.mon.recs.closeFail.mode = .sticky → s.mon.recs.closeFail.latched = true →
          t.mon.hard = s.mon.hard ∧ t.mon.hold = s.mon.hold) ∧
        (s.seq.state = .lockout → s.seq.posAwaited = false → t.mon.hard = [] →
          t.seq =
            { s.seq with state := .ready, shots := 0, loaded := none, remaining := none, cause := none } ∧
          Replied (okReply (.lockoutReset .ready [])) rest s t) ∧
        (∀ x l, s.seq.state = .lockout → s.seq.posAwaited = false → t.mon.hard = x :: l →
          t.seq = s.seq ∧ Replied (refusedBy .hardBlock x (.lockoutReset .lockout t.mon.hard)) rest s t) ∧
        (s.seq.state = .lockout → s.seq.posAwaited = true →
          t.seq = s.seq ∧ Replied (refusedFor .noPosition (.lockoutReset .lockout t.mon.hard)) rest s t) ∧
        (s.seq.state ≠ .lockout →
          t.seq.state = s.seq.state ∧
          Replied (refusedFor .notInLockout (.lockoutReset s.seq.state t.mon.hard)) rest s t))

/-- SET_PERMIT sets LIVE_LINE or HOST_HOLD active or not and replies the record's fields; every other owner's
condition but HUNT_ACTIVE keeps its active state; another permit or state is refused with BAD_ARGUMENT (R102, R111).

The field number of a refusal is the model's choice (log entry 33). -/
def Obligations.SetPermitSetsItsCondition : Prop :=
  ∀ (c : Command) (rest : List Command) (p v : Byte) (s : State),
    HeadIs .setPermit c rest s → c.payload = [p, v] →
    (∀ k, (p = 1 ∧ k = Cond.liveLine ∨ p = 2 ∧ k = Cond.hostHold) → v = 0 ∨ v = 1 →
      ∃ t, exec .setPermit s = .next t ∧ (t.mon.recs.get k).active = decide (v = 1) ∧
        (∀ d, d ≠ k → d ≠ .huntActive → (t.mon.recs.get d).active = (s.mon.recs.get d).active) ∧
        Replied
          (okReply
            (.permit (t.mon.recs.get k).active (t.mon.recs.get k).latched (t.mon.recs.get k).inForce t.mon.hard
              t.mon.hold))
          rest s t ∧
        ((s.mon.recs.get k).active = decide (v = 1) → t = { s with host := t.host }) ∧ SameClock s t ∧
        SameSettings s t ∧ t.prot = s.prot ∧ t.adm = s.adm) ∧
    (p ≠ 1 → p ≠ 2 → exec .setPermit s = .next { s with host := s.host.afterReply (badArgument 1) none rest }) ∧
    (p = 1 ∨ p = 2 → 1 < v.toNat →
      exec .setPermit s = .next { s with host := s.host.afterReply (badArgument 2) none rest })

/-- ACK_CONDITIONS clears the latch of each named condition that is not active and leaves every other record and
active field as it is; sets, bars and pin follow; a number above 12 is refused and changes no record (R106, R110).

The field number of a refusal is the model's choice (log entry 33). -/
def Obligations.AcknowledgementClearsLatches : Prop :=
  ∀ (c : Command) (rest : List Command) (hi lo : Byte) (n : Nat) (s : State),
    HeadIs .ackConditions c rest s → c.payload = [hi, lo] → n = hi.toNat * 256 + lo.toNat →
    (n < 4096 → MonitorConsistent s →
      ∃ t, exec .ackConditions s = .next t ∧ MonitorConsistent t ∧
        (∀ d, t.mon.recs.get d =
          if n.testBit (d.number - 1) = true ∧ (s.mon.recs.get d).active = false then
            { s.mon.recs.get d with latched := false }
          else s.mon.recs.get d) ∧
        Replied
          (okReply
            (.acknowledged (Cond.all.filter fun d => n.testBit (d.number - 1) && !(s.mon.recs.get d).active)
              (Cond.all.filter fun d => n.testBit (d.number - 1) && (s.mon.recs.get d).active) t.mon.hard
              t.mon.hold))
          rest s t ∧
        SameClock s t ∧ SameSettings s t ∧ t.prot = s.prot ∧ t.brk = s.brk ∧ t.hunt = s.hunt ∧ t.pilot = s.pilot ∧
        t.adm = s.adm) ∧
    (4096 ≤ n → exec .ackConditions s = .next { s with host := s.host.afterReply (badArgument 1) none rest })

/-! ## Record interface -/

/-- The reading commands change no state apart from the reply they fill: ECHO the complements of at most 247 bytes,
READ_MEASURE the latest record with the protection state, READ_STATUS the section its byte selects, READ_IMAGE the
directory record with the working copy of a present image (R39, R174).

What a reply carries is kept as a record, not as bytes, by the model's choice (log entries 13, 17). -/
def Obligations.ReadingCommandsOnlyReply : Prop :=
  ∀ (c : Command) (rest : List Command) (s : State),
    (HeadIs .echo c rest s →
      exec .echo s =
        .next
          { s with
            host :=
              s.host.afterReply (okReply (.bytes ((c.payload.take 247).map fun b => ~~~b))) none rest }) ∧
    (HeadIs .readMeasure c rest s → c.payload = [] →
      exec .readMeasure s =
        .next { s with host := s.host.afterReply (okReply (.measure s.meas.latest s.prot)) none rest }) ∧
    (∀ n b, HeadIs .readStatus c rest s → c.payload = [n] →
      ((n = 1 ∧ b = ReplyBody.system (systemStatus s)) ∨ (n = 2 ∧ b = .conditions (conditionStatus s)) ∨
        (n = 3 ∧ b = .images (imageStatus s)) ∨ (n = 4 ∧ b = .stations (stationStatus s)) ∨
        (n = 5 ∧ b = .hunt (huntStatus s)) ∨ (n = 6 ∧ b = .admission (admissionStatus s))) →
      exec .readStatus s = .next { s with host := s.host.afterReply (okReply b) none rest }) ∧
    (∀ n, HeadIs .readStatus c rest s → c.payload = [n] → n = 0 ∨ 6 < n.toNat →
      exec .readStatus s = .next { s with host := s.host.afterReply (badArgument 1) none rest }) ∧
    (∀ k i id, HeadIs .readImage c rest s → c.payload = [k, i] → ImageId.ofKindIndex k.toNat i.toNat = some id →
      (id = .plant → usable s.store.images.plant = true) →
      exec .readImage s =
        .next
          { s with
            host :=
              s.host.afterReply
                (okReply
                  (.image (dirRecord s.store.images id)
                    (if (s.store.images.get id).present then some (s.store.images.get id).working else none)
                    none))
                none rest })

/-- SET_REPORT_MASK replaces the mask, bits 0 and 10 taken as set and bits 11 to 15 ignored, replies it, and changes
nothing else (R173).

A new report of an enabled kind joins the end of the report queue; at 32 it is dropped with the overrun flag set,
one more lost and the time of the first loss kept; a report of a masked kind leaves no trace (R172, R173). -/
def Obligations.ReportsAreMaskedAndPlaced : Prop :=
  (∀ (c : Command) (rest : List Command) (hi lo : Byte) (m : Word16) (s : State),
    HeadIs .setReportMask c rest s → c.payload = [hi, lo] → m = (hi ++ lo : BitVec 16) &&& 0x07FF ||| 0x0401 →
    exec .setReportMask s =
      .next { s with host := { s.host.afterReply (okReply (.mask m)) none rest with mask := m } }) ∧
  (∀ (r : Report) (s : State),
    (s.host.mask.getLsbD (reportBit r) = false → addReport r s = s) ∧
    (s.host.mask.getLsbD (reportBit r) = true → s.host.reports.length < 32 →
      addReport r s = { s with host := { s.host with reports := s.host.reports ++ [r] } }) ∧
    (s.host.mask.getLsbD (reportBit r) = true → 32 ≤ s.host.reports.length →
      addReport r s =
        { s with
          host :=
            { s.host with
              overrun := true
              lostReports := min 65535 (s.host.lostReports + 1)
              firstLoss := if s.host.overrun then s.host.firstLoss else s.time } }))

/-- A command whose payload has the wrong length for its kind is refused at execution with BAD_ARGUMENT and field 0,
before its owner sees it (R170). That a row whose command is not at the head of the queue does nothing, that
RESTART_LINK's row takes a RESTART of the wrong length, and that LOAD_IMAGE has 2 bytes at least, are the model's
choices (log entries 13, 20).

RESTART LINK and RESTART FULL reply OK and hold back further commands until that reply is sent; RESTART FULL is
refused with OUTPUT_ACTIVE while a coil output is asserted (R176, R177). -/
def Obligations.CommandsAreExecutedInTurn : Prop :=
  (∀ (k : CommandKind) (s : State),
    (∀ c rest, HeadIs k c rest s → payloadLengthOk k c.payload.length = false →
      exec (rowOf k) s = .next { s with host := s.host.afterReply (badArgument 0) none rest }) ∧
    ((∀ c rest, s.host.commands = c :: rest → c.kind.toNat ≠ commandCode k ∨ s.host.restart ≠ .none) →
      exec (rowOf k) s = .next s)) ∧
  (∀ (c : Command) (rest : List Command) (s : State), HeadIs .restart c rest s →
    (c.payload = [1] →
      exec .restartLink s =
        .next { s with host := { s.host.afterReply (okReply .empty) (some .link) rest with restart := .link } }) ∧
    (c.payload = [2] → s.brk.tripOut = false → s.brk.closeOut = false →
      exec .restartFull s =
        .next { s with host := { s.host.afterReply (okReply .empty) (some .full) rest with restart := .full } }) ∧
    (c.payload = [2] → s.brk.tripOut = true ∨ s.brk.closeOut = true →
      exec .restartFull s =
        .next { s with host := s.host.afterReply (refusedFor .outputActive .empty) none rest }))

/-- A record of KIND, TAG, up to 248 payload bytes and two CHECK bytes, received byte by byte after SYNC and LENGTH,
arrives whole and leaves the parser in SYNC_WAIT, with nothing else changed (R168).

In SYNC_WAIT a byte other than 0xC3 is discarded, a LENGTH above 248 discards the record, and a partial record that
has waited 3 ms is discarded; a parser in SYNC_WAIT is not timed (R168). -/
def Obligations.BytesAssembleARecord : Prop :=
  (∀ (s : State) (kind tag hi lo : Byte) (payload : List Byte),
    s.host.parser.stage = .syncWait → payload.length ≤ 248 →
    ∃ p, p.stage = ParserStage.syncWait ∧
      receiveBytes ([0xC3, BitVec.ofNat 8 payload.length, kind, tag] ++ payload ++ [hi, lo]) s =
        .next
          { s with
            host :=
              { s.host with
                parser := p
                arrived :=
                  s.host.arrived ++
                    [{ length := BitVec.ofNat 8 payload.length, kind := kind, tag := tag, payload := payload,
                       check := hi ++ lo }] } }) ∧
  (∀ (s : State) (b : Byte),
    (s.host.parser.stage = .syncWait → b ≠ 0xC3 →
      ∃ p, p.stage = ParserStage.syncWait ∧
        exec (.hostByteReceived b) s = .next { s with host := { s.host with parser := p } }) ∧
    (s.host.parser.stage = .length → 248 < b.toNat →
      ∃ p, p.stage = ParserStage.syncWait ∧
        exec (.hostByteReceived b) s = .next { s with host := { s.host with parser := p } }) ∧
    (s.host.parser.stage ≠ .syncWait → 3 ≤ elapsed s.time s.host.parser.lastByte →
      ∃ p, p.stage = ParserStage.syncWait ∧
        exec .receiveTimeout s = .next { s with host := { s.host with parser := p } }) ∧
    (s.host.parser.stage = .syncWait ∨ elapsed s.time s.host.parser.lastByte < 3 →
      exec .receiveTimeout s = .next s))

/-- An arrived record is judged in the order: no free reply place, CHECK, KIND, command queue full; otherwise it
takes an unfilled place and its command joins the queue (R169). -/
def Obligations.RecordsAreJudgedInOrder : Prop :=
  ∀ (s : State) (r : HostRecord) (more : List HostRecord), s.host.arrived = r :: more →
    ∃ h, exec .hostRecordArrival s = .next { s with host := h } ∧
      (8 ≤ s.host.replies.length →
        h = { s.host with arrived := more, lostRecords := min 255 (s.host.lostRecords + 1) }) ∧
      (s.host.replies.length < 8 → r.check ≠ crc16 (r.length :: r.kind :: r.tag :: r.payload) →
        h = { s.host with
              arrived := more
              replies := s.host.replies ++ [filledPlace nakKind r.tag ⟨none, .empty⟩] }) ∧
      (s.host.replies.length < 8 → r.check = crc16 (r.length :: r.kind :: r.tag :: r.payload) →
        r.kind = 0 ∨ 0x14 < r.kind.toNat →
        h = { s.host with
              arrived := more
              replies := s.host.replies ++ [filledPlace badKindKind r.tag ⟨some .badKind, .kind r.kind⟩] }) ∧
      (s.host.replies.length < 8 → r.check = crc16 (r.length :: r.kind :: r.tag :: r.payload) →
        1 ≤ r.kind.toNat → r.kind.toNat ≤ 0x14 → 4 ≤ s.host.commands.length →
        h = { s.host with
              arrived := more
              replies :=
                s.host.replies ++ [filledPlace (0x40 + r.kind.toNat) r.tag ⟨some .queueFull, .empty⟩] }) ∧
      (s.host.replies.length < 8 → r.check = crc16 (r.length :: r.kind :: r.tag :: r.payload) →
        1 ≤ r.kind.toNat → r.kind.toNat ≤ 0x14 → s.host.commands.length < 4 →
        h = { s.host with
              arrived := more
              replies :=
                s.host.replies ++
                  [{ kind := 0x40 + r.kind.toNat, tag := r.tag, reply := none, restart := none }]
              commands := s.host.commands ++ [{ kind := r.kind, tag := r.tag, payload := r.payload }] })

/-- An idle line sends the oldest reply place once it is filled, nothing while it is unfilled, and a report only
with no reply place; a report leaves its queue at once, and an OVERRUN report takes its place while the overrun flag
is set (R171, R172).

The end of a transmission frees the line and, for a reply, its place; the end of RESTART LINK's reply resets the
record interface alone, and that of RESTART FULL's sets the full restart going (R171, R176, R177). -/
def Obligations.TransmitterSendsInOrder : Prop :=
  (∀ s : State, s.host.tx = .idle →
    (∀ p more, s.host.replies = p :: more →
      (p.reply.isSome = true → exec .transmissionStart s = .next { s with host := { s.host with tx := .reply p } }) ∧
      (p.reply = none → exec .transmissionStart s = .next s)) ∧
    (∀ r more, s.host.replies = [] → s.host.reports = r :: more →
      (s.host.overrun = false →
        exec .transmissionStart s =
          .next { s with host := { s.host with tx := .report r, reports := more } }) ∧
      (s.host.overrun = true →
        exec .transmissionStart s =
          .next
            { s with
              host :=
                { s.host with
                  tx := .report r
                  reports :=
                    more ++
                      [.overrun { time := s.time, lost := s.host.lostReports, firstLoss := s.host.firstLoss }]
                  overrun := false
                  lostReports := 0 } })) ∧
    (s.host.replies = [] → s.host.reports = [] → exec .transmissionStart s = .next s)) ∧
  (∀ s : State,
    (∀ r, s.host.tx = .report r →
      exec .transmissionEnd s = .next { s with host := { s.host with tx := .idle } }) ∧
    (∀ p more, s.host.tx = .reply p → s.host.replies = p :: more →
      (p.restart = none →
        exec .transmissionEnd s = .next { s with host := { s.host with tx := .idle, replies := more } }) ∧
      (p.restart = some .full →
        exec .transmissionEnd s =
          .next { s with host := { s.host with tx := .idle, replies := more, restart := .fullSent } }) ∧
      (p.restart = some .link →
        ∃ h, exec .transmissionEnd s = .next { s with host := h } ∧ h.parser.stage = .syncWait ∧
          h.commands = [] ∧ h.replies = [] ∧ h.reports = [] ∧ h.overrun = false ∧ h.lostReports = 0 ∧
          h.lostRecords = 0 ∧ h.mask = 0x07FF ∧ h.lineRate = s.host.lineRate ∧ h.tx = .idle ∧
          h.restart = .none)))

/-! ## Invariants -/

/-- Every step keeps the windows within their fill and every S the exact sum of squares of its window (R6, R7).

Every step keeps each accumulator within 0 to 1,048,576 and each count within 0 to 65535 (R20, R23). -/
def Obligations.StepKeepsMeasurementAndProtection : Prop :=
  (∀ s t : State, MeasurementExact s → step s = .next t → MeasurementExact t) ∧
  (∀ s t : State, ProtectionBounded s → step s = .next t → ProtectionBounded t)

/-- Every step keeps the rank of the group in force at or above the effective level (R62).

Every step keeps the candidate and the pending group those that the settings give (R58, R61). -/
def Obligations.StepKeepsTheRegimeCurrent : Prop :=
  (∀ s t : State, RankCovers s → step s = .next t → RankCovers t) ∧
  (∀ s t : State, CandidateCurrent s → step s = .next t → CandidateCurrent t)

/-- Every step keeps the block set, the bars and the pin those of the conditions in force (R106, R108, R109).

Every step keeps the coil outputs apart and CLOSE_OUT off while a hard reason stands (R68 to R73). -/
def Obligations.StepKeepsTheCoilInterlock : Prop :=
  (∀ s t : State, MonitorConsistent s → step s = .next t → MonitorConsistent t) ∧
  (∀ s t : State, MonitorConsistent s → CoilInterlock s → step s = .next t → CoilInterlock t)

/-- Every step keeps each owned condition active exactly while its owner's state says so (R27, R50, R56, R63, R67,
R134, R140). -/
def Obligations.StepKeepsConditionsWithOwners : Prop :=
  ∀ s t : State, OwnersHold s → step s = .next t → OwnersHold t

/-- Every step keeps the sequencer record in the shape of its state (R98, R101). That held, the close origin and the
withdrawal of a close stand in their own state alone is the model's choice (log entry 21).

No step leaves a start window open outside READY, off a CLOSED breaker or beside a running hunt (R162, R165). -/
def Obligations.StepKeepsSequencerAndWindow : Prop :=
  (∀ s t : State, SequencerShape s → step s = .next t → SequencerShape t) ∧
  (∀ s t : State, WindowGuarded s → step s = .next t → WindowGuarded t)

/-- Every step keeps at most one hunt message in the queue and on the channel (R122, R148). -/
def Obligations.StepKeepsOneHuntMessage : Prop :=
  ∀ s t : State, HuntMessageTracked s → step s = .next t → HuntMessageTracked t

/-- Every step keeps the drive records, the start queue and the start window in agreement (R157, R163, R165). -/
def Obligations.StepKeepsAdmissionInAgreement : Prop :=
  ∀ s t : State, AdmissionAgrees s → step s = .next t → AdmissionAgrees t

/-- Every step keeps the three queues of the record interface within their sizes, and the unfilled reply places
those of the waiting commands in their order (R169, R170, R171, R172). -/
def Obligations.StepKeepsTheQueuesInAgreement : Prop :=
  ∀ s t : State, QueuesAgree s → step s = .next t → QueuesAgree t
end

