-- ==== Sys2Proof/Laws/State.lean ====
section
/-! SUPPORT. One lemma per field per update of State, each true by `rfl`, so that no later proof unfolds a
record update. -/

namespace Sys2Proof.Machine

@[simp] theorem State.setTime_time (s : State) (v : Time) : (s.setTime v).time = v := rfl
@[simp] theorem State.setTime_due (s : State) (v : Time) : (s.setTime v).due = s.due := rfl
@[simp] theorem State.setTime_port (s : State) (v : Time) : (s.setTime v).port = s.port := rfl
@[simp] theorem State.setTime_meas (s : State) (v : Time) : (s.setTime v).meas = s.meas := rfl
@[simp] theorem State.setTime_prot (s : State) (v : Time) : (s.setTime v).prot = s.prot := rfl
@[simp] theorem State.setTime_store (s : State) (v : Time) : (s.setTime v).store = s.store := rfl
@[simp] theorem State.setTime_regime (s : State) (v : Time) : (s.setTime v).regime = s.regime := rfl
@[simp] theorem State.setTime_brk (s : State) (v : Time) : (s.setTime v).brk = s.brk := rfl
@[simp] theorem State.setTime_seq (s : State) (v : Time) : (s.setTime v).seq = s.seq := rfl
@[simp] theorem State.setTime_mon (s : State) (v : Time) : (s.setTime v).mon = s.mon := rfl
@[simp] theorem State.setTime_pilot (s : State) (v : Time) : (s.setTime v).pilot = s.pilot := rfl
@[simp] theorem State.setTime_hunt (s : State) (v : Time) : (s.setTime v).hunt = s.hunt := rfl
@[simp] theorem State.setTime_adm (s : State) (v : Time) : (s.setTime v).adm = s.adm := rfl
@[simp] theorem State.setTime_host (s : State) (v : Time) : (s.setTime v).host = s.host := rfl
@[simp] theorem State.setTime_resetLow (s : State) (v : Time) : (s.setTime v).resetLow = s.resetLow := rfl
@[simp] theorem State.setTime_freeIx (s : State) (v : Time) : (s.setTime v).freeIx = s.freeIx := rfl
@[simp] theorem State.setTime_pending (s : State) (v : Time) : (s.setTime v).pending = s.pending := rfl

@[simp] theorem State.setDue_time (s : State) (v : Due) : (s.setDue v).time = s.time := rfl
@[simp] theorem State.setDue_due (s : State) (v : Due) : (s.setDue v).due = v := rfl
@[simp] theorem State.setDue_port (s : State) (v : Due) : (s.setDue v).port = s.port := rfl
@[simp] theorem State.setDue_meas (s : State) (v : Due) : (s.setDue v).meas = s.meas := rfl
@[simp] theorem State.setDue_prot (s : State) (v : Due) : (s.setDue v).prot = s.prot := rfl
@[simp] theorem State.setDue_store (s : State) (v : Due) : (s.setDue v).store = s.store := rfl
@[simp] theorem State.setDue_regime (s : State) (v : Due) : (s.setDue v).regime = s.regime := rfl
@[simp] theorem State.setDue_brk (s : State) (v : Due) : (s.setDue v).brk = s.brk := rfl
@[simp] theorem State.setDue_seq (s : State) (v : Due) : (s.setDue v).seq = s.seq := rfl
@[simp] theorem State.setDue_mon (s : State) (v : Due) : (s.setDue v).mon = s.mon := rfl
@[simp] theorem State.setDue_pilot (s : State) (v : Due) : (s.setDue v).pilot = s.pilot := rfl
@[simp] theorem State.setDue_hunt (s : State) (v : Due) : (s.setDue v).hunt = s.hunt := rfl
@[simp] theorem State.setDue_adm (s : State) (v : Due) : (s.setDue v).adm = s.adm := rfl
@[simp] theorem State.setDue_host (s : State) (v : Due) : (s.setDue v).host = s.host := rfl
@[simp] theorem State.setDue_resetLow (s : State) (v : Due) : (s.setDue v).resetLow = s.resetLow := rfl
@[simp] theorem State.setDue_freeIx (s : State) (v : Due) : (s.setDue v).freeIx = s.freeIx := rfl
@[simp] theorem State.setDue_pending (s : State) (v : Due) : (s.setDue v).pending = s.pending := rfl

@[simp] theorem State.setPort_time (s : State) (v : SamplePort) : (s.setPort v).time = s.time := rfl
@[simp] theorem State.setPort_due (s : State) (v : SamplePort) : (s.setPort v).due = s.due := rfl
@[simp] theorem State.setPort_port (s : State) (v : SamplePort) : (s.setPort v).port = v := rfl
@[simp] theorem State.setPort_meas (s : State) (v : SamplePort) : (s.setPort v).meas = s.meas := rfl
@[simp] theorem State.setPort_prot (s : State) (v : SamplePort) : (s.setPort v).prot = s.prot := rfl
@[simp] theorem State.setPort_store (s : State) (v : SamplePort) : (s.setPort v).store = s.store := rfl
@[simp] theorem State.setPort_regime (s : State) (v : SamplePort) : (s.setPort v).regime = s.regime := rfl
@[simp] theorem State.setPort_brk (s : State) (v : SamplePort) : (s.setPort v).brk = s.brk := rfl
@[simp] theorem State.setPort_seq (s : State) (v : SamplePort) : (s.setPort v).seq = s.seq := rfl
@[simp] theorem State.setPort_mon (s : State) (v : SamplePort) : (s.setPort v).mon = s.mon := rfl
@[simp] theorem State.setPort_pilot (s : State) (v : SamplePort) : (s.setPort v).pilot = s.pilot := rfl
@[simp] theorem State.setPort_hunt (s : State) (v : SamplePort) : (s.setPort v).hunt = s.hunt := rfl
@[simp] theorem State.setPort_adm (s : State) (v : SamplePort) : (s.setPort v).adm = s.adm := rfl
@[simp] theorem State.setPort_host (s : State) (v : SamplePort) : (s.setPort v).host = s.host := rfl
@[simp] theorem State.setPort_resetLow (s : State) (v : SamplePort) : (s.setPort v).resetLow = s.resetLow := rfl
@[simp] theorem State.setPort_freeIx (s : State) (v : SamplePort) : (s.setPort v).freeIx = s.freeIx := rfl
@[simp] theorem State.setPort_pending (s : State) (v : SamplePort) : (s.setPort v).pending = s.pending := rfl

@[simp] theorem State.setMeas_time (s : State) (v : Measurement) : (s.setMeas v).time = s.time := rfl
@[simp] theorem State.setMeas_due (s : State) (v : Measurement) : (s.setMeas v).due = s.due := rfl
@[simp] theorem State.setMeas_port (s : State) (v : Measurement) : (s.setMeas v).port = s.port := rfl
@[simp] theorem State.setMeas_meas (s : State) (v : Measurement) : (s.setMeas v).meas = v := rfl
@[simp] theorem State.setMeas_prot (s : State) (v : Measurement) : (s.setMeas v).prot = s.prot := rfl
@[simp] theorem State.setMeas_store (s : State) (v : Measurement) : (s.setMeas v).store = s.store := rfl
@[simp] theorem State.setMeas_regime (s : State) (v : Measurement) : (s.setMeas v).regime = s.regime := rfl
@[simp] theorem State.setMeas_brk (s : State) (v : Measurement) : (s.setMeas v).brk = s.brk := rfl
@[simp] theorem State.setMeas_seq (s : State) (v : Measurement) : (s.setMeas v).seq = s.seq := rfl
@[simp] theorem State.setMeas_mon (s : State) (v : Measurement) : (s.setMeas v).mon = s.mon := rfl
@[simp] theorem State.setMeas_pilot (s : State) (v : Measurement) : (s.setMeas v).pilot = s.pilot := rfl
@[simp] theorem State.setMeas_hunt (s : State) (v : Measurement) : (s.setMeas v).hunt = s.hunt := rfl
@[simp] theorem State.setMeas_adm (s : State) (v : Measurement) : (s.setMeas v).adm = s.adm := rfl
@[simp] theorem State.setMeas_host (s : State) (v : Measurement) : (s.setMeas v).host = s.host := rfl
@[simp] theorem State.setMeas_resetLow (s : State) (v : Measurement) : (s.setMeas v).resetLow = s.resetLow := rfl
@[simp] theorem State.setMeas_freeIx (s : State) (v : Measurement) : (s.setMeas v).freeIx = s.freeIx := rfl
@[simp] theorem State.setMeas_pending (s : State) (v : Measurement) : (s.setMeas v).pending = s.pending := rfl

@[simp] theorem State.setProt_time (s : State) (v : Protection) : (s.setProt v).time = s.time := rfl
@[simp] theorem State.setProt_due (s : State) (v : Protection) : (s.setProt v).due = s.due := rfl
@[simp] theorem State.setProt_port (s : State) (v : Protection) : (s.setProt v).port = s.port := rfl
@[simp] theorem State.setProt_meas (s : State) (v : Protection) : (s.setProt v).meas = s.meas := rfl
@[simp] theorem State.setProt_prot (s : State) (v : Protection) : (s.setProt v).prot = v := rfl
@[simp] theorem State.setProt_store (s : State) (v : Protection) : (s.setProt v).store = s.store := rfl
@[simp] theorem State.setProt_regime (s : State) (v : Protection) : (s.setProt v).regime = s.regime := rfl
@[simp] theorem State.setProt_brk (s : State) (v : Protection) : (s.setProt v).brk = s.brk := rfl
@[simp] theorem State.setProt_seq (s : State) (v : Protection) : (s.setProt v).seq = s.seq := rfl
@[simp] theorem State.setProt_mon (s : State) (v : Protection) : (s.setProt v).mon = s.mon := rfl
@[simp] theorem State.setProt_pilot (s : State) (v : Protection) : (s.setProt v).pilot = s.pilot := rfl
@[simp] theorem State.setProt_hunt (s : State) (v : Protection) : (s.setProt v).hunt = s.hunt := rfl
@[simp] theorem State.setProt_adm (s : State) (v : Protection) : (s.setProt v).adm = s.adm := rfl
@[simp] theorem State.setProt_host (s : State) (v : Protection) : (s.setProt v).host = s.host := rfl
@[simp] theorem State.setProt_resetLow (s : State) (v : Protection) : (s.setProt v).resetLow = s.resetLow := rfl
@[simp] theorem State.setProt_freeIx (s : State) (v : Protection) : (s.setProt v).freeIx = s.freeIx := rfl
@[simp] theorem State.setProt_pending (s : State) (v : Protection) : (s.setProt v).pending = s.pending := rfl

@[simp] theorem State.setStore_time (s : State) (v : Store) : (s.setStore v).time = s.time := rfl
@[simp] theorem State.setStore_due (s : State) (v : Store) : (s.setStore v).due = s.due := rfl
@[simp] theorem State.setStore_port (s : State) (v : Store) : (s.setStore v).port = s.port := rfl
@[simp] theorem State.setStore_meas (s : State) (v : Store) : (s.setStore v).meas = s.meas := rfl
@[simp] theorem State.setStore_prot (s : State) (v : Store) : (s.setStore v).prot = s.prot := rfl
@[simp] theorem State.setStore_store (s : State) (v : Store) : (s.setStore v).store = v := rfl
@[simp] theorem State.setStore_regime (s : State) (v : Store) : (s.setStore v).regime = s.regime := rfl
@[simp] theorem State.setStore_brk (s : State) (v : Store) : (s.setStore v).brk = s.brk := rfl
@[simp] theorem State.setStore_seq (s : State) (v : Store) : (s.setStore v).seq = s.seq := rfl
@[simp] theorem State.setStore_mon (s : State) (v : Store) : (s.setStore v).mon = s.mon := rfl
@[simp] theorem State.setStore_pilot (s : State) (v : Store) : (s.setStore v).pilot = s.pilot := rfl
@[simp] theorem State.setStore_hunt (s : State) (v : Store) : (s.setStore v).hunt = s.hunt := rfl
@[simp] theorem State.setStore_adm (s : State) (v : Store) : (s.setStore v).adm = s.adm := rfl
@[simp] theorem State.setStore_host (s : State) (v : Store) : (s.setStore v).host = s.host := rfl
@[simp] theorem State.setStore_resetLow (s : State) (v : Store) : (s.setStore v).resetLow = s.resetLow := rfl
@[simp] theorem State.setStore_freeIx (s : State) (v : Store) : (s.setStore v).freeIx = s.freeIx := rfl
@[simp] theorem State.setStore_pending (s : State) (v : Store) : (s.setStore v).pending = s.pending := rfl

@[simp] theorem State.setRegime_time (s : State) (v : Regime) : (s.setRegime v).time = s.time := rfl
@[simp] theorem State.setRegime_due (s : State) (v : Regime) : (s.setRegime v).due = s.due := rfl
@[simp] theorem State.setRegime_port (s : State) (v : Regime) : (s.setRegime v).port = s.port := rfl
@[simp] theorem State.setRegime_meas (s : State) (v : Regime) : (s.setRegime v).meas = s.meas := rfl
@[simp] theorem State.setRegime_prot (s : State) (v : Regime) : (s.setRegime v).prot = s.prot := rfl
@[simp] theorem State.setRegime_store (s : State) (v : Regime) : (s.setRegime v).store = s.store := rfl
@[simp] theorem State.setRegime_regime (s : State) (v : Regime) : (s.setRegime v).regime = v := rfl
@[simp] theorem State.setRegime_brk (s : State) (v : Regime) : (s.setRegime v).brk = s.brk := rfl
@[simp] theorem State.setRegime_seq (s : State) (v : Regime) : (s.setRegime v).seq = s.seq := rfl
@[simp] theorem State.setRegime_mon (s : State) (v : Regime) : (s.setRegime v).mon = s.mon := rfl
@[simp] theorem State.setRegime_pilot (s : State) (v : Regime) : (s.setRegime v).pilot = s.pilot := rfl
@[simp] theorem State.setRegime_hunt (s : State) (v : Regime) : (s.setRegime v).hunt = s.hunt := rfl
@[simp] theorem State.setRegime_adm (s : State) (v : Regime) : (s.setRegime v).adm = s.adm := rfl
@[simp] theorem State.setRegime_host (s : State) (v : Regime) : (s.setRegime v).host = s.host := rfl
@[simp] theorem State.setRegime_resetLow (s : State) (v : Regime) : (s.setRegime v).resetLow = s.resetLow := rfl
@[simp] theorem State.setRegime_freeIx (s : State) (v : Regime) : (s.setRegime v).freeIx = s.freeIx := rfl
@[simp] theorem State.setRegime_pending (s : State) (v : Regime) : (s.setRegime v).pending = s.pending := rfl

@[simp] theorem State.setBrk_time (s : State) (v : Breaker) : (s.setBrk v).time = s.time := rfl
@[simp] theorem State.setBrk_due (s : State) (v : Breaker) : (s.setBrk v).due = s.due := rfl
@[simp] theorem State.setBrk_port (s : State) (v : Breaker) : (s.setBrk v).port = s.port := rfl
@[simp] theorem State.setBrk_meas (s : State) (v : Breaker) : (s.setBrk v).meas = s.meas := rfl
@[simp] theorem State.setBrk_prot (s : State) (v : Breaker) : (s.setBrk v).prot = s.prot := rfl
@[simp] theorem State.setBrk_store (s : State) (v : Breaker) : (s.setBrk v).store = s.store := rfl
@[simp] theorem State.setBrk_regime (s : State) (v : Breaker) : (s.setBrk v).regime = s.regime := rfl
@[simp] theorem State.setBrk_brk (s : State) (v : Breaker) : (s.setBrk v).brk = v := rfl
@[simp] theorem State.setBrk_seq (s : State) (v : Breaker) : (s.setBrk v).seq = s.seq := rfl
@[simp] theorem State.setBrk_mon (s : State) (v : Breaker) : (s.setBrk v).mon = s.mon := rfl
@[simp] theorem State.setBrk_pilot (s : State) (v : Breaker) : (s.setBrk v).pilot = s.pilot := rfl
@[simp] theorem State.setBrk_hunt (s : State) (v : Breaker) : (s.setBrk v).hunt = s.hunt := rfl
@[simp] theorem State.setBrk_adm (s : State) (v : Breaker) : (s.setBrk v).adm = s.adm := rfl
@[simp] theorem State.setBrk_host (s : State) (v : Breaker) : (s.setBrk v).host = s.host := rfl
@[simp] theorem State.setBrk_resetLow (s : State) (v : Breaker) : (s.setBrk v).resetLow = s.resetLow := rfl
@[simp] theorem State.setBrk_freeIx (s : State) (v : Breaker) : (s.setBrk v).freeIx = s.freeIx := rfl
@[simp] theorem State.setBrk_pending (s : State) (v : Breaker) : (s.setBrk v).pending = s.pending := rfl

@[simp] theorem State.setSeq_time (s : State) (v : Sequencer) : (s.setSeq v).time = s.time := rfl
@[simp] theorem State.setSeq_due (s : State) (v : Sequencer) : (s.setSeq v).due = s.due := rfl
@[simp] theorem State.setSeq_port (s : State) (v : Sequencer) : (s.setSeq v).port = s.port := rfl
@[simp] theorem State.setSeq_meas (s : State) (v : Sequencer) : (s.setSeq v).meas = s.meas := rfl
@[simp] theorem State.setSeq_prot (s : State) (v : Sequencer) : (s.setSeq v).prot = s.prot := rfl
@[simp] theorem State.setSeq_store (s : State) (v : Sequencer) : (s.setSeq v).store = s.store := rfl
@[simp] theorem State.setSeq_regime (s : State) (v : Sequencer) : (s.setSeq v).regime = s.regime := rfl
@[simp] theorem State.setSeq_brk (s : State) (v : Sequencer) : (s.setSeq v).brk = s.brk := rfl
@[simp] theorem State.setSeq_seq (s : State) (v : Sequencer) : (s.setSeq v).seq = v := rfl
@[simp] theorem State.setSeq_mon (s : State) (v : Sequencer) : (s.setSeq v).mon = s.mon := rfl
@[simp] theorem State.setSeq_pilot (s : State) (v : Sequencer) : (s.setSeq v).pilot = s.pilot := rfl
@[simp] theorem State.setSeq_hunt (s : State) (v : Sequencer) : (s.setSeq v).hunt = s.hunt := rfl
@[simp] theorem State.setSeq_adm (s : State) (v : Sequencer) : (s.setSeq v).adm = s.adm := rfl
@[simp] theorem State.setSeq_host (s : State) (v : Sequencer) : (s.setSeq v).host = s.host := rfl
@[simp] theorem State.setSeq_resetLow (s : State) (v : Sequencer) : (s.setSeq v).resetLow = s.resetLow := rfl
@[simp] theorem State.setSeq_freeIx (s : State) (v : Sequencer) : (s.setSeq v).freeIx = s.freeIx := rfl
@[simp] theorem State.setSeq_pending (s : State) (v : Sequencer) : (s.setSeq v).pending = s.pending := rfl

@[simp] theorem State.setMon_time (s : State) (v : Monitor) : (s.setMon v).time = s.time := rfl
@[simp] theorem State.setMon_due (s : State) (v : Monitor) : (s.setMon v).due = s.due := rfl
@[simp] theorem State.setMon_port (s : State) (v : Monitor) : (s.setMon v).port = s.port := rfl
@[simp] theorem State.setMon_meas (s : State) (v : Monitor) : (s.setMon v).meas = s.meas := rfl
@[simp] theorem State.setMon_prot (s : State) (v : Monitor) : (s.setMon v).prot = s.prot := rfl
@[simp] theorem State.setMon_store (s : State) (v : Monitor) : (s.setMon v).store = s.store := rfl
@[simp] theorem State.setMon_regime (s : State) (v : Monitor) : (s.setMon v).regime = s.regime := rfl
@[simp] theorem State.setMon_brk (s : State) (v : Monitor) : (s.setMon v).brk = s.brk := rfl
@[simp] theorem State.setMon_seq (s : State) (v : Monitor) : (s.setMon v).seq = s.seq := rfl
@[simp] theorem State.setMon_mon (s : State) (v : Monitor) : (s.setMon v).mon = v := rfl
@[simp] theorem State.setMon_pilot (s : State) (v : Monitor) : (s.setMon v).pilot = s.pilot := rfl
@[simp] theorem State.setMon_hunt (s : State) (v : Monitor) : (s.setMon v).hunt = s.hunt := rfl
@[simp] theorem State.setMon_adm (s : State) (v : Monitor) : (s.setMon v).adm = s.adm := rfl
@[simp] theorem State.setMon_host (s : State) (v : Monitor) : (s.setMon v).host = s.host := rfl
@[simp] theorem State.setMon_resetLow (s : State) (v : Monitor) : (s.setMon v).resetLow = s.resetLow := rfl
@[simp] theorem State.setMon_freeIx (s : State) (v : Monitor) : (s.setMon v).freeIx = s.freeIx := rfl
@[simp] theorem State.setMon_pending (s : State) (v : Monitor) : (s.setMon v).pending = s.pending := rfl

@[simp] theorem State.setPilot_time (s : State) (v : Pilot) : (s.setPilot v).time = s.time := rfl
@[simp] theorem State.setPilot_due (s : State) (v : Pilot) : (s.setPilot v).due = s.due := rfl
@[simp] theorem State.setPilot_port (s : State) (v : Pilot) : (s.setPilot v).port = s.port := rfl
@[simp] theorem State.setPilot_meas (s : State) (v : Pilot) : (s.setPilot v).meas = s.meas := rfl
@[simp] theorem State.setPilot_prot (s : State) (v : Pilot) : (s.setPilot v).prot = s.prot := rfl
@[simp] theorem State.setPilot_store (s : State) (v : Pilot) : (s.setPilot v).store = s.store := rfl
@[simp] theorem State.setPilot_regime (s : State) (v : Pilot) : (s.setPilot v).regime = s.regime := rfl
@[simp] theorem State.setPilot_brk (s : State) (v : Pilot) : (s.setPilot v).brk = s.brk := rfl
@[simp] theorem State.setPilot_seq (s : State) (v : Pilot) : (s.setPilot v).seq = s.seq := rfl
@[simp] theorem State.setPilot_mon (s : State) (v : Pilot) : (s.setPilot v).mon = s.mon := rfl
@[simp] theorem State.setPilot_pilot (s : State) (v : Pilot) : (s.setPilot v).pilot = v := rfl
@[simp] theorem State.setPilot_hunt (s : State) (v : Pilot) : (s.setPilot v).hunt = s.hunt := rfl
@[simp] theorem State.setPilot_adm (s : State) (v : Pilot) : (s.setPilot v).adm = s.adm := rfl
@[simp] theorem State.setPilot_host (s : State) (v : Pilot) : (s.setPilot v).host = s.host := rfl
@[simp] theorem State.setPilot_resetLow (s : State) (v : Pilot) : (s.setPilot v).resetLow = s.resetLow := rfl
@[simp] theorem State.setPilot_freeIx (s : State) (v : Pilot) : (s.setPilot v).freeIx = s.freeIx := rfl
@[simp] theorem State.setPilot_pending (s : State) (v : Pilot) : (s.setPilot v).pending = s.pending := rfl

@[simp] theorem State.setHunt_time (s : State) (v : Hunt) : (s.setHunt v).time = s.time := rfl
@[simp] theorem State.setHunt_due (s : State) (v : Hunt) : (s.setHunt v).due = s.due := rfl
@[simp] theorem State.setHunt_port (s : State) (v : Hunt) : (s.setHunt v).port = s.port := rfl
@[simp] theorem State.setHunt_meas (s : State) (v : Hunt) : (s.setHunt v).meas = s.meas := rfl
@[simp] theorem State.setHunt_prot (s : State) (v : Hunt) : (s.setHunt v).prot = s.prot := rfl
@[simp] theorem State.setHunt_store (s : State) (v : Hunt) : (s.setHunt v).store = s.store := rfl
@[simp] theorem State.setHunt_regime (s : State) (v : Hunt) : (s.setHunt v).regime = s.regime := rfl
@[simp] theorem State.setHunt_brk (s : State) (v : Hunt) : (s.setHunt v).brk = s.brk := rfl
@[simp] theorem State.setHunt_seq (s : State) (v : Hunt) : (s.setHunt v).seq = s.seq := rfl
@[simp] theorem State.setHunt_mon (s : State) (v : Hunt) : (s.setHunt v).mon = s.mon := rfl
@[simp] theorem State.setHunt_pilot (s : State) (v : Hunt) : (s.setHunt v).pilot = s.pilot := rfl
@[simp] theorem State.setHunt_hunt (s : State) (v : Hunt) : (s.setHunt v).hunt = v := rfl
@[simp] theorem State.setHunt_adm (s : State) (v : Hunt) : (s.setHunt v).adm = s.adm := rfl
@[simp] theorem State.setHunt_host (s : State) (v : Hunt) : (s.setHunt v).host = s.host := rfl
@[simp] theorem State.setHunt_resetLow (s : State) (v : Hunt) : (s.setHunt v).resetLow = s.resetLow := rfl
@[simp] theorem State.setHunt_freeIx (s : State) (v : Hunt) : (s.setHunt v).freeIx = s.freeIx := rfl
@[simp] theorem State.setHunt_pending (s : State) (v : Hunt) : (s.setHunt v).pending = s.pending := rfl

@[simp] theorem State.setAdm_time (s : State) (v : Admission) : (s.setAdm v).time = s.time := rfl
@[simp] theorem State.setAdm_due (s : State) (v : Admission) : (s.setAdm v).due = s.due := rfl
@[simp] theorem State.setAdm_port (s : State) (v : Admission) : (s.setAdm v).port = s.port := rfl
@[simp] theorem State.setAdm_meas (s : State) (v : Admission) : (s.setAdm v).meas = s.meas := rfl
@[simp] theorem State.setAdm_prot (s : State) (v : Admission) : (s.setAdm v).prot = s.prot := rfl
@[simp] theorem State.setAdm_store (s : State) (v : Admission) : (s.setAdm v).store = s.store := rfl
@[simp] theorem State.setAdm_regime (s : State) (v : Admission) : (s.setAdm v).regime = s.regime := rfl
@[simp] theorem State.setAdm_brk (s : State) (v : Admission) : (s.setAdm v).brk = s.brk := rfl
@[simp] theorem State.setAdm_seq (s : State) (v : Admission) : (s.setAdm v).seq = s.seq := rfl
@[simp] theorem State.setAdm_mon (s : State) (v : Admission) : (s.setAdm v).mon = s.mon := rfl
@[simp] theorem State.setAdm_pilot (s : State) (v : Admission) : (s.setAdm v).pilot = s.pilot := rfl
@[simp] theorem State.setAdm_hunt (s : State) (v : Admission) : (s.setAdm v).hunt = s.hunt := rfl
@[simp] theorem State.setAdm_adm (s : State) (v : Admission) : (s.setAdm v).adm = v := rfl
@[simp] theorem State.setAdm_host (s : State) (v : Admission) : (s.setAdm v).host = s.host := rfl
@[simp] theorem State.setAdm_resetLow (s : State) (v : Admission) : (s.setAdm v).resetLow = s.resetLow := rfl
@[simp] theorem State.setAdm_freeIx (s : State) (v : Admission) : (s.setAdm v).freeIx = s.freeIx := rfl
@[simp] theorem State.setAdm_pending (s : State) (v : Admission) : (s.setAdm v).pending = s.pending := rfl

@[simp] theorem State.setHost_time (s : State) (v : HostIf) : (s.setHost v).time = s.time := rfl
@[simp] theorem State.setHost_due (s : State) (v : HostIf) : (s.setHost v).due = s.due := rfl
@[simp] theorem State.setHost_port (s : State) (v : HostIf) : (s.setHost v).port = s.port := rfl
@[simp] theorem State.setHost_meas (s : State) (v : HostIf) : (s.setHost v).meas = s.meas := rfl
@[simp] theorem State.setHost_prot (s : State) (v : HostIf) : (s.setHost v).prot = s.prot := rfl
@[simp] theorem State.setHost_store (s : State) (v : HostIf) : (s.setHost v).store = s.store := rfl
@[simp] theorem State.setHost_regime (s : State) (v : HostIf) : (s.setHost v).regime = s.regime := rfl
@[simp] theorem State.setHost_brk (s : State) (v : HostIf) : (s.setHost v).brk = s.brk := rfl
@[simp] theorem State.setHost_seq (s : State) (v : HostIf) : (s.setHost v).seq = s.seq := rfl
@[simp] theorem State.setHost_mon (s : State) (v : HostIf) : (s.setHost v).mon = s.mon := rfl
@[simp] theorem State.setHost_pilot (s : State) (v : HostIf) : (s.setHost v).pilot = s.pilot := rfl
@[simp] theorem State.setHost_hunt (s : State) (v : HostIf) : (s.setHost v).hunt = s.hunt := rfl
@[simp] theorem State.setHost_adm (s : State) (v : HostIf) : (s.setHost v).adm = s.adm := rfl
@[simp] theorem State.setHost_host (s : State) (v : HostIf) : (s.setHost v).host = v := rfl
@[simp] theorem State.setHost_resetLow (s : State) (v : HostIf) : (s.setHost v).resetLow = s.resetLow := rfl
@[simp] theorem State.setHost_freeIx (s : State) (v : HostIf) : (s.setHost v).freeIx = s.freeIx := rfl
@[simp] theorem State.setHost_pending (s : State) (v : HostIf) : (s.setHost v).pending = s.pending := rfl

@[simp] theorem State.setResetLow_time (s : State) (v : Bool) : (s.setResetLow v).time = s.time := rfl
@[simp] theorem State.setResetLow_due (s : State) (v : Bool) : (s.setResetLow v).due = s.due := rfl
@[simp] theorem State.setResetLow_port (s : State) (v : Bool) : (s.setResetLow v).port = s.port := rfl
@[simp] theorem State.setResetLow_meas (s : State) (v : Bool) : (s.setResetLow v).meas = s.meas := rfl
@[simp] theorem State.setResetLow_prot (s : State) (v : Bool) : (s.setResetLow v).prot = s.prot := rfl
@[simp] theorem State.setResetLow_store (s : State) (v : Bool) : (s.setResetLow v).store = s.store := rfl
@[simp] theorem State.setResetLow_regime (s : State) (v : Bool) : (s.setResetLow v).regime = s.regime := rfl
@[simp] theorem State.setResetLow_brk (s : State) (v : Bool) : (s.setResetLow v).brk = s.brk := rfl
@[simp] theorem State.setResetLow_seq (s : State) (v : Bool) : (s.setResetLow v).seq = s.seq := rfl
@[simp] theorem State.setResetLow_mon (s : State) (v : Bool) : (s.setResetLow v).mon = s.mon := rfl
@[simp] theorem State.setResetLow_pilot (s : State) (v : Bool) : (s.setResetLow v).pilot = s.pilot := rfl
@[simp] theorem State.setResetLow_hunt (s : State) (v : Bool) : (s.setResetLow v).hunt = s.hunt := rfl
@[simp] theorem State.setResetLow_adm (s : State) (v : Bool) : (s.setResetLow v).adm = s.adm := rfl
@[simp] theorem State.setResetLow_host (s : State) (v : Bool) : (s.setResetLow v).host = s.host := rfl
@[simp] theorem State.setResetLow_resetLow (s : State) (v : Bool) : (s.setResetLow v).resetLow = v := rfl
@[simp] theorem State.setResetLow_freeIx (s : State) (v : Bool) : (s.setResetLow v).freeIx = s.freeIx := rfl
@[simp] theorem State.setResetLow_pending (s : State) (v : Bool) : (s.setResetLow v).pending = s.pending := rfl

@[simp] theorem State.setFreeIx_time (s : State) (v : Nat) : (s.setFreeIx v).time = s.time := rfl
@[simp] theorem State.setFreeIx_due (s : State) (v : Nat) : (s.setFreeIx v).due = s.due := rfl
@[simp] theorem State.setFreeIx_port (s : State) (v : Nat) : (s.setFreeIx v).port = s.port := rfl
@[simp] theorem State.setFreeIx_meas (s : State) (v : Nat) : (s.setFreeIx v).meas = s.meas := rfl
@[simp] theorem State.setFreeIx_prot (s : State) (v : Nat) : (s.setFreeIx v).prot = s.prot := rfl
@[simp] theorem State.setFreeIx_store (s : State) (v : Nat) : (s.setFreeIx v).store = s.store := rfl
@[simp] theorem State.setFreeIx_regime (s : State) (v : Nat) : (s.setFreeIx v).regime = s.regime := rfl
@[simp] theorem State.setFreeIx_brk (s : State) (v : Nat) : (s.setFreeIx v).brk = s.brk := rfl
@[simp] theorem State.setFreeIx_seq (s : State) (v : Nat) : (s.setFreeIx v).seq = s.seq := rfl
@[simp] theorem State.setFreeIx_mon (s : State) (v : Nat) : (s.setFreeIx v).mon = s.mon := rfl
@[simp] theorem State.setFreeIx_pilot (s : State) (v : Nat) : (s.setFreeIx v).pilot = s.pilot := rfl
@[simp] theorem State.setFreeIx_hunt (s : State) (v : Nat) : (s.setFreeIx v).hunt = s.hunt := rfl
@[simp] theorem State.setFreeIx_adm (s : State) (v : Nat) : (s.setFreeIx v).adm = s.adm := rfl
@[simp] theorem State.setFreeIx_host (s : State) (v : Nat) : (s.setFreeIx v).host = s.host := rfl
@[simp] theorem State.setFreeIx_resetLow (s : State) (v : Nat) : (s.setFreeIx v).resetLow = s.resetLow := rfl
@[simp] theorem State.setFreeIx_freeIx (s : State) (v : Nat) : (s.setFreeIx v).freeIx = v := rfl
@[simp] theorem State.setFreeIx_pending (s : State) (v : Nat) : (s.setFreeIx v).pending = s.pending := rfl

@[simp] theorem State.setPending_time (s : State) (v : List Instr) : (s.setPending v).time = s.time := rfl
@[simp] theorem State.setPending_due (s : State) (v : List Instr) : (s.setPending v).due = s.due := rfl
@[simp] theorem State.setPending_port (s : State) (v : List Instr) : (s.setPending v).port = s.port := rfl
@[simp] theorem State.setPending_meas (s : State) (v : List Instr) : (s.setPending v).meas = s.meas := rfl
@[simp] theorem State.setPending_prot (s : State) (v : List Instr) : (s.setPending v).prot = s.prot := rfl
@[simp] theorem State.setPending_store (s : State) (v : List Instr) : (s.setPending v).store = s.store := rfl
@[simp] theorem State.setPending_regime (s : State) (v : List Instr) : (s.setPending v).regime = s.regime := rfl
@[simp] theorem State.setPending_brk (s : State) (v : List Instr) : (s.setPending v).brk = s.brk := rfl
@[simp] theorem State.setPending_seq (s : State) (v : List Instr) : (s.setPending v).seq = s.seq := rfl
@[simp] theorem State.setPending_mon (s : State) (v : List Instr) : (s.setPending v).mon = s.mon := rfl
@[simp] theorem State.setPending_pilot (s : State) (v : List Instr) : (s.setPending v).pilot = s.pilot := rfl
@[simp] theorem State.setPending_hunt (s : State) (v : List Instr) : (s.setPending v).hunt = s.hunt := rfl
@[simp] theorem State.setPending_adm (s : State) (v : List Instr) : (s.setPending v).adm = s.adm := rfl
@[simp] theorem State.setPending_host (s : State) (v : List Instr) : (s.setPending v).host = s.host := rfl
@[simp] theorem State.setPending_resetLow (s : State) (v : List Instr) : (s.setPending v).resetLow = s.resetLow := rfl
@[simp] theorem State.setPending_freeIx (s : State) (v : List Instr) : (s.setPending v).freeIx = s.freeIx := rfl
@[simp] theorem State.setPending_pending (s : State) (v : List Instr) : (s.setPending v).pending = v := rfl

end Sys2Proof.Machine
end

