-- ==== Sys2Proof/Laws/OpsFrames.lean ====
section
/-! SUPPORT. What each operation of Machine/Ops.lean leaves unchanged, whatever else it does. -/

namespace Sys2Proof.Machine

@[simp] theorem placeReport_frame (r : Report) (s : State) :
    (placeReport r s).time = s.time ∧ (placeReport r s).due = s.due ∧ (placeReport r s).port = s.port ∧
    (placeReport r s).meas = s.meas ∧ (placeReport r s).prot = s.prot ∧ (placeReport r s).store = s.store ∧
    (placeReport r s).regime = s.regime ∧ (placeReport r s).brk = s.brk ∧ (placeReport r s).seq = s.seq ∧
    (placeReport r s).mon = s.mon ∧ (placeReport r s).pilot = s.pilot ∧ (placeReport r s).hunt = s.hunt ∧
    (placeReport r s).adm = s.adm ∧ (placeReport r s).resetLow = s.resetLow ∧ (placeReport r s).freeIx = s.freeIx ∧
    (placeReport r s).pending = s.pending := by
  unfold placeReport
  (repeat' split) <;> simp

@[simp] theorem addReport_frame (r : Report) (s : State) :
    (addReport r s).time = s.time ∧ (addReport r s).due = s.due ∧ (addReport r s).port = s.port ∧
    (addReport r s).meas = s.meas ∧ (addReport r s).prot = s.prot ∧ (addReport r s).store = s.store ∧
    (addReport r s).regime = s.regime ∧ (addReport r s).brk = s.brk ∧ (addReport r s).seq = s.seq ∧
    (addReport r s).mon = s.mon ∧ (addReport r s).pilot = s.pilot ∧ (addReport r s).hunt = s.hunt ∧
    (addReport r s).adm = s.adm ∧ (addReport r s).resetLow = s.resetLow ∧ (addReport r s).freeIx = s.freeIx ∧
    (addReport r s).pending = s.pending := by
  unfold addReport
  (repeat' split) <;> simp

@[simp] theorem addStationReport_frame (new : StationReport) (s : State) :
    (addStationReport new s).time = s.time ∧ (addStationReport new s).due = s.due ∧
    (addStationReport new s).port = s.port ∧ (addStationReport new s).meas = s.meas ∧
    (addStationReport new s).prot = s.prot ∧ (addStationReport new s).store = s.store ∧
    (addStationReport new s).regime = s.regime ∧ (addStationReport new s).brk = s.brk ∧
    (addStationReport new s).seq = s.seq ∧ (addStationReport new s).mon = s.mon ∧
    (addStationReport new s).pilot = s.pilot ∧ (addStationReport new s).hunt = s.hunt ∧
    (addStationReport new s).adm = s.adm ∧ (addStationReport new s).resetLow = s.resetLow ∧
    (addStationReport new s).freeIx = s.freeIx ∧
    (addStationReport new s).pending = s.pending := by
  unfold addStationReport
  (repeat' split) <;> simp

@[simp] theorem withdrawWaiting_frame (c : DownClass) (s : State) :
    (withdrawWaiting c s).time = s.time ∧ (withdrawWaiting c s).due = s.due ∧
    (withdrawWaiting c s).port = s.port ∧ (withdrawWaiting c s).meas = s.meas ∧
    (withdrawWaiting c s).prot = s.prot ∧ (withdrawWaiting c s).store = s.store ∧
    (withdrawWaiting c s).regime = s.regime ∧ (withdrawWaiting c s).brk = s.brk ∧
    (withdrawWaiting c s).seq = s.seq ∧ (withdrawWaiting c s).mon = s.mon ∧
    (withdrawWaiting c s).hunt = s.hunt ∧ (withdrawWaiting c s).adm = s.adm ∧
    (withdrawWaiting c s).host = s.host ∧ (withdrawWaiting c s).resetLow = s.resetLow ∧
    (withdrawWaiting c s).freeIx = s.freeIx ∧
    (withdrawWaiting c s).pending = s.pending := by
  simp [withdrawWaiting]

@[simp] theorem updateStation_frame (a : Nat) (f : Station → Station) (s : State) :
    (updateStation a f s).time = s.time ∧ (updateStation a f s).due = s.due ∧
    (updateStation a f s).port = s.port ∧ (updateStation a f s).meas = s.meas ∧
    (updateStation a f s).prot = s.prot ∧ (updateStation a f s).store = s.store ∧
    (updateStation a f s).regime = s.regime ∧ (updateStation a f s).brk = s.brk ∧
    (updateStation a f s).seq = s.seq ∧ (updateStation a f s).mon = s.mon ∧
    (updateStation a f s).hunt = s.hunt ∧ (updateStation a f s).adm = s.adm ∧
    (updateStation a f s).host = s.host ∧ (updateStation a f s).resetLow = s.resetLow ∧
    (updateStation a f s).freeIx = s.freeIx ∧
    (updateStation a f s).pending = s.pending := by
  simp [updateStation]

@[simp] theorem updateStations_frame (f : Station → Station) (s : State) :
    (updateStations f s).time = s.time ∧ (updateStations f s).due = s.due ∧ (updateStations f s).port = s.port ∧
    (updateStations f s).meas = s.meas ∧ (updateStations f s).prot = s.prot ∧
    (updateStations f s).store = s.store ∧ (updateStations f s).regime = s.regime ∧
    (updateStations f s).brk = s.brk ∧ (updateStations f s).seq = s.seq ∧ (updateStations f s).mon = s.mon ∧
    (updateStations f s).hunt = s.hunt ∧ (updateStations f s).adm = s.adm ∧ (updateStations f s).host = s.host ∧
    (updateStations f s).resetLow = s.resetLow ∧ (updateStations f s).freeIx = s.freeIx ∧
    (updateStations f s).pending = s.pending := by
  simp [updateStations]

@[simp] theorem reportStation_frame (st : Station) (q : Option QueryResult) (s : State) :
    (reportStation st q s).time = s.time ∧ (reportStation st q s).due = s.due ∧
    (reportStation st q s).port = s.port ∧ (reportStation st q s).meas = s.meas ∧
    (reportStation st q s).prot = s.prot ∧ (reportStation st q s).store = s.store ∧
    (reportStation st q s).regime = s.regime ∧ (reportStation st q s).brk = s.brk ∧
    (reportStation st q s).seq = s.seq ∧ (reportStation st q s).mon = s.mon ∧
    (reportStation st q s).pilot = s.pilot ∧ (reportStation st q s).hunt = s.hunt ∧
    (reportStation st q s).adm = s.adm ∧ (reportStation st q s).resetLow = s.resetLow ∧
    (reportStation st q s).freeIx = s.freeIx ∧
    (reportStation st q s).pending = s.pending := by
  simp [reportStation]

@[simp] theorem updateDrive_frame (n : Nat) (f : Drive → Drive) (s : State) :
    (updateDrive n f s).time = s.time ∧ (updateDrive n f s).due = s.due ∧ (updateDrive n f s).port = s.port ∧
    (updateDrive n f s).meas = s.meas ∧ (updateDrive n f s).prot = s.prot ∧
    (updateDrive n f s).store = s.store ∧ (updateDrive n f s).regime = s.regime ∧
    (updateDrive n f s).brk = s.brk ∧ (updateDrive n f s).seq = s.seq ∧ (updateDrive n f s).mon = s.mon ∧
    (updateDrive n f s).pilot = s.pilot ∧ (updateDrive n f s).hunt = s.hunt ∧
    (updateDrive n f s).host = s.host ∧ (updateDrive n f s).resetLow = s.resetLow ∧
    (updateDrive n f s).freeIx = s.freeIx ∧
    (updateDrive n f s).pending = s.pending := by
  simp [updateDrive]

@[simp] theorem updateImage_frame (i : ImageId) (f : Image → Image) (s : State) :
    (updateImage i f s).time = s.time ∧ (updateImage i f s).due = s.due ∧ (updateImage i f s).port = s.port ∧
    (updateImage i f s).meas = s.meas ∧ (updateImage i f s).prot = s.prot ∧
    (updateImage i f s).regime = s.regime ∧ (updateImage i f s).brk = s.brk ∧ (updateImage i f s).seq = s.seq ∧
    (updateImage i f s).mon = s.mon ∧ (updateImage i f s).pilot = s.pilot ∧ (updateImage i f s).hunt = s.hunt ∧
    (updateImage i f s).adm = s.adm ∧ (updateImage i f s).host = s.host ∧
    (updateImage i f s).resetLow = s.resetLow ∧ (updateImage i f s).freeIx = s.freeIx ∧
    (updateImage i f s).pending = s.pending := by
  simp [updateImage]

end Sys2Proof.Machine
end

