-- ==== Sys2Proof/Laws/SequencerCoreFrames.lean ====
section
/-! SUPPORT. What each operation of Machine/SequencerCore.lean leaves unchanged, whatever else it does. -/

namespace Sys2Proof.Machine

@[simp] theorem seqTo_frame (r : Sequencer) (e : SeqEvent) (o : Option ChangeOrigin) (s : State) :
    (seqTo r e o s).time = s.time ∧ (seqTo r e o s).due = s.due ∧ (seqTo r e o s).port = s.port ∧
    (seqTo r e o s).meas = s.meas ∧ (seqTo r e o s).prot = s.prot ∧ (seqTo r e o s).store = s.store ∧
    (seqTo r e o s).regime = s.regime ∧ (seqTo r e o s).brk = s.brk ∧ (seqTo r e o s).mon = s.mon ∧
    (seqTo r e o s).pilot = s.pilot ∧ (seqTo r e o s).hunt = s.hunt ∧ (seqTo r e o s).adm = s.adm ∧
    (seqTo r e o s).resetLow = s.resetLow ∧ (seqTo r e o s).freeIx = s.freeIx ∧
    (seqTo r e o s).pending = s.pending := by
  unfold seqTo
  (repeat' split) <;> simp

@[simp] theorem seqWithdrawn_frame  (s : State) :
    (seqWithdrawn s).time = s.time ∧ (seqWithdrawn s).due = s.due ∧ (seqWithdrawn s).port = s.port ∧
    (seqWithdrawn s).meas = s.meas ∧ (seqWithdrawn s).prot = s.prot ∧ (seqWithdrawn s).store = s.store ∧
    (seqWithdrawn s).regime = s.regime ∧ (seqWithdrawn s).brk = s.brk ∧ (seqWithdrawn s).mon = s.mon ∧
    (seqWithdrawn s).pilot = s.pilot ∧ (seqWithdrawn s).hunt = s.hunt ∧ (seqWithdrawn s).adm = s.adm ∧
    (seqWithdrawn s).host = s.host ∧ (seqWithdrawn s).resetLow = s.resetLow ∧ (seqWithdrawn s).freeIx = s.freeIx ∧
    (seqWithdrawn s).pending = s.pending := by
  unfold seqWithdrawn
  (repeat' split) <;> simp

@[simp] theorem seqHold_frame  (s : State) :
    (seqHold s).time = s.time ∧ (seqHold s).due = s.due ∧ (seqHold s).port = s.port ∧
    (seqHold s).meas = s.meas ∧ (seqHold s).prot = s.prot ∧ (seqHold s).store = s.store ∧
    (seqHold s).regime = s.regime ∧ (seqHold s).brk = s.brk ∧ (seqHold s).mon = s.mon ∧
    (seqHold s).pilot = s.pilot ∧ (seqHold s).hunt = s.hunt ∧ (seqHold s).adm = s.adm ∧
    (seqHold s).resetLow = s.resetLow ∧ (seqHold s).freeIx = s.freeIx ∧ (seqHold s).pending = s.pending := by
  unfold seqHold
  (repeat' split) <;> simp

@[simp] theorem seqBlockChange_frame (oh oo : List Cond) (s : State) :
    (seqBlockChange oh oo s).time = s.time ∧ (seqBlockChange oh oo s).due = s.due ∧
    (seqBlockChange oh oo s).port = s.port ∧ (seqBlockChange oh oo s).meas = s.meas ∧
    (seqBlockChange oh oo s).prot = s.prot ∧ (seqBlockChange oh oo s).store = s.store ∧
    (seqBlockChange oh oo s).regime = s.regime ∧ (seqBlockChange oh oo s).brk = s.brk ∧
    (seqBlockChange oh oo s).mon = s.mon ∧ (seqBlockChange oh oo s).pilot = s.pilot ∧
    (seqBlockChange oh oo s).hunt = s.hunt ∧ (seqBlockChange oh oo s).adm = s.adm ∧
    (seqBlockChange oh oo s).resetLow = s.resetLow ∧ (seqBlockChange oh oo s).freeIx = s.freeIx ∧
    (seqBlockChange oh oo s).pending = s.pending := by
  unfold seqBlockChange
  (repeat' split) <;> simp

end Sys2Proof.Machine
end

