-- ==== Sys2Proof/Laws/MonitorFrames.lean ====
section
/-! SUPPORT. What each operation of Machine/Monitor.lean leaves unchanged, whatever else it does. -/

namespace Sys2Proof.Machine

@[simp] theorem releaseClose_frame  (s : State) :
    (releaseClose s).time = s.time ∧ (releaseClose s).due = s.due ∧ (releaseClose s).port = s.port ∧
    (releaseClose s).meas = s.meas ∧ (releaseClose s).prot = s.prot ∧ (releaseClose s).store = s.store ∧
    (releaseClose s).regime = s.regime ∧ (releaseClose s).seq = s.seq ∧ (releaseClose s).mon = s.mon ∧
    (releaseClose s).pilot = s.pilot ∧ (releaseClose s).hunt = s.hunt ∧ (releaseClose s).adm = s.adm ∧
    (releaseClose s).host = s.host ∧ (releaseClose s).resetLow = s.resetLow ∧ (releaseClose s).freeIx = s.freeIx ∧
    (releaseClose s).pending = s.pending := by
  simp [releaseClose]

@[simp] theorem breakerHardChange_frame (oh : List Cond) (s : State) :
    (breakerHardChange oh s).time = s.time ∧ (breakerHardChange oh s).due = s.due ∧
    (breakerHardChange oh s).port = s.port ∧ (breakerHardChange oh s).meas = s.meas ∧
    (breakerHardChange oh s).prot = s.prot ∧ (breakerHardChange oh s).store = s.store ∧
    (breakerHardChange oh s).regime = s.regime ∧ (breakerHardChange oh s).mon = s.mon ∧
    (breakerHardChange oh s).pilot = s.pilot ∧ (breakerHardChange oh s).hunt = s.hunt ∧
    (breakerHardChange oh s).adm = s.adm ∧ (breakerHardChange oh s).host = s.host ∧
    (breakerHardChange oh s).resetLow = s.resetLow ∧ (breakerHardChange oh s).freeIx = s.freeIx ∧
    (breakerHardChange oh s).pending = s.pending := by
  unfold breakerHardChange
  (repeat' split) <;> simp

@[simp] theorem adoptRecords_frame (t : CondTable CondRec) (s : State) :
    (adoptRecords t s).time = s.time ∧ (adoptRecords t s).due = s.due ∧ (adoptRecords t s).port = s.port ∧
    (adoptRecords t s).meas = s.meas ∧ (adoptRecords t s).prot = s.prot ∧ (adoptRecords t s).store = s.store ∧
    (adoptRecords t s).regime = s.regime ∧ (adoptRecords t s).pilot = s.pilot ∧
    (adoptRecords t s).hunt = s.hunt ∧ (adoptRecords t s).adm = s.adm ∧ (adoptRecords t s).resetLow = s.resetLow ∧
    (adoptRecords t s).freeIx = s.freeIx ∧
    (adoptRecords t s).pending = s.pending := by
  unfold adoptRecords
  (repeat' split) <;> simp

@[simp] theorem reportCondition_frame (k : CondCause) (c : Cond) (s : State) :
    (reportCondition k s c).time = s.time ∧ (reportCondition k s c).due = s.due ∧
    (reportCondition k s c).port = s.port ∧ (reportCondition k s c).meas = s.meas ∧
    (reportCondition k s c).prot = s.prot ∧ (reportCondition k s c).store = s.store ∧
    (reportCondition k s c).regime = s.regime ∧ (reportCondition k s c).brk = s.brk ∧
    (reportCondition k s c).seq = s.seq ∧ (reportCondition k s c).mon = s.mon ∧
    (reportCondition k s c).pilot = s.pilot ∧ (reportCondition k s c).hunt = s.hunt ∧
    (reportCondition k s c).adm = s.adm ∧ (reportCondition k s c).resetLow = s.resetLow ∧
    (reportCondition k s c).freeIx = s.freeIx ∧
    (reportCondition k s c).pending = s.pending := by
  simp [reportCondition]

@[simp] theorem ownerReport_frame (c : Cond) (a : Bool) (s : State) :
    (ownerReport c a s).time = s.time ∧ (ownerReport c a s).due = s.due ∧ (ownerReport c a s).port = s.port ∧
    (ownerReport c a s).meas = s.meas ∧ (ownerReport c a s).prot = s.prot ∧
    (ownerReport c a s).store = s.store ∧ (ownerReport c a s).regime = s.regime ∧
    (ownerReport c a s).pilot = s.pilot ∧ (ownerReport c a s).hunt = s.hunt ∧ (ownerReport c a s).adm = s.adm ∧
    (ownerReport c a s).resetLow = s.resetLow ∧ (ownerReport c a s).freeIx = s.freeIx ∧
    (ownerReport c a s).pending = s.pending := by
  unfold ownerReport
  (repeat' split) <;> simp

@[simp] theorem foldl_reportCondition_frame (k : CondCause) (l : List Cond) (s : State) :
    (l.foldl (reportCondition k) s).time = s.time ∧ (l.foldl (reportCondition k) s).due = s.due ∧
    (l.foldl (reportCondition k) s).port = s.port ∧ (l.foldl (reportCondition k) s).meas = s.meas ∧
    (l.foldl (reportCondition k) s).prot = s.prot ∧ (l.foldl (reportCondition k) s).store = s.store ∧
    (l.foldl (reportCondition k) s).regime = s.regime ∧ (l.foldl (reportCondition k) s).brk = s.brk ∧
    (l.foldl (reportCondition k) s).seq = s.seq ∧ (l.foldl (reportCondition k) s).mon = s.mon ∧
    (l.foldl (reportCondition k) s).pilot = s.pilot ∧ (l.foldl (reportCondition k) s).hunt = s.hunt ∧
    (l.foldl (reportCondition k) s).adm = s.adm ∧ (l.foldl (reportCondition k) s).resetLow = s.resetLow ∧
    (l.foldl (reportCondition k) s).freeIx = s.freeIx ∧
    (l.foldl (reportCondition k) s).pending = s.pending := by
  induction l generalizing s with
  | nil => simp
  | cons c l ih => simp [ih]

@[simp] theorem replaceRecords_frame (k : CondCause) (t : CondTable CondRec) (s : State) :
    (replaceRecords k t s).time = s.time ∧ (replaceRecords k t s).due = s.due ∧
    (replaceRecords k t s).port = s.port ∧ (replaceRecords k t s).meas = s.meas ∧
    (replaceRecords k t s).prot = s.prot ∧ (replaceRecords k t s).store = s.store ∧
    (replaceRecords k t s).regime = s.regime ∧ (replaceRecords k t s).pilot = s.pilot ∧
    (replaceRecords k t s).hunt = s.hunt ∧ (replaceRecords k t s).adm = s.adm ∧
    (replaceRecords k t s).resetLow = s.resetLow ∧ (replaceRecords k t s).freeIx = s.freeIx ∧
    (replaceRecords k t s).pending = s.pending := by
  simp [replaceRecords]

end Sys2Proof.Machine
end

