-- ==== Sys2Proof/Laws/HuntFrames.lean ====
section
/-! SUPPORT. What each operation of Machine/Hunt.lean leaves unchanged, whatever else it does. -/

namespace Sys2Proof.Machine

@[simp] theorem dropOutstanding_frame  (s : State) :
    (dropOutstanding s).time = s.time ∧ (dropOutstanding s).due = s.due ∧ (dropOutstanding s).port = s.port ∧
    (dropOutstanding s).meas = s.meas ∧ (dropOutstanding s).prot = s.prot ∧
    (dropOutstanding s).store = s.store ∧ (dropOutstanding s).regime = s.regime ∧
    (dropOutstanding s).brk = s.brk ∧ (dropOutstanding s).seq = s.seq ∧ (dropOutstanding s).mon = s.mon ∧
    (dropOutstanding s).adm = s.adm ∧ (dropOutstanding s).host = s.host ∧
    (dropOutstanding s).resetLow = s.resetLow ∧ (dropOutstanding s).freeIx = s.freeIx ∧
    (dropOutstanding s).pending = s.pending := by
  unfold dropOutstanding
  (repeat' split) <;> simp

@[simp] theorem endStep_frame (r : StepResult) (s : State) :
    (endStep r s).time = s.time ∧ (endStep r s).due = s.due ∧ (endStep r s).port = s.port ∧
    (endStep r s).meas = s.meas ∧ (endStep r s).prot = s.prot ∧ (endStep r s).store = s.store ∧
    (endStep r s).regime = s.regime ∧ (endStep r s).brk = s.brk ∧ (endStep r s).seq = s.seq ∧
    (endStep r s).mon = s.mon ∧ (endStep r s).pilot = s.pilot ∧ (endStep r s).adm = s.adm ∧
    (endStep r s).resetLow = s.resetLow ∧ (endStep r s).freeIx = s.freeIx ∧ (endStep r s).pending = s.pending := by
  simp [endStep]

@[simp] theorem finishHunt_frame (r : LastResult) (l : List StepRecord) (n : HuntState) (s : State) :
    (finishHunt r l n s).time = s.time ∧ (finishHunt r l n s).due = s.due ∧ (finishHunt r l n s).port = s.port ∧
    (finishHunt r l n s).meas = s.meas ∧ (finishHunt r l n s).prot = s.prot ∧
    (finishHunt r l n s).store = s.store ∧ (finishHunt r l n s).regime = s.regime ∧
    (finishHunt r l n s).pilot = s.pilot ∧ (finishHunt r l n s).adm = s.adm ∧
    (finishHunt r l n s).resetLow = s.resetLow ∧ (finishHunt r l n s).freeIx = s.freeIx ∧
    (finishHunt r l n s).pending = s.pending := by
  simp [finishHunt]

@[simp] theorem endHunt_frame (o : HuntOutcome) (c : Option AbortCause) (b : Option (List Cond)) (u : Option Nat) (n : HuntState) (s : State) :
    (endHunt o c b u n s).time = s.time ∧ (endHunt o c b u n s).due = s.due ∧
    (endHunt o c b u n s).port = s.port ∧ (endHunt o c b u n s).meas = s.meas ∧
    (endHunt o c b u n s).prot = s.prot ∧ (endHunt o c b u n s).store = s.store ∧
    (endHunt o c b u n s).regime = s.regime ∧ (endHunt o c b u n s).pilot = s.pilot ∧
    (endHunt o c b u n s).adm = s.adm ∧ (endHunt o c b u n s).resetLow = s.resetLow ∧
    (endHunt o c b u n s).freeIx = s.freeIx ∧
    (endHunt o c b u n s).pending = s.pending := by
  simp [endHunt]

theorem joinQueue_frame {m : DownMessage} {s t : State} (h : joinQueue m s = some t) :
    t.time = s.time ∧ t.due = s.due ∧ t.port = s.port ∧ t.meas = s.meas ∧ t.prot = s.prot ∧
    t.store = s.store ∧ t.regime = s.regime ∧ t.brk = s.brk ∧ t.seq = s.seq ∧ t.mon = s.mon ∧
    t.hunt = s.hunt ∧ t.adm = s.adm ∧ t.host = s.host ∧ t.resetLow = s.resetLow ∧ t.freeIx = s.freeIx ∧
    t.pending = s.pending := by
  unfold joinQueue at h
  rw [Option.map_eq_some_iff] at h
  obtain ⟨_, -, rfl⟩ := h
  simp

theorem sendHunt_frame {k : DownKind} {a : Nat} {s t : State} (h : sendHunt k a s = some t) :
    t.time = s.time ∧ t.due = s.due ∧ t.port = s.port ∧ t.meas = s.meas ∧ t.prot = s.prot ∧
    t.store = s.store ∧ t.regime = s.regime ∧ t.brk = s.brk ∧ t.seq = s.seq ∧ t.mon = s.mon ∧
    t.adm = s.adm ∧ t.host = s.host ∧ t.resetLow = s.resetLow ∧ t.freeIx = s.freeIx ∧ t.pending = s.pending := by
  unfold sendHunt at h
  split at h
  · cases h
    simp
  · rw [Option.map_eq_some_iff] at h
    obtain ⟨_, hj, rfl⟩ := h
    have := joinQueue_frame hj
    simp [this]

@[simp] theorem beginSteps_frame (u : Option Nat) (l : List HuntStep) (s : State) :
    (beginSteps u l s).time = s.time ∧ (beginSteps u l s).due = s.due ∧ (beginSteps u l s).port = s.port ∧
    (beginSteps u l s).meas = s.meas ∧ (beginSteps u l s).prot = s.prot ∧ (beginSteps u l s).store = s.store ∧
    (beginSteps u l s).regime = s.regime ∧ (beginSteps u l s).adm = s.adm ∧
    (beginSteps u l s).resetLow = s.resetLow ∧ (beginSteps u l s).freeIx = s.freeIx ∧
    (beginSteps u l s).pending = s.pending := by
  induction l generalizing s with
  | nil => simp [beginSteps]
  | cons st rest ih =>
    unfold beginSteps
    dsimp only
    split
    · split
      · have := sendHunt_frame ‹_›
        simp [this]
      · simp [ih]
    · simp [ih]

@[simp] theorem continueHunt_frame (u : Option Nat) (s : State) :
    (continueHunt u s).time = s.time ∧ (continueHunt u s).due = s.due ∧ (continueHunt u s).port = s.port ∧
    (continueHunt u s).meas = s.meas ∧ (continueHunt u s).prot = s.prot ∧ (continueHunt u s).store = s.store ∧
    (continueHunt u s).regime = s.regime ∧ (continueHunt u s).adm = s.adm ∧
    (continueHunt u s).resetLow = s.resetLow ∧ (continueHunt u s).freeIx = s.freeIx ∧
    (continueHunt u s).pending = s.pending := by
  simp [continueHunt]

@[simp] theorem stepOver_frame (r : StepResult) (u : Option Nat) (s : State) :
    (stepOver r u s).time = s.time ∧ (stepOver r u s).due = s.due ∧ (stepOver r u s).port = s.port ∧
    (stepOver r u s).meas = s.meas ∧ (stepOver r u s).prot = s.prot ∧ (stepOver r u s).store = s.store ∧
    (stepOver r u s).regime = s.regime ∧ (stepOver r u s).adm = s.adm ∧ (stepOver r u s).resetLow = s.resetLow ∧
    (stepOver r u s).freeIx = s.freeIx ∧
    (stepOver r u s).pending = s.pending := by
  simp [stepOver]

@[simp] theorem restoreFailed_frame (u : Option Nat) (s : State) :
    (restoreFailed u s).time = s.time ∧ (restoreFailed u s).due = s.due ∧ (restoreFailed u s).port = s.port ∧
    (restoreFailed u s).meas = s.meas ∧ (restoreFailed u s).prot = s.prot ∧
    (restoreFailed u s).store = s.store ∧ (restoreFailed u s).regime = s.regime ∧
    (restoreFailed u s).adm = s.adm ∧ (restoreFailed u s).resetLow = s.resetLow ∧
    (restoreFailed u s).freeIx = s.freeIx ∧
    (restoreFailed u s).pending = s.pending := by
  simp [restoreFailed]

@[simp] theorem huntAbort_frame (c : AbortCause) (s : State) :
    (huntAbort c s).time = s.time ∧ (huntAbort c s).due = s.due ∧ (huntAbort c s).port = s.port ∧
    (huntAbort c s).meas = s.meas ∧ (huntAbort c s).prot = s.prot ∧ (huntAbort c s).store = s.store ∧
    (huntAbort c s).regime = s.regime ∧ (huntAbort c s).adm = s.adm ∧ (huntAbort c s).resetLow = s.resetLow ∧
    (huntAbort c s).freeIx = s.freeIx ∧
    (huntAbort c s).pending = s.pending := by
  unfold huntAbort
  (repeat' split) <;> simp

@[simp] theorem huntBarArrival_frame (b : State) (s : State) :
    (huntBarArrival b s).time = s.time ∧ (huntBarArrival b s).due = s.due ∧ (huntBarArrival b s).port = s.port ∧
    (huntBarArrival b s).meas = s.meas ∧ (huntBarArrival b s).prot = s.prot ∧
    (huntBarArrival b s).store = s.store ∧ (huntBarArrival b s).regime = s.regime ∧
    (huntBarArrival b s).adm = s.adm ∧ (huntBarArrival b s).resetLow = s.resetLow ∧
    (huntBarArrival b s).freeIx = s.freeIx ∧
    (huntBarArrival b s).pending = s.pending := by
  unfold huntBarArrival
  (repeat' split) <;> simp

@[simp] theorem setCondition_frame (c : Cond) (a : Bool) (s : State) :
    (setCondition c a s).time = s.time ∧ (setCondition c a s).due = s.due ∧ (setCondition c a s).port = s.port ∧
    (setCondition c a s).meas = s.meas ∧ (setCondition c a s).prot = s.prot ∧
    (setCondition c a s).store = s.store ∧ (setCondition c a s).regime = s.regime ∧
    (setCondition c a s).adm = s.adm ∧ (setCondition c a s).resetLow = s.resetLow ∧
    (setCondition c a s).freeIx = s.freeIx ∧
    (setCondition c a s).pending = s.pending := by
  simp [setCondition]

@[simp] theorem applyTable_frame  (s : State) :
    (applyTable s).time = s.time ∧ (applyTable s).due = s.due ∧ (applyTable s).port = s.port ∧
    (applyTable s).meas = s.meas ∧ (applyTable s).prot = s.prot ∧ (applyTable s).store = s.store ∧
    (applyTable s).regime = s.regime ∧ (applyTable s).adm = s.adm ∧ (applyTable s).resetLow = s.resetLow ∧
    (applyTable s).freeIx = s.freeIx ∧
    (applyTable s).pending = s.pending := by
  simp [applyTable]

@[simp] theorem startHuntNow_frame (o : Option HuntOrigin) (s : State) :
    (startHuntNow o s).time = s.time ∧ (startHuntNow o s).due = s.due ∧ (startHuntNow o s).port = s.port ∧
    (startHuntNow o s).meas = s.meas ∧ (startHuntNow o s).prot = s.prot ∧ (startHuntNow o s).store = s.store ∧
    (startHuntNow o s).regime = s.regime ∧ (startHuntNow o s).adm = s.adm ∧
    (startHuntNow o s).resetLow = s.resetLow ∧ (startHuntNow o s).freeIx = s.freeIx ∧
    (startHuntNow o s).pending = s.pending := by
  simp [startHuntNow]

@[simp] theorem admitHunt_frame (o : HuntOrigin) (s : State) :
    (admitHunt o s).time = s.time ∧ (admitHunt o s).due = s.due ∧ (admitHunt o s).port = s.port ∧
    (admitHunt o s).meas = s.meas ∧ (admitHunt o s).prot = s.prot ∧ (admitHunt o s).store = s.store ∧
    (admitHunt o s).regime = s.regime ∧ (admitHunt o s).adm = s.adm ∧ (admitHunt o s).resetLow = s.resetLow ∧
    (admitHunt o s).freeIx = s.freeIx ∧
    (admitHunt o s).pending = s.pending := by
  unfold admitHunt
  (repeat' split) <;> simp

@[simp] theorem huntNotStarted_frame (r : NotStarted) (o : Option HuntOrigin) (s : State) :
    (huntNotStarted r o s).time = s.time ∧ (huntNotStarted r o s).due = s.due ∧
    (huntNotStarted r o s).port = s.port ∧ (huntNotStarted r o s).meas = s.meas ∧
    (huntNotStarted r o s).prot = s.prot ∧ (huntNotStarted r o s).store = s.store ∧
    (huntNotStarted r o s).regime = s.regime ∧ (huntNotStarted r o s).adm = s.adm ∧
    (huntNotStarted r o s).resetLow = s.resetLow ∧ (huntNotStarted r o s).freeIx = s.freeIx ∧
    (huntNotStarted r o s).pending = s.pending := by
  simp [huntNotStarted]

@[simp] theorem huntRequestSef_frame  (s : State) :
    (huntRequestSef s).time = s.time ∧ (huntRequestSef s).due = s.due ∧ (huntRequestSef s).port = s.port ∧
    (huntRequestSef s).meas = s.meas ∧ (huntRequestSef s).prot = s.prot ∧ (huntRequestSef s).store = s.store ∧
    (huntRequestSef s).regime = s.regime ∧ (huntRequestSef s).adm = s.adm ∧
    (huntRequestSef s).resetLow = s.resetLow ∧ (huntRequestSef s).freeIx = s.freeIx ∧
    (huntRequestSef s).pending = s.pending := by
  unfold huntRequestSef
  (repeat' split) <;> simp

@[simp] theorem huntWindowClosed_frame  (s : State) :
    (huntWindowClosed s).time = s.time ∧ (huntWindowClosed s).due = s.due ∧ (huntWindowClosed s).port = s.port ∧
    (huntWindowClosed s).meas = s.meas ∧ (huntWindowClosed s).prot = s.prot ∧
    (huntWindowClosed s).store = s.store ∧ (huntWindowClosed s).regime = s.regime ∧
    (huntWindowClosed s).adm = s.adm ∧ (huntWindowClosed s).resetLow = s.resetLow ∧
    (huntWindowClosed s).freeIx = s.freeIx ∧
    (huntWindowClosed s).pending = s.pending := by
  unfold huntWindowClosed
  (repeat' split) <;> simp

@[simp] theorem huntGroupChange_frame  (s : State) :
    (huntGroupChange s).time = s.time ∧ (huntGroupChange s).due = s.due ∧ (huntGroupChange s).port = s.port ∧
    (huntGroupChange s).meas = s.meas ∧ (huntGroupChange s).prot = s.prot ∧
    (huntGroupChange s).store = s.store ∧ (huntGroupChange s).regime = s.regime ∧
    (huntGroupChange s).adm = s.adm ∧ (huntGroupChange s).resetLow = s.resetLow ∧
    (huntGroupChange s).freeIx = s.freeIx ∧
    (huntGroupChange s).pending = s.pending := by
  unfold huntGroupChange
  (repeat' split) <;> simp

@[simp] theorem startSwitchWait_frame  (s : State) :
    (startSwitchWait s).time = s.time ∧ (startSwitchWait s).due = s.due ∧ (startSwitchWait s).port = s.port ∧
    (startSwitchWait s).meas = s.meas ∧ (startSwitchWait s).prot = s.prot ∧
    (startSwitchWait s).store = s.store ∧ (startSwitchWait s).regime = s.regime ∧
    (startSwitchWait s).brk = s.brk ∧ (startSwitchWait s).seq = s.seq ∧ (startSwitchWait s).mon = s.mon ∧
    (startSwitchWait s).pilot = s.pilot ∧ (startSwitchWait s).adm = s.adm ∧ (startSwitchWait s).host = s.host ∧
    (startSwitchWait s).resetLow = s.resetLow ∧ (startSwitchWait s).freeIx = s.freeIx ∧
    (startSwitchWait s).pending = s.pending := by
  simp [startSwitchWait]

@[simp] theorem sendHeldHunt_frame  (s : State) :
    (sendHeldHunt s).time = s.time ∧ (sendHeldHunt s).due = s.due ∧ (sendHeldHunt s).port = s.port ∧
    (sendHeldHunt s).meas = s.meas ∧ (sendHeldHunt s).prot = s.prot ∧ (sendHeldHunt s).store = s.store ∧
    (sendHeldHunt s).regime = s.regime ∧ (sendHeldHunt s).adm = s.adm ∧ (sendHeldHunt s).resetLow = s.resetLow ∧
    (sendHeldHunt s).freeIx = s.freeIx ∧
    (sendHeldHunt s).pending = s.pending := by
  unfold sendHeldHunt
  split <;> (try split) <;> first | simp | (have := sendHunt_frame ‹_›; simp [this])

@[simp] theorem huntOutcome_frame (o : DownOutcome) (s : State) :
    (huntOutcome o s).time = s.time ∧ (huntOutcome o s).due = s.due ∧ (huntOutcome o s).port = s.port ∧
    (huntOutcome o s).meas = s.meas ∧ (huntOutcome o s).prot = s.prot ∧ (huntOutcome o s).store = s.store ∧
    (huntOutcome o s).regime = s.regime ∧ (huntOutcome o s).adm = s.adm ∧ (huntOutcome o s).resetLow = s.resetLow ∧
    (huntOutcome o s).freeIx = s.freeIx ∧
    (huntOutcome o s).pending = s.pending := by
  unfold huntOutcome
  (repeat' split) <;> simp

@[simp] theorem huntSwitchDone_frame (a : Nat) (r : SwitchResult) (s : State) :
    (huntSwitchDone a r s).time = s.time ∧ (huntSwitchDone a r s).due = s.due ∧
    (huntSwitchDone a r s).port = s.port ∧ (huntSwitchDone a r s).meas = s.meas ∧
    (huntSwitchDone a r s).prot = s.prot ∧ (huntSwitchDone a r s).store = s.store ∧
    (huntSwitchDone a r s).regime = s.regime ∧ (huntSwitchDone a r s).adm = s.adm ∧
    (huntSwitchDone a r s).resetLow = s.resetLow ∧ (huntSwitchDone a r s).freeIx = s.freeIx ∧
    (huntSwitchDone a r s).pending = s.pending := by
  unfold huntSwitchDone
  (repeat' split) <;> simp

@[simp] theorem beginRestore_frame  (s : State) :
    (beginRestore s).time = s.time ∧ (beginRestore s).due = s.due ∧ (beginRestore s).port = s.port ∧
    (beginRestore s).meas = s.meas ∧ (beginRestore s).prot = s.prot ∧ (beginRestore s).store = s.store ∧
    (beginRestore s).regime = s.regime ∧ (beginRestore s).adm = s.adm ∧ (beginRestore s).resetLow = s.resetLow ∧
    (beginRestore s).freeIx = s.freeIx ∧
    (beginRestore s).pending = s.pending := by
  unfold beginRestore
  dsimp only
  split
  · have := sendHunt_frame ‹_›
    simp [this]
  · simp

@[simp] theorem judgeDwell_frame  (s : State) :
    (judgeDwell s).time = s.time ∧ (judgeDwell s).due = s.due ∧ (judgeDwell s).port = s.port ∧
    (judgeDwell s).meas = s.meas ∧ (judgeDwell s).prot = s.prot ∧ (judgeDwell s).store = s.store ∧
    (judgeDwell s).regime = s.regime ∧ (judgeDwell s).adm = s.adm ∧ (judgeDwell s).resetLow = s.resetLow ∧
    (judgeDwell s).freeIx = s.freeIx ∧
    (judgeDwell s).pending = s.pending := by
  unfold judgeDwell
  (repeat' split) <;> simp

end Sys2Proof.Machine
end

