-- ==== Sys2Proof/Laws/AdmissionFrames.lean ====
section
/-! SUPPORT. What each operation of Machine/Admission.lean leaves unchanged, whatever else it does. -/

namespace Sys2Proof.Machine

@[simp] theorem startReport_frame (n : Nat) (e : StartEvent) (c : Option StartCause) (so : Option Nat) (w : Option (Nat × Nat)) (s : State) :
    (startReport n e c so w s).time = s.time ∧ (startReport n e c so w s).due = s.due ∧
    (startReport n e c so w s).port = s.port ∧ (startReport n e c so w s).meas = s.meas ∧
    (startReport n e c so w s).prot = s.prot ∧ (startReport n e c so w s).store = s.store ∧
    (startReport n e c so w s).regime = s.regime ∧ (startReport n e c so w s).brk = s.brk ∧
    (startReport n e c so w s).seq = s.seq ∧ (startReport n e c so w s).mon = s.mon ∧
    (startReport n e c so w s).pilot = s.pilot ∧ (startReport n e c so w s).hunt = s.hunt ∧
    (startReport n e c so w s).adm = s.adm ∧ (startReport n e c so w s).resetLow = s.resetLow ∧
    (startReport n e c so w s).freeIx = s.freeIx ∧
    (startReport n e c so w s).pending = s.pending := by
  simp [startReport]

@[simp] theorem queueRelease_frame (n a : Nat) (s : State) :
    (queueRelease n a s).time = s.time ∧ (queueRelease n a s).due = s.due ∧ (queueRelease n a s).port = s.port ∧
    (queueRelease n a s).meas = s.meas ∧ (queueRelease n a s).prot = s.prot ∧
    (queueRelease n a s).store = s.store ∧ (queueRelease n a s).regime = s.regime ∧
    (queueRelease n a s).brk = s.brk ∧ (queueRelease n a s).seq = s.seq ∧ (queueRelease n a s).mon = s.mon ∧
    (queueRelease n a s).hunt = s.hunt ∧ (queueRelease n a s).resetLow = s.resetLow ∧
    (queueRelease n a s).freeIx = s.freeIx ∧
    (queueRelease n a s).pending = s.pending := by
  unfold queueRelease
  split
  · simp
  · split
    · have := joinQueue_frame ‹_›
      simp [this]
    · simp

@[simp] theorem settleGrant_frame (w : StartWindow) (b : Bool) (s : State) :
    (settleGrant w b s).time = s.time ∧ (settleGrant w b s).due = s.due ∧ (settleGrant w b s).port = s.port ∧
    (settleGrant w b s).meas = s.meas ∧ (settleGrant w b s).prot = s.prot ∧
    (settleGrant w b s).store = s.store ∧ (settleGrant w b s).regime = s.regime ∧
    (settleGrant w b s).brk = s.brk ∧ (settleGrant w b s).seq = s.seq ∧ (settleGrant w b s).mon = s.mon ∧
    (settleGrant w b s).hunt = s.hunt ∧ (settleGrant w b s).resetLow = s.resetLow ∧
    (settleGrant w b s).freeIx = s.freeIx ∧
    (settleGrant w b s).pending = s.pending := by
  unfold settleGrant
  (repeat' split) <;> simp

@[simp] theorem endWindow_frame (c : StartCause) (s : State) :
    (endWindow c s).time = s.time ∧ (endWindow c s).due = s.due ∧ (endWindow c s).port = s.port ∧
    (endWindow c s).meas = s.meas ∧ (endWindow c s).prot = s.prot ∧ (endWindow c s).store = s.store ∧
    (endWindow c s).regime = s.regime ∧ (endWindow c s).resetLow = s.resetLow ∧ (endWindow c s).freeIx = s.freeIx ∧
    (endWindow c s).pending = s.pending := by
  unfold endWindow
  (repeat' split) <;> simp

@[simp] theorem queueGrant_frame (w : StartWindow) (s : State) :
    (queueGrant w s).time = s.time ∧ (queueGrant w s).due = s.due ∧ (queueGrant w s).port = s.port ∧
    (queueGrant w s).meas = s.meas ∧ (queueGrant w s).prot = s.prot ∧ (queueGrant w s).store = s.store ∧
    (queueGrant w s).regime = s.regime ∧ (queueGrant w s).resetLow = s.resetLow ∧ (queueGrant w s).freeIx = s.freeIx ∧
    (queueGrant w s).pending = s.pending := by
  unfold queueGrant
  split
  · simp
  · split
    · have := joinQueue_frame ‹_›
      simp [this]
    · simp

@[simp] theorem sendReleaseDue_frame  (s : State) :
    (sendReleaseDue s).time = s.time ∧ (sendReleaseDue s).due = s.due ∧ (sendReleaseDue s).port = s.port ∧
    (sendReleaseDue s).meas = s.meas ∧ (sendReleaseDue s).prot = s.prot ∧ (sendReleaseDue s).store = s.store ∧
    (sendReleaseDue s).regime = s.regime ∧ (sendReleaseDue s).brk = s.brk ∧ (sendReleaseDue s).seq = s.seq ∧
    (sendReleaseDue s).mon = s.mon ∧ (sendReleaseDue s).hunt = s.hunt ∧ (sendReleaseDue s).resetLow = s.resetLow ∧
    (sendReleaseDue s).freeIx = s.freeIx ∧
    (sendReleaseDue s).pending = s.pending := by
  unfold sendReleaseDue
  (repeat' split) <;> simp

@[simp] theorem sendHeldGrant_frame  (s : State) :
    (sendHeldGrant s).time = s.time ∧ (sendHeldGrant s).due = s.due ∧ (sendHeldGrant s).port = s.port ∧
    (sendHeldGrant s).meas = s.meas ∧ (sendHeldGrant s).prot = s.prot ∧ (sendHeldGrant s).store = s.store ∧
    (sendHeldGrant s).regime = s.regime ∧ (sendHeldGrant s).resetLow = s.resetLow ∧
    (sendHeldGrant s).freeIx = s.freeIx ∧
    (sendHeldGrant s).pending = s.pending := by
  unfold sendHeldGrant
  (repeat' split) <;> simp

@[simp] theorem admOutcomeEffect_frame (m : StartMessage) (o : DownOutcome) (s : State) :
    (admOutcomeEffect m o s).time = s.time ∧ (admOutcomeEffect m o s).due = s.due ∧
    (admOutcomeEffect m o s).port = s.port ∧ (admOutcomeEffect m o s).meas = s.meas ∧
    (admOutcomeEffect m o s).prot = s.prot ∧ (admOutcomeEffect m o s).store = s.store ∧
    (admOutcomeEffect m o s).regime = s.regime ∧ (admOutcomeEffect m o s).resetLow = s.resetLow ∧
    (admOutcomeEffect m o s).freeIx = s.freeIx ∧
    (admOutcomeEffect m o s).pending = s.pending := by
  unfold admOutcomeEffect
  (repeat' split) <;> simp

@[simp] theorem admOutcome_frame (o : DownOutcome) (s : State) :
    (admOutcome o s).time = s.time ∧ (admOutcome o s).due = s.due ∧ (admOutcome o s).port = s.port ∧
    (admOutcome o s).meas = s.meas ∧ (admOutcome o s).prot = s.prot ∧ (admOutcome o s).store = s.store ∧
    (admOutcome o s).regime = s.regime ∧ (admOutcome o s).resetLow = s.resetLow ∧ (admOutcome o s).freeIx = s.freeIx ∧
    (admOutcome o s).pending = s.pending := by
  unfold admOutcome
  (repeat' split) <;> simp

@[simp] theorem makePending_frame (d : Drive) (n : Nat) (s : State) :
    (makePending d n s).time = s.time ∧ (makePending d n s).due = s.due ∧ (makePending d n s).port = s.port ∧
    (makePending d n s).meas = s.meas ∧ (makePending d n s).prot = s.prot ∧
    (makePending d n s).store = s.store ∧ (makePending d n s).regime = s.regime ∧
    (makePending d n s).brk = s.brk ∧ (makePending d n s).seq = s.seq ∧ (makePending d n s).mon = s.mon ∧
    (makePending d n s).pilot = s.pilot ∧ (makePending d n s).hunt = s.hunt ∧
    (makePending d n s).resetLow = s.resetLow ∧ (makePending d n s).freeIx = s.freeIx ∧
    (makePending d n s).pending = s.pending := by
  simp [makePending]

@[simp] theorem dropPending_frame (n : Nat) (s : State) :
    (dropPending n s).time = s.time ∧ (dropPending n s).due = s.due ∧ (dropPending n s).port = s.port ∧
    (dropPending n s).meas = s.meas ∧ (dropPending n s).prot = s.prot ∧ (dropPending n s).store = s.store ∧
    (dropPending n s).regime = s.regime ∧ (dropPending n s).brk = s.brk ∧ (dropPending n s).seq = s.seq ∧
    (dropPending n s).mon = s.mon ∧ (dropPending n s).pilot = s.pilot ∧ (dropPending n s).hunt = s.hunt ∧
    (dropPending n s).host = s.host ∧ (dropPending n s).resetLow = s.resetLow ∧ (dropPending n s).freeIx = s.freeIx ∧
    (dropPending n s).pending = s.pending := by
  simp [dropPending]

@[simp] theorem withdrawRequest_frame (c : StartCause) (n : Nat) (s : State) :
    (withdrawRequest c s n).time = s.time ∧ (withdrawRequest c s n).due = s.due ∧
    (withdrawRequest c s n).port = s.port ∧ (withdrawRequest c s n).meas = s.meas ∧
    (withdrawRequest c s n).prot = s.prot ∧ (withdrawRequest c s n).store = s.store ∧
    (withdrawRequest c s n).regime = s.regime ∧ (withdrawRequest c s n).brk = s.brk ∧
    (withdrawRequest c s n).seq = s.seq ∧ (withdrawRequest c s n).mon = s.mon ∧
    (withdrawRequest c s n).pilot = s.pilot ∧ (withdrawRequest c s n).hunt = s.hunt ∧
    (withdrawRequest c s n).resetLow = s.resetLow ∧ (withdrawRequest c s n).freeIx = s.freeIx ∧
    (withdrawRequest c s n).pending = s.pending := by
  simp [withdrawRequest]

@[simp] theorem foldl_withdrawRequest_frame (c : StartCause) (l : List Nat) (s : State) :
    (l.foldl (withdrawRequest c) s).time = s.time ∧ (l.foldl (withdrawRequest c) s).due = s.due ∧
    (l.foldl (withdrawRequest c) s).port = s.port ∧ (l.foldl (withdrawRequest c) s).meas = s.meas ∧
    (l.foldl (withdrawRequest c) s).prot = s.prot ∧ (l.foldl (withdrawRequest c) s).store = s.store ∧
    (l.foldl (withdrawRequest c) s).regime = s.regime ∧ (l.foldl (withdrawRequest c) s).brk = s.brk ∧
    (l.foldl (withdrawRequest c) s).seq = s.seq ∧ (l.foldl (withdrawRequest c) s).mon = s.mon ∧
    (l.foldl (withdrawRequest c) s).pilot = s.pilot ∧ (l.foldl (withdrawRequest c) s).hunt = s.hunt ∧
    (l.foldl (withdrawRequest c) s).resetLow = s.resetLow ∧ (l.foldl (withdrawRequest c) s).freeIx = s.freeIx ∧
    (l.foldl (withdrawRequest c) s).pending = s.pending := by
  induction l generalizing s with
  | nil => simp
  | cons n l ih => simp [ih]

@[simp] theorem admStartRequest_frame (a n : Nat) (s : State) :
    (admStartRequest a n s).time = s.time ∧ (admStartRequest a n s).due = s.due ∧
    (admStartRequest a n s).port = s.port ∧ (admStartRequest a n s).meas = s.meas ∧
    (admStartRequest a n s).prot = s.prot ∧ (admStartRequest a n s).store = s.store ∧
    (admStartRequest a n s).regime = s.regime ∧ (admStartRequest a n s).brk = s.brk ∧
    (admStartRequest a n s).seq = s.seq ∧ (admStartRequest a n s).mon = s.mon ∧
    (admStartRequest a n s).pilot = s.pilot ∧ (admStartRequest a n s).hunt = s.hunt ∧
    (admStartRequest a n s).resetLow = s.resetLow ∧ (admStartRequest a n s).freeIx = s.freeIx ∧
    (admStartRequest a n s).pending = s.pending := by
  unfold admStartRequest
  (repeat' split) <;> simp

@[simp] theorem admStartDone_frame (a n : Nat) (s : State) :
    (admStartDone a n s).time = s.time ∧ (admStartDone a n s).due = s.due ∧ (admStartDone a n s).port = s.port ∧
    (admStartDone a n s).meas = s.meas ∧ (admStartDone a n s).prot = s.prot ∧
    (admStartDone a n s).store = s.store ∧ (admStartDone a n s).regime = s.regime ∧
    (admStartDone a n s).resetLow = s.resetLow ∧ (admStartDone a n s).freeIx = s.freeIx ∧
    (admStartDone a n s).pending = s.pending := by
  unfold admStartDone
  (repeat' split) <;> simp

@[simp] theorem admStartAbandon_frame (a n : Nat) (s : State) :
    (admStartAbandon a n s).time = s.time ∧ (admStartAbandon a n s).due = s.due ∧
    (admStartAbandon a n s).port = s.port ∧ (admStartAbandon a n s).meas = s.meas ∧
    (admStartAbandon a n s).prot = s.prot ∧ (admStartAbandon a n s).store = s.store ∧
    (admStartAbandon a n s).regime = s.regime ∧ (admStartAbandon a n s).resetLow = s.resetLow ∧
    (admStartAbandon a n s).freeIx = s.freeIx ∧
    (admStartAbandon a n s).pending = s.pending := by
  unfold admStartAbandon
  (repeat' split) <;> simp

@[simp] theorem admPoint_frame (q : Multiples) (s : State) :
    (admPoint q s).time = s.time ∧ (admPoint q s).due = s.due ∧ (admPoint q s).port = s.port ∧
    (admPoint q s).meas = s.meas ∧ (admPoint q s).prot = s.prot ∧ (admPoint q s).store = s.store ∧
    (admPoint q s).regime = s.regime ∧ (admPoint q s).brk = s.brk ∧ (admPoint q s).seq = s.seq ∧
    (admPoint q s).mon = s.mon ∧ (admPoint q s).pilot = s.pilot ∧ (admPoint q s).hunt = s.hunt ∧
    (admPoint q s).host = s.host ∧ (admPoint q s).resetLow = s.resetLow ∧ (admPoint q s).freeIx = s.freeIx ∧
    (admPoint q s).pending = s.pending := by
  unfold admPoint
  (repeat' split) <;> simp

@[simp] theorem afterRestoration_frame  (s : State) :
    (afterRestoration s).time = s.time ∧ (afterRestoration s).due = s.due ∧ (afterRestoration s).port = s.port ∧
    (afterRestoration s).meas = s.meas ∧ (afterRestoration s).prot = s.prot ∧
    (afterRestoration s).store = s.store ∧ (afterRestoration s).regime = s.regime ∧
    (afterRestoration s).brk = s.brk ∧ (afterRestoration s).seq = s.seq ∧ (afterRestoration s).mon = s.mon ∧
    (afterRestoration s).pilot = s.pilot ∧ (afterRestoration s).hunt = s.hunt ∧
    (afterRestoration s).host = s.host ∧ (afterRestoration s).resetLow = s.resetLow ∧
    (afterRestoration s).freeIx = s.freeIx ∧
    (afterRestoration s).pending = s.pending := by
  unfold afterRestoration
  (repeat' split) <;> simp

@[simp] theorem openWindow_frame (d : Drive) (s : State) :
    (openWindow d s).time = s.time ∧ (openWindow d s).due = s.due ∧ (openWindow d s).port = s.port ∧
    (openWindow d s).meas = s.meas ∧ (openWindow d s).prot = s.prot ∧ (openWindow d s).store = s.store ∧
    (openWindow d s).regime = s.regime ∧ (openWindow d s).resetLow = s.resetLow ∧ (openWindow d s).freeIx = s.freeIx ∧
    (openWindow d s).pending = s.pending := by
  unfold openWindow
  (repeat' split) <;> simp

@[simp] theorem rebuildDrives_frame (l : List DriveEntry) (s : State) :
    (rebuildDrives l s).time = s.time ∧ (rebuildDrives l s).due = s.due ∧ (rebuildDrives l s).port = s.port ∧
    (rebuildDrives l s).meas = s.meas ∧ (rebuildDrives l s).prot = s.prot ∧
    (rebuildDrives l s).store = s.store ∧ (rebuildDrives l s).regime = s.regime ∧
    (rebuildDrives l s).resetLow = s.resetLow ∧ (rebuildDrives l s).freeIx = s.freeIx ∧
    (rebuildDrives l s).pending = s.pending := by
  unfold rebuildDrives
  dsimp only
  split <;> simp

@[simp] theorem drivesInvalid_frame  (s : State) :
    (drivesInvalid s).time = s.time ∧ (drivesInvalid s).due = s.due ∧ (drivesInvalid s).port = s.port ∧
    (drivesInvalid s).meas = s.meas ∧ (drivesInvalid s).prot = s.prot ∧ (drivesInvalid s).store = s.store ∧
    (drivesInvalid s).regime = s.regime ∧ (drivesInvalid s).brk = s.brk ∧ (drivesInvalid s).seq = s.seq ∧
    (drivesInvalid s).mon = s.mon ∧ (drivesInvalid s).pilot = s.pilot ∧ (drivesInvalid s).hunt = s.hunt ∧
    (drivesInvalid s).resetLow = s.resetLow ∧ (drivesInvalid s).freeIx = s.freeIx ∧
    (drivesInvalid s).pending = s.pending := by
  simp [drivesInvalid]

end Sys2Proof.Machine
end

