-- ==== Sys2Proof/Laws/CoilsFrames.lean ====
section
/-! SUPPORT. What each operation of Machine/Coils.lean leaves unchanged, whatever else it does. -/

namespace Sys2Proof.Machine

@[simp] theorem withdrawClose_frame  (s : State) :
    (withdrawClose s).time = s.time ∧ (withdrawClose s).due = s.due ∧ (withdrawClose s).port = s.port ∧
    (withdrawClose s).meas = s.meas ∧ (withdrawClose s).prot = s.prot ∧ (withdrawClose s).store = s.store ∧
    (withdrawClose s).regime = s.regime ∧ (withdrawClose s).mon = s.mon ∧ (withdrawClose s).pilot = s.pilot ∧
    (withdrawClose s).hunt = s.hunt ∧ (withdrawClose s).adm = s.adm ∧ (withdrawClose s).host = s.host ∧
    (withdrawClose s).resetLow = s.resetLow ∧ (withdrawClose s).freeIx = s.freeIx ∧
    (withdrawClose s).pending = s.pending := by
  unfold withdrawClose
  (repeat' split) <;> simp

@[simp] theorem assertTrip_frame (o : TripOrigin) (s : State) :
    (assertTrip o s).time = s.time ∧ (assertTrip o s).due = s.due ∧ (assertTrip o s).port = s.port ∧
    (assertTrip o s).meas = s.meas ∧ (assertTrip o s).prot = s.prot ∧ (assertTrip o s).store = s.store ∧
    (assertTrip o s).regime = s.regime ∧ (assertTrip o s).mon = s.mon ∧ (assertTrip o s).pilot = s.pilot ∧
    (assertTrip o s).hunt = s.hunt ∧ (assertTrip o s).adm = s.adm ∧ (assertTrip o s).host = s.host ∧
    (assertTrip o s).resetLow = s.resetLow ∧ (assertTrip o s).freeIx = s.freeIx ∧
    (assertTrip o s).pending = s.pending := by
  simp [assertTrip]

@[simp] theorem tripRequest_frame (o : TripOrigin) (s : State) :
    (tripRequest o s).time = s.time ∧ (tripRequest o s).due = s.due ∧ (tripRequest o s).port = s.port ∧
    (tripRequest o s).meas = s.meas ∧ (tripRequest o s).prot = s.prot ∧ (tripRequest o s).store = s.store ∧
    (tripRequest o s).regime = s.regime ∧ (tripRequest o s).mon = s.mon ∧ (tripRequest o s).pilot = s.pilot ∧
    (tripRequest o s).hunt = s.hunt ∧ (tripRequest o s).adm = s.adm ∧ (tripRequest o s).host = s.host ∧
    (tripRequest o s).resetLow = s.resetLow ∧ (tripRequest o s).freeIx = s.freeIx ∧
    (tripRequest o s).pending = s.pending := by
  unfold tripRequest
  (repeat' split) <;> simp

@[simp] theorem assertClose_frame (o : CloseOrigin) (s : State) :
    (assertClose o s).time = s.time ∧ (assertClose o s).due = s.due ∧ (assertClose o s).port = s.port ∧
    (assertClose o s).meas = s.meas ∧ (assertClose o s).prot = s.prot ∧ (assertClose o s).store = s.store ∧
    (assertClose o s).regime = s.regime ∧ (assertClose o s).seq = s.seq ∧ (assertClose o s).mon = s.mon ∧
    (assertClose o s).pilot = s.pilot ∧ (assertClose o s).hunt = s.hunt ∧ (assertClose o s).adm = s.adm ∧
    (assertClose o s).host = s.host ∧ (assertClose o s).resetLow = s.resetLow ∧ (assertClose o s).freeIx = s.freeIx ∧
    (assertClose o s).pending = s.pending := by
  simp [assertClose]

@[simp] theorem closeRequest_frame (o : CloseOrigin) (s : State) :
    (closeRequest o s).time = s.time ∧ (closeRequest o s).due = s.due ∧ (closeRequest o s).port = s.port ∧
    (closeRequest o s).meas = s.meas ∧ (closeRequest o s).prot = s.prot ∧ (closeRequest o s).store = s.store ∧
    (closeRequest o s).regime = s.regime ∧ (closeRequest o s).seq = s.seq ∧ (closeRequest o s).mon = s.mon ∧
    (closeRequest o s).pilot = s.pilot ∧ (closeRequest o s).hunt = s.hunt ∧ (closeRequest o s).adm = s.adm ∧
    (closeRequest o s).host = s.host ∧ (closeRequest o s).resetLow = s.resetLow ∧
    (closeRequest o s).freeIx = s.freeIx ∧
    (closeRequest o s).pending = s.pending := by
  unfold closeRequest
  (repeat' split) <;> simp

end Sys2Proof.Machine
end

