-- ==== Sys2Proof/Laws/SequencerFrames.lean ====
section
/-! SUPPORT. What each operation of Machine/Sequencer.lean leaves unchanged, whatever else it does. -/

namespace Sys2Proof.Machine

@[simp] theorem seqMove_frame (r : Sequencer) (e : SeqEvent) (o : Option ChangeOrigin) (s : State) :
    (seqMove r e o s).time = s.time ∧ (seqMove r e o s).due = s.due ∧ (seqMove r e o s).port = s.port ∧
    (seqMove r e o s).meas = s.meas ∧ (seqMove r e o s).prot = s.prot ∧ (seqMove r e o s).store = s.store ∧
    (seqMove r e o s).regime = s.regime ∧ (seqMove r e o s).resetLow = s.resetLow ∧
    (seqMove r e o s).freeIx = s.freeIx ∧
    (seqMove r e o s).pending = s.pending := by
  unfold seqMove
  (repeat' split) <;> simp

@[simp] theorem tripFromClosed_frame (t : LastTrip) (s : State) :
    (tripFromClosed t s).time = s.time ∧ (tripFromClosed t s).due = s.due ∧ (tripFromClosed t s).port = s.port ∧
    (tripFromClosed t s).meas = s.meas ∧ (tripFromClosed t s).prot = s.prot ∧
    (tripFromClosed t s).store = s.store ∧ (tripFromClosed t s).regime = s.regime ∧
    (tripFromClosed t s).resetLow = s.resetLow ∧ (tripFromClosed t s).freeIx = s.freeIx ∧
    (tripFromClosed t s).pending = s.pending := by
  unfold tripFromClosed
  (repeat' split) <;> simp

@[simp] theorem seqTrip_frame (t : LastTrip) (s : State) :
    (seqTrip t s).time = s.time ∧ (seqTrip t s).due = s.due ∧ (seqTrip t s).port = s.port ∧
    (seqTrip t s).meas = s.meas ∧ (seqTrip t s).prot = s.prot ∧ (seqTrip t s).store = s.store ∧
    (seqTrip t s).regime = s.regime ∧ (seqTrip t s).resetLow = s.resetLow ∧ (seqTrip t s).freeIx = s.freeIx ∧
    (seqTrip t s).pending = s.pending := by
  unfold seqTrip
  (repeat' split) <;> simp

@[simp] theorem openJudgement_frame (o : ChangeOrigin) (s : State) :
    (openJudgement o s).time = s.time ∧ (openJudgement o s).due = s.due ∧ (openJudgement o s).port = s.port ∧
    (openJudgement o s).meas = s.meas ∧ (openJudgement o s).prot = s.prot ∧
    (openJudgement o s).store = s.store ∧ (openJudgement o s).regime = s.regime ∧
    (openJudgement o s).resetLow = s.resetLow ∧ (openJudgement o s).freeIx = s.freeIx ∧
    (openJudgement o s).pending = s.pending := by
  unfold openJudgement
  repeat' ((try dsimp only); split)
  all_goals simp

@[simp] theorem externalClosing_frame (o : ChangeOrigin) (s : State) :
    (externalClosing o s).time = s.time ∧ (externalClosing o s).due = s.due ∧
    (externalClosing o s).port = s.port ∧ (externalClosing o s).meas = s.meas ∧
    (externalClosing o s).prot = s.prot ∧ (externalClosing o s).store = s.store ∧
    (externalClosing o s).regime = s.regime ∧ (externalClosing o s).resetLow = s.resetLow ∧
    (externalClosing o s).freeIx = s.freeIx ∧
    (externalClosing o s).pending = s.pending := by
  simp [externalClosing]

@[simp] theorem initialChange_frame (n : BreakerPos) (s : State) :
    (initialChange n s).time = s.time ∧ (initialChange n s).due = s.due ∧ (initialChange n s).port = s.port ∧
    (initialChange n s).meas = s.meas ∧ (initialChange n s).prot = s.prot ∧
    (initialChange n s).store = s.store ∧ (initialChange n s).regime = s.regime ∧
    (initialChange n s).resetLow = s.resetLow ∧ (initialChange n s).freeIx = s.freeIx ∧
    (initialChange n s).pending = s.pending := by
  unfold initialChange
  (repeat' split) <;> simp

@[simp] theorem laterChange_frame (n : BreakerPos) (o : ChangeOrigin) (b : Bool) (s : State) :
    (laterChange n o b s).time = s.time ∧ (laterChange n o b s).due = s.due ∧
    (laterChange n o b s).port = s.port ∧ (laterChange n o b s).meas = s.meas ∧
    (laterChange n o b s).prot = s.prot ∧ (laterChange n o b s).store = s.store ∧
    (laterChange n o b s).regime = s.regime ∧ (laterChange n o b s).resetLow = s.resetLow ∧
    (laterChange n o b s).freeIx = s.freeIx ∧
    (laterChange n o b s).pending = s.pending := by
  unfold laterChange
  (repeat' split) <;> simp

@[simp] theorem seqBreakerChange_frame (n : BreakerPos) (o : ChangeOrigin) (s : State) :
    (seqBreakerChange n o s).time = s.time ∧ (seqBreakerChange n o s).due = s.due ∧
    (seqBreakerChange n o s).port = s.port ∧ (seqBreakerChange n o s).meas = s.meas ∧
    (seqBreakerChange n o s).prot = s.prot ∧ (seqBreakerChange n o s).store = s.store ∧
    (seqBreakerChange n o s).regime = s.regime ∧ (seqBreakerChange n o s).resetLow = s.resetLow ∧
    (seqBreakerChange n o s).freeIx = s.freeIx ∧
    (seqBreakerChange n o s).pending = s.pending := by
  unfold seqBreakerChange
  (repeat' split) <;> simp

@[simp] theorem seqClosedOk_frame  (s : State) :
    (seqClosedOk s).time = s.time ∧ (seqClosedOk s).due = s.due ∧ (seqClosedOk s).port = s.port ∧
    (seqClosedOk s).meas = s.meas ∧ (seqClosedOk s).prot = s.prot ∧ (seqClosedOk s).store = s.store ∧
    (seqClosedOk s).regime = s.regime ∧ (seqClosedOk s).resetLow = s.resetLow ∧ (seqClosedOk s).freeIx = s.freeIx ∧
    (seqClosedOk s).pending = s.pending := by
  unfold seqClosedOk
  (repeat' split) <;> simp

@[simp] theorem seqTimedOut_frame  (s : State) :
    (seqTimedOut s).time = s.time ∧ (seqTimedOut s).due = s.due ∧ (seqTimedOut s).port = s.port ∧
    (seqTimedOut s).meas = s.meas ∧ (seqTimedOut s).prot = s.prot ∧ (seqTimedOut s).store = s.store ∧
    (seqTimedOut s).regime = s.regime ∧ (seqTimedOut s).resetLow = s.resetLow ∧ (seqTimedOut s).freeIx = s.freeIx ∧
    (seqTimedOut s).pending = s.pending := by
  unfold seqTimedOut
  (repeat' split) <;> simp

@[simp] theorem seqBreakerFail_frame  (s : State) :
    (seqBreakerFail s).time = s.time ∧ (seqBreakerFail s).due = s.due ∧ (seqBreakerFail s).port = s.port ∧
    (seqBreakerFail s).meas = s.meas ∧ (seqBreakerFail s).prot = s.prot ∧ (seqBreakerFail s).store = s.store ∧
    (seqBreakerFail s).regime = s.regime ∧ (seqBreakerFail s).resetLow = s.resetLow ∧
    (seqBreakerFail s).freeIx = s.freeIx ∧
    (seqBreakerFail s).pending = s.pending := by
  unfold seqBreakerFail
  (repeat' split) <;> simp

@[simp] theorem seqGroupChange_frame  (s : State) :
    (seqGroupChange s).time = s.time ∧ (seqGroupChange s).due = s.due ∧ (seqGroupChange s).port = s.port ∧
    (seqGroupChange s).meas = s.meas ∧ (seqGroupChange s).prot = s.prot ∧ (seqGroupChange s).store = s.store ∧
    (seqGroupChange s).regime = s.regime ∧ (seqGroupChange s).resetLow = s.resetLow ∧
    (seqGroupChange s).freeIx = s.freeIx ∧
    (seqGroupChange s).pending = s.pending := by
  unfold seqGroupChange
  (repeat' split) <;> simp

@[simp] theorem deadTimeEnds_frame  (s : State) :
    (deadTimeEnds s).time = s.time ∧ (deadTimeEnds s).due = s.due ∧ (deadTimeEnds s).port = s.port ∧
    (deadTimeEnds s).meas = s.meas ∧ (deadTimeEnds s).prot = s.prot ∧ (deadTimeEnds s).store = s.store ∧
    (deadTimeEnds s).regime = s.regime ∧ (deadTimeEnds s).resetLow = s.resetLow ∧ (deadTimeEnds s).freeIx = s.freeIx ∧
    (deadTimeEnds s).pending = s.pending := by
  unfold deadTimeEnds
  repeat' ((try dsimp only); split)
  all_goals simp

end Sys2Proof.Machine
end

