-- ==== Sys2Proof/Laws/BreakerFrames.lean ====
section
/-! SUPPORT. What each operation of Machine/Breaker.lean leaves unchanged, whatever else it does. -/

namespace Sys2Proof.Machine

@[simp] theorem endSuspension_frame  (s : State) :
    (endSuspension s).time = s.time ∧ (endSuspension s).due = s.due ∧ (endSuspension s).port = s.port ∧
    (endSuspension s).meas = s.meas ∧ (endSuspension s).store = s.store ∧ (endSuspension s).regime = s.regime ∧
    (endSuspension s).brk = s.brk ∧ (endSuspension s).seq = s.seq ∧ (endSuspension s).mon = s.mon ∧
    (endSuspension s).pilot = s.pilot ∧ (endSuspension s).hunt = s.hunt ∧ (endSuspension s).adm = s.adm ∧
    (endSuspension s).host = s.host ∧ (endSuspension s).resetLow = s.resetLow ∧ (endSuspension s).freeIx = s.freeIx ∧
    (endSuspension s).pending = s.pending := by
  simp [endSuspension]

@[simp] theorem completeTrip_frame  (s : State) :
    (completeTrip s).time = s.time ∧ (completeTrip s).due = s.due ∧ (completeTrip s).port = s.port ∧
    (completeTrip s).meas = s.meas ∧ (completeTrip s).prot = s.prot ∧ (completeTrip s).store = s.store ∧
    (completeTrip s).regime = s.regime ∧ (completeTrip s).adm = s.adm ∧ (completeTrip s).resetLow = s.resetLow ∧
    (completeTrip s).freeIx = s.freeIx ∧
    (completeTrip s).pending = s.pending := by
  unfold completeTrip
  (repeat' split) <;> simp

@[simp] theorem completeClose_frame  (s : State) :
    (completeClose s).time = s.time ∧ (completeClose s).due = s.due ∧ (completeClose s).port = s.port ∧
    (completeClose s).meas = s.meas ∧ (completeClose s).prot = s.prot ∧ (completeClose s).store = s.store ∧
    (completeClose s).regime = s.regime ∧ (completeClose s).resetLow = s.resetLow ∧
    (completeClose s).freeIx = s.freeIx ∧
    (completeClose s).pending = s.pending := by
  unfold completeClose
  (repeat' split) <;> simp

@[simp] theorem ownOutputs_frame (n : BreakerPos) (s : State) :
    (ownOutputs n s).time = s.time ∧ (ownOutputs n s).due = s.due ∧ (ownOutputs n s).port = s.port ∧
    (ownOutputs n s).meas = s.meas ∧ (ownOutputs n s).store = s.store ∧ (ownOutputs n s).regime = s.regime ∧
    (ownOutputs n s).resetLow = s.resetLow ∧ (ownOutputs n s).freeIx = s.freeIx ∧
    (ownOutputs n s).pending = s.pending := by
  unfold ownOutputs
  (repeat' split) <;> simp

@[simp] theorem acceptPosition_frame (n : BreakerPos) (s : State) :
    (acceptPosition n s).time = s.time ∧ (acceptPosition n s).due = s.due ∧ (acceptPosition n s).port = s.port ∧
    (acceptPosition n s).meas = s.meas ∧ (acceptPosition n s).store = s.store ∧
    (acceptPosition n s).regime = s.regime ∧ (acceptPosition n s).resetLow = s.resetLow ∧
    (acceptPosition n s).freeIx = s.freeIx ∧
    (acceptPosition n s).pending = s.pending := by
  unfold acceptPosition
  (repeat' split) <;> simp

@[simp] theorem scanPosition_frame (a b : Bool) (s : State) :
    (scanPosition a b s).time = s.time ∧ (scanPosition a b s).due = s.due ∧ (scanPosition a b s).port = s.port ∧
    (scanPosition a b s).meas = s.meas ∧ (scanPosition a b s).store = s.store ∧
    (scanPosition a b s).regime = s.regime ∧ (scanPosition a b s).resetLow = s.resetLow ∧
    (scanPosition a b s).freeIx = s.freeIx ∧
    (scanPosition a b s).pending = s.pending := by
  unfold scanPosition
  (repeat' split) <;> simp

@[simp] theorem scanReady_frame (b : Bool) (s : State) :
    (scanReady b s).time = s.time ∧ (scanReady b s).due = s.due ∧ (scanReady b s).port = s.port ∧
    (scanReady b s).meas = s.meas ∧ (scanReady b s).prot = s.prot ∧ (scanReady b s).store = s.store ∧
    (scanReady b s).regime = s.regime ∧ (scanReady b s).adm = s.adm ∧ (scanReady b s).resetLow = s.resetLow ∧
    (scanReady b s).freeIx = s.freeIx ∧
    (scanReady b s).pending = s.pending := by
  unfold scanReady
  (repeat' split) <;> simp

@[simp] theorem tripTimeout_frame  (s : State) :
    (tripTimeout s).time = s.time ∧ (tripTimeout s).due = s.due ∧ (tripTimeout s).port = s.port ∧
    (tripTimeout s).meas = s.meas ∧ (tripTimeout s).store = s.store ∧ (tripTimeout s).regime = s.regime ∧
    (tripTimeout s).resetLow = s.resetLow ∧ (tripTimeout s).freeIx = s.freeIx ∧
    (tripTimeout s).pending = s.pending := by
  unfold tripTimeout
  (repeat' split) <;> simp

end Sys2Proof.Machine
end

