-- ==== Sys2Proof/Laws/RegimeFrames.lean ====
section
/-! SUPPORT. What each operation of Machine/Regime.lean leaves unchanged, whatever else it does. -/

namespace Sys2Proof.Machine

@[simp] theorem judgeFireStale_frame  (s : State) :
    (judgeFireStale s).time = s.time ∧ (judgeFireStale s).due = s.due ∧ (judgeFireStale s).port = s.port ∧
    (judgeFireStale s).meas = s.meas ∧ (judgeFireStale s).prot = s.prot ∧ (judgeFireStale s).store = s.store ∧
    (judgeFireStale s).regime = s.regime ∧ (judgeFireStale s).adm = s.adm ∧
    (judgeFireStale s).resetLow = s.resetLow ∧ (judgeFireStale s).freeIx = s.freeIx ∧
    (judgeFireStale s).pending = s.pending := by
  simp [judgeFireStale]

@[simp] theorem judgeFireRegime_frame  (s : State) :
    (judgeFireRegime s).time = s.time ∧ (judgeFireRegime s).due = s.due ∧ (judgeFireRegime s).port = s.port ∧
    (judgeFireRegime s).meas = s.meas ∧ (judgeFireRegime s).prot = s.prot ∧
    (judgeFireRegime s).store = s.store ∧ (judgeFireRegime s).regime = s.regime ∧
    (judgeFireRegime s).adm = s.adm ∧ (judgeFireRegime s).resetLow = s.resetLow ∧
    (judgeFireRegime s).freeIx = s.freeIx ∧
    (judgeFireRegime s).pending = s.pending := by
  simp [judgeFireRegime]

@[simp] theorem recompute_frame  (s : State) :
    (recompute s).time = s.time ∧ (recompute s).due = s.due ∧ (recompute s).port = s.port ∧
    (recompute s).meas = s.meas ∧ (recompute s).prot = s.prot ∧ (recompute s).store = s.store ∧
    (recompute s).brk = s.brk ∧ (recompute s).seq = s.seq ∧ (recompute s).mon = s.mon ∧
    (recompute s).pilot = s.pilot ∧ (recompute s).hunt = s.hunt ∧ (recompute s).adm = s.adm ∧
    (recompute s).host = s.host ∧ (recompute s).resetLow = s.resetLow ∧ (recompute s).freeIx = s.freeIx ∧
    (recompute s).pending = s.pending := by
  simp [recompute]

@[simp] theorem cancelOverride_frame  (s : State) :
    (cancelOverride s).time = s.time ∧ (cancelOverride s).due = s.due ∧ (cancelOverride s).port = s.port ∧
    (cancelOverride s).meas = s.meas ∧ (cancelOverride s).prot = s.prot ∧ (cancelOverride s).store = s.store ∧
    (cancelOverride s).brk = s.brk ∧ (cancelOverride s).seq = s.seq ∧ (cancelOverride s).mon = s.mon ∧
    (cancelOverride s).pilot = s.pilot ∧ (cancelOverride s).hunt = s.hunt ∧ (cancelOverride s).adm = s.adm ∧
    (cancelOverride s).resetLow = s.resetLow ∧ (cancelOverride s).freeIx = s.freeIx ∧
    (cancelOverride s).pending = s.pending := by
  unfold cancelOverride
  repeat' ((try dsimp only); split)
  all_goals simp

@[simp] theorem withOverride_frame (o : Option Nat) (s : State) :
    (withOverride o s).time = s.time ∧ (withOverride o s).due = s.due ∧ (withOverride o s).port = s.port ∧
    (withOverride o s).meas = s.meas ∧ (withOverride o s).prot = s.prot ∧ (withOverride o s).store = s.store ∧
    (withOverride o s).brk = s.brk ∧ (withOverride o s).seq = s.seq ∧ (withOverride o s).mon = s.mon ∧
    (withOverride o s).pilot = s.pilot ∧ (withOverride o s).hunt = s.hunt ∧ (withOverride o s).adm = s.adm ∧
    (withOverride o s).host = s.host ∧ (withOverride o s).resetLow = s.resetLow ∧
    (withOverride o s).freeIx = s.freeIx ∧
    (withOverride o s).pending = s.pending := by
  simp [withOverride]

@[simp] theorem takeIntoForce_frame (g : Nat) (s : State) :
    (takeIntoForce g s).time = s.time ∧ (takeIntoForce g s).due = s.due ∧ (takeIntoForce g s).port = s.port ∧
    (takeIntoForce g s).meas = s.meas ∧ (takeIntoForce g s).prot = s.prot ∧
    (takeIntoForce g s).store = s.store ∧ (takeIntoForce g s).resetLow = s.resetLow ∧
    (takeIntoForce g s).freeIx = s.freeIx ∧
    (takeIntoForce g s).pending = s.pending := by
  unfold takeIntoForce
  (repeat' split) <;> simp

@[simp] theorem regimeStages_frame  (s : State) :
    (regimeStages s).time = s.time ∧ (regimeStages s).due = s.due ∧ (regimeStages s).port = s.port ∧
    (regimeStages s).meas = s.meas ∧ (regimeStages s).prot = s.prot ∧ (regimeStages s).store = s.store ∧
    (regimeStages s).brk = s.brk ∧ (regimeStages s).seq = s.seq ∧ (regimeStages s).mon = s.mon ∧
    (regimeStages s).pilot = s.pilot ∧ (regimeStages s).hunt = s.hunt ∧ (regimeStages s).adm = s.adm ∧
    (regimeStages s).resetLow = s.resetLow ∧ (regimeStages s).freeIx = s.freeIx ∧
    (regimeStages s).pending = s.pending := by
  simp [regimeStages]

@[simp] theorem groupWork_frame  (s : State) :
    (groupWork s).time = s.time ∧ (groupWork s).due = s.due ∧ (groupWork s).port = s.port ∧
    (groupWork s).meas = s.meas ∧ (groupWork s).prot = s.prot ∧ (groupWork s).store = s.store ∧
    (groupWork s).resetLow = s.resetLow ∧ (groupWork s).freeIx = s.freeIx ∧ (groupWork s).pending = s.pending := by
  unfold groupWork
  repeat' ((try dsimp only); split)
  all_goals simp

end Sys2Proof.Machine
end

