-- ==== Sys2Proof/Laws/ProtectionFrames.lean ====
section
/-! SUPPORT. What each operation of Machine/Protection.lean leaves unchanged, whatever else it does. -/

namespace Sys2Proof.Machine

@[simp] theorem handTrip_frame (t : Trip) (s : State) :
    (handTrip t s).time = s.time ∧ (handTrip t s).due = s.due ∧ (handTrip t s).port = s.port ∧
    (handTrip t s).meas = s.meas ∧ (handTrip t s).prot = s.prot ∧ (handTrip t s).store = s.store ∧
    (handTrip t s).regime = s.regime ∧ (handTrip t s).resetLow = s.resetLow ∧ (handTrip t s).freeIx = s.freeIx ∧
    (handTrip t s).pending = s.pending := by
  simp [handTrip]

@[simp] theorem issueTrip_frame (t : Trip) (s : State) :
    (issueTrip t s).time = s.time ∧ (issueTrip t s).due = s.due ∧ (issueTrip t s).port = s.port ∧
    (issueTrip t s).meas = s.meas ∧ (issueTrip t s).store = s.store ∧ (issueTrip t s).regime = s.regime ∧
    (issueTrip t s).resetLow = s.resetLow ∧ (issueTrip t s).freeIx = s.freeIx ∧
    (issueTrip t s).pending = s.pending := by
  simp [issueTrip]

@[simp] theorem sefStage_frame  (s : State) :
    (sefStage s).time = s.time ∧ (sefStage s).due = s.due ∧ (sefStage s).port = s.port ∧
    (sefStage s).meas = s.meas ∧ (sefStage s).store = s.store ∧ (sefStage s).regime = s.regime ∧
    (sefStage s).adm = s.adm ∧ (sefStage s).resetLow = s.resetLow ∧ (sefStage s).freeIx = s.freeIx ∧
    (sefStage s).pending = s.pending := by
  unfold sefStage
  repeat' ((try dsimp only); split)
  all_goals simp

@[simp] theorem protPoint_frame (q : Multiples) (b : Bool) (s : State) :
    (protPoint q b s).time = s.time ∧ (protPoint q b s).due = s.due ∧ (protPoint q b s).port = s.port ∧
    (protPoint q b s).meas = s.meas ∧ (protPoint q b s).store = s.store ∧ (protPoint q b s).regime = s.regime ∧
    (protPoint q b s).resetLow = s.resetLow ∧ (protPoint q b s).freeIx = s.freeIx ∧
    (protPoint q b s).pending = s.pending := by
  unfold protPoint
  repeat' ((try dsimp only); split)
  all_goals simp

@[simp] theorem protLoss_frame  (s : State) :
    (protLoss s).time = s.time ∧ (protLoss s).due = s.due ∧ (protLoss s).port = s.port ∧
    (protLoss s).meas = s.meas ∧ (protLoss s).store = s.store ∧ (protLoss s).regime = s.regime ∧
    (protLoss s).adm = s.adm ∧ (protLoss s).resetLow = s.resetLow ∧ (protLoss s).freeIx = s.freeIx ∧
    (protLoss s).pending = s.pending := by
  simp [protLoss]

end Sys2Proof.Machine
end

