-- ==== Sys2Proof/Laws/MeasurementFrames.lean ====
section
/-! SUPPORT. What each operation of Machine/Measurement.lean leaves unchanged, whatever else it does. -/

namespace Sys2Proof.Machine

@[simp] theorem storeRecord_frame  (s : State) :
    (storeRecord s).time = s.time ∧ (storeRecord s).due = s.due ∧ (storeRecord s).port = s.port ∧
    (storeRecord s).prot = s.prot ∧ (storeRecord s).store = s.store ∧ (storeRecord s).regime = s.regime ∧
    (storeRecord s).brk = s.brk ∧ (storeRecord s).seq = s.seq ∧ (storeRecord s).mon = s.mon ∧
    (storeRecord s).pilot = s.pilot ∧ (storeRecord s).hunt = s.hunt ∧ (storeRecord s).adm = s.adm ∧
    (storeRecord s).host = s.host ∧ (storeRecord s).resetLow = s.resetLow ∧ (storeRecord s).freeIx = s.freeIx ∧
    (storeRecord s).pending = s.pending := by
  simp [storeRecord]

@[simp] theorem handPoint_frame  (s : State) :
    (handPoint s).time = s.time ∧ (handPoint s).due = s.due ∧ (handPoint s).port = s.port ∧
    (handPoint s).meas = s.meas ∧ (handPoint s).store = s.store ∧ (handPoint s).regime = s.regime ∧
    (handPoint s).resetLow = s.resetLow ∧ (handPoint s).freeIx = s.freeIx ∧ (handPoint s).pending = s.pending := by
  simp [handPoint]

@[simp] theorem evaluationPoint_frame  (s : State) :
    (evaluationPoint s).time = s.time ∧ (evaluationPoint s).due = s.due ∧ (evaluationPoint s).port = s.port ∧
    (evaluationPoint s).store = s.store ∧ (evaluationPoint s).resetLow = s.resetLow ∧
    (evaluationPoint s).freeIx = s.freeIx ∧
    (evaluationPoint s).pending = s.pending := by
  simp [evaluationPoint]

@[simp] theorem acceptSet_frame (x : SampleSet) (s : State) :
    (acceptSet x s).time = s.time ∧ (acceptSet x s).due = s.due ∧ (acceptSet x s).store = s.store ∧
    (acceptSet x s).resetLow = s.resetLow ∧ (acceptSet x s).freeIx = s.freeIx ∧
    (acceptSet x s).pending = s.pending := by
  unfold acceptSet
  repeat' ((try dsimp only); split)
  all_goals simp

end Sys2Proof.Machine
end

