-- ==== Sys2Proof/Laws/PilotFrames.lean ====
section
/-! SUPPORT. What each operation of Machine/Pilot.lean leaves unchanged, whatever else it does. -/

namespace Sys2Proof.Machine

@[simp] theorem settle_frame  (s : State) :
    (settle s).time = s.time ∧ (settle s).due = s.due ∧ (settle s).port = s.port ∧ (settle s).meas = s.meas ∧
    (settle s).prot = s.prot ∧ (settle s).store = s.store ∧ (settle s).regime = s.regime ∧
    (settle s).brk = s.brk ∧ (settle s).seq = s.seq ∧ (settle s).mon = s.mon ∧ (settle s).hunt = s.hunt ∧
    (settle s).adm = s.adm ∧ (settle s).host = s.host ∧ (settle s).resetLow = s.resetLow ∧
    (settle s).freeIx = s.freeIx ∧
    (settle s).pending = s.pending := by
  simp [settle]

@[simp] theorem resettle_frame  (s : State) :
    (resettle s).time = s.time ∧ (resettle s).due = s.due ∧ (resettle s).port = s.port ∧
    (resettle s).meas = s.meas ∧ (resettle s).prot = s.prot ∧ (resettle s).store = s.store ∧
    (resettle s).regime = s.regime ∧ (resettle s).brk = s.brk ∧ (resettle s).seq = s.seq ∧
    (resettle s).mon = s.mon ∧ (resettle s).hunt = s.hunt ∧ (resettle s).adm = s.adm ∧
    (resettle s).host = s.host ∧ (resettle s).resetLow = s.resetLow ∧ (resettle s).freeIx = s.freeIx ∧
    (resettle s).pending = s.pending := by
  unfold resettle
  (repeat' split) <;> simp

@[simp] theorem noteInFlight_frame (m : DownMessage) (s : State) :
    (noteInFlight m s).time = s.time ∧ (noteInFlight m s).due = s.due ∧ (noteInFlight m s).port = s.port ∧
    (noteInFlight m s).meas = s.meas ∧ (noteInFlight m s).prot = s.prot ∧ (noteInFlight m s).store = s.store ∧
    (noteInFlight m s).regime = s.regime ∧ (noteInFlight m s).brk = s.brk ∧ (noteInFlight m s).seq = s.seq ∧
    (noteInFlight m s).mon = s.mon ∧ (noteInFlight m s).host = s.host ∧ (noteInFlight m s).resetLow = s.resetLow ∧
    (noteInFlight m s).freeIx = s.freeIx ∧
    (noteInFlight m s).pending = s.pending := by
  unfold noteInFlight
  (repeat' split) <;> simp

@[simp] theorem putInFlight_frame (m : DownMessage) (s : State) :
    (putInFlight m s).time = s.time ∧ (putInFlight m s).due = s.due ∧ (putInFlight m s).port = s.port ∧
    (putInFlight m s).meas = s.meas ∧ (putInFlight m s).prot = s.prot ∧ (putInFlight m s).store = s.store ∧
    (putInFlight m s).regime = s.regime ∧ (putInFlight m s).brk = s.brk ∧ (putInFlight m s).seq = s.seq ∧
    (putInFlight m s).mon = s.mon ∧ (putInFlight m s).host = s.host ∧ (putInFlight m s).resetLow = s.resetLow ∧
    (putInFlight m s).freeIx = s.freeIx ∧
    (putInFlight m s).pending = s.pending := by
  simp [putInFlight]

@[simp] theorem arbitrate_frame  (s : State) :
    (arbitrate s).time = s.time ∧ (arbitrate s).due = s.due ∧ (arbitrate s).port = s.port ∧
    (arbitrate s).meas = s.meas ∧ (arbitrate s).prot = s.prot ∧ (arbitrate s).store = s.store ∧
    (arbitrate s).regime = s.regime ∧ (arbitrate s).brk = s.brk ∧ (arbitrate s).seq = s.seq ∧
    (arbitrate s).mon = s.mon ∧ (arbitrate s).host = s.host ∧ (arbitrate s).resetLow = s.resetLow ∧
    (arbitrate s).freeIx = s.freeIx ∧
    (arbitrate s).pending = s.pending := by
  unfold arbitrate
  (repeat' split) <;> simp

@[simp] theorem takeHalf_frame (u : BitVec 32) (s : State) :
    (takeHalf u s).time = s.time ∧ (takeHalf u s).due = s.due ∧ (takeHalf u s).port = s.port ∧
    (takeHalf u s).meas = s.meas ∧ (takeHalf u s).prot = s.prot ∧ (takeHalf u s).store = s.store ∧
    (takeHalf u s).regime = s.regime ∧ (takeHalf u s).brk = s.brk ∧ (takeHalf u s).seq = s.seq ∧
    (takeHalf u s).mon = s.mon ∧ (takeHalf u s).hunt = s.hunt ∧ (takeHalf u s).adm = s.adm ∧
    (takeHalf u s).host = s.host ∧ (takeHalf u s).resetLow = s.resetLow ∧ (takeHalf u s).freeIx = s.freeIx ∧
    (takeHalf u s).pending = s.pending := by
  unfold takeHalf
  (repeat' split) <;> simp

@[simp] theorem judgeSilent_frame  (s : State) :
    (judgeSilent s).time = s.time ∧ (judgeSilent s).due = s.due ∧ (judgeSilent s).port = s.port ∧
    (judgeSilent s).meas = s.meas ∧ (judgeSilent s).prot = s.prot ∧ (judgeSilent s).store = s.store ∧
    (judgeSilent s).regime = s.regime ∧ (judgeSilent s).adm = s.adm ∧ (judgeSilent s).resetLow = s.resetLow ∧
    (judgeSilent s).freeIx = s.freeIx ∧
    (judgeSilent s).pending = s.pending := by
  simp [judgeSilent]

@[simp] theorem changeStation_frame (o n : Station) (q : Option QueryResult) (s : State) :
    (changeStation o n q s).time = s.time ∧ (changeStation o n q s).due = s.due ∧
    (changeStation o n q s).port = s.port ∧ (changeStation o n q s).meas = s.meas ∧
    (changeStation o n q s).prot = s.prot ∧ (changeStation o n q s).store = s.store ∧
    (changeStation o n q s).regime = s.regime ∧ (changeStation o n q s).adm = s.adm ∧
    (changeStation o n q s).resetLow = s.resetLow ∧ (changeStation o n q s).freeIx = s.freeIx ∧
    (changeStation o n q s).pending = s.pending := by
  unfold changeStation
  (repeat' split) <;> simp

@[simp] theorem missedAnswer_frame (st : Station) (s : State) :
    (missedAnswer st s).time = s.time ∧ (missedAnswer st s).due = s.due ∧ (missedAnswer st s).port = s.port ∧
    (missedAnswer st s).meas = s.meas ∧ (missedAnswer st s).prot = s.prot ∧
    (missedAnswer st s).store = s.store ∧ (missedAnswer st s).regime = s.regime ∧
    (missedAnswer st s).adm = s.adm ∧ (missedAnswer st s).resetLow = s.resetLow ∧
    (missedAnswer st s).freeIx = s.freeIx ∧
    (missedAnswer st s).pending = s.pending := by
  simp [missedAnswer]

@[simp] theorem queryOutcome_frame (o : DownOutcome) (a : Nat) (s : State) :
    (queryOutcome o a s).time = s.time ∧ (queryOutcome o a s).due = s.due ∧ (queryOutcome o a s).port = s.port ∧
    (queryOutcome o a s).meas = s.meas ∧ (queryOutcome o a s).prot = s.prot ∧
    (queryOutcome o a s).store = s.store ∧ (queryOutcome o a s).regime = s.regime ∧
    (queryOutcome o a s).adm = s.adm ∧ (queryOutcome o a s).resetLow = s.resetLow ∧
    (queryOutcome o a s).freeIx = s.freeIx ∧
    (queryOutcome o a s).pending = s.pending := by
  unfold queryOutcome
  (repeat' split) <;> simp

@[simp] theorem handOutcome_frame (m : DownMessage) (o : DownOutcome) (s : State) :
    (handOutcome m o s).time = s.time ∧ (handOutcome m o s).due = s.due ∧ (handOutcome m o s).port = s.port ∧
    (handOutcome m o s).meas = s.meas ∧ (handOutcome m o s).prot = s.prot ∧
    (handOutcome m o s).store = s.store ∧ (handOutcome m o s).regime = s.regime ∧
    (handOutcome m o s).resetLow = s.resetLow ∧ (handOutcome m o s).freeIx = s.freeIx ∧
    (handOutcome m o s).pending = s.pending := by
  unfold handOutcome
  (repeat' split) <;> simp

@[simp] theorem freeDown_frame  (s : State) :
    (freeDown s).time = s.time ∧ (freeDown s).due = s.due ∧ (freeDown s).port = s.port ∧
    (freeDown s).meas = s.meas ∧ (freeDown s).prot = s.prot ∧ (freeDown s).store = s.store ∧
    (freeDown s).regime = s.regime ∧ (freeDown s).brk = s.brk ∧ (freeDown s).seq = s.seq ∧
    (freeDown s).mon = s.mon ∧ (freeDown s).hunt = s.hunt ∧ (freeDown s).adm = s.adm ∧
    (freeDown s).host = s.host ∧ (freeDown s).resetLow = s.resetLow ∧ (freeDown s).freeIx = s.freeIx ∧
    (freeDown s).pending = s.pending := by
  simp [freeDown]

@[simp] theorem endMessage_frame  (s : State) :
    (endMessage s).time = s.time ∧ (endMessage s).due = s.due ∧ (endMessage s).port = s.port ∧
    (endMessage s).meas = s.meas ∧ (endMessage s).prot = s.prot ∧ (endMessage s).store = s.store ∧
    (endMessage s).regime = s.regime ∧ (endMessage s).resetLow = s.resetLow ∧ (endMessage s).freeIx = s.freeIx ∧
    (endMessage s).pending = s.pending := by
  unfold endMessage
  (repeat' split) <;> simp

@[simp] theorem deliverTo_frame (a : Nat) (f : Station → Station) (q : Station → Option QueryResult) (s : State) :
    (deliverTo a f q s).time = s.time ∧ (deliverTo a f q s).due = s.due ∧ (deliverTo a f q s).port = s.port ∧
    (deliverTo a f q s).meas = s.meas ∧ (deliverTo a f q s).prot = s.prot ∧
    (deliverTo a f q s).store = s.store ∧ (deliverTo a f q s).regime = s.regime ∧
    (deliverTo a f q s).adm = s.adm ∧ (deliverTo a f q s).resetLow = s.resetLow ∧
    (deliverTo a f q s).freeIx = s.freeIx ∧
    (deliverTo a f q s).pending = s.pending := by
  unfold deliverTo
  (repeat' split) <;> simp

@[simp] theorem closeDelivery_frame  (s : State) :
    (closeDelivery s).time = s.time ∧ (closeDelivery s).due = s.due ∧ (closeDelivery s).port = s.port ∧
    (closeDelivery s).meas = s.meas ∧ (closeDelivery s).prot = s.prot ∧ (closeDelivery s).store = s.store ∧
    (closeDelivery s).regime = s.regime ∧ (closeDelivery s).brk = s.brk ∧ (closeDelivery s).seq = s.seq ∧
    (closeDelivery s).mon = s.mon ∧ (closeDelivery s).hunt = s.hunt ∧ (closeDelivery s).adm = s.adm ∧
    (closeDelivery s).host = s.host ∧ (closeDelivery s).resetLow = s.resetLow ∧ (closeDelivery s).freeIx = s.freeIx ∧
    (closeDelivery s).pending = s.pending := by
  simp [closeDelivery]

@[simp] theorem joinQueue_getD_frame (m : DownMessage) (s : State) :
    ((joinQueue m s).getD s).time = s.time ∧ ((joinQueue m s).getD s).due = s.due ∧
    ((joinQueue m s).getD s).port = s.port ∧ ((joinQueue m s).getD s).meas = s.meas ∧
    ((joinQueue m s).getD s).prot = s.prot ∧ ((joinQueue m s).getD s).store = s.store ∧
    ((joinQueue m s).getD s).regime = s.regime ∧ ((joinQueue m s).getD s).brk = s.brk ∧
    ((joinQueue m s).getD s).seq = s.seq ∧ ((joinQueue m s).getD s).mon = s.mon ∧
    ((joinQueue m s).getD s).hunt = s.hunt ∧ ((joinQueue m s).getD s).adm = s.adm ∧
    ((joinQueue m s).getD s).host = s.host ∧ ((joinQueue m s).getD s).resetLow = s.resetLow ∧
    ((joinQueue m s).getD s).freeIx = s.freeIx ∧
    ((joinQueue m s).getD s).pending = s.pending := by
  cases h : joinQueue m s with
  | none => simp
  | some t =>
    have := joinQueue_frame h
    simp [this]

@[simp] theorem pollStation_frame (a : Nat) (s : State) :
    (pollStation a s).time = s.time ∧ (pollStation a s).due = s.due ∧ (pollStation a s).port = s.port ∧
    (pollStation a s).meas = s.meas ∧ (pollStation a s).prot = s.prot ∧ (pollStation a s).store = s.store ∧
    (pollStation a s).regime = s.regime ∧ (pollStation a s).brk = s.brk ∧ (pollStation a s).seq = s.seq ∧
    (pollStation a s).mon = s.mon ∧ (pollStation a s).hunt = s.hunt ∧ (pollStation a s).adm = s.adm ∧
    (pollStation a s).host = s.host ∧ (pollStation a s).resetLow = s.resetLow ∧ (pollStation a s).freeIx = s.freeIx ∧
    (pollStation a s).pending = s.pending := by
  unfold pollStation
  (repeat' split) <;> simp

@[simp] theorem markStation_frame (a : Nat) (s : State) :
    (markStation a s).time = s.time ∧ (markStation a s).due = s.due ∧ (markStation a s).port = s.port ∧
    (markStation a s).meas = s.meas ∧ (markStation a s).prot = s.prot ∧ (markStation a s).store = s.store ∧
    (markStation a s).regime = s.regime ∧ (markStation a s).brk = s.brk ∧ (markStation a s).seq = s.seq ∧
    (markStation a s).mon = s.mon ∧ (markStation a s).hunt = s.hunt ∧ (markStation a s).adm = s.adm ∧
    (markStation a s).host = s.host ∧ (markStation a s).resetLow = s.resetLow ∧ (markStation a s).freeIx = s.freeIx ∧
    (markStation a s).pending = s.pending := by
  simp [markStation]

@[simp] theorem rebuildStations_frame (l : List StationEntry) (s : State) :
    (rebuildStations l s).time = s.time ∧ (rebuildStations l s).due = s.due ∧
    (rebuildStations l s).port = s.port ∧ (rebuildStations l s).meas = s.meas ∧
    (rebuildStations l s).prot = s.prot ∧ (rebuildStations l s).store = s.store ∧
    (rebuildStations l s).regime = s.regime ∧ (rebuildStations l s).adm = s.adm ∧
    (rebuildStations l s).resetLow = s.resetLow ∧ (rebuildStations l s).freeIx = s.freeIx ∧
    (rebuildStations l s).pending = s.pending := by
  simp [rebuildStations]

@[simp] theorem dropMark_frame (st : Station) (s : State) :
    (dropMark s st).time = s.time ∧ (dropMark s st).due = s.due ∧ (dropMark s st).port = s.port ∧
    (dropMark s st).meas = s.meas ∧ (dropMark s st).prot = s.prot ∧ (dropMark s st).store = s.store ∧
    (dropMark s st).regime = s.regime ∧ (dropMark s st).brk = s.brk ∧ (dropMark s st).seq = s.seq ∧
    (dropMark s st).mon = s.mon ∧ (dropMark s st).hunt = s.hunt ∧ (dropMark s st).adm = s.adm ∧
    (dropMark s st).resetLow = s.resetLow ∧ (dropMark s st).freeIx = s.freeIx ∧
    (dropMark s st).pending = s.pending := by
  unfold dropMark
  (repeat' split) <;> simp

@[simp] theorem foldl_dropMark_frame (l : List Station) (s : State) :
    (l.foldl dropMark s).time = s.time ∧ (l.foldl dropMark s).due = s.due ∧ (l.foldl dropMark s).port = s.port ∧
    (l.foldl dropMark s).meas = s.meas ∧ (l.foldl dropMark s).prot = s.prot ∧
    (l.foldl dropMark s).store = s.store ∧ (l.foldl dropMark s).regime = s.regime ∧
    (l.foldl dropMark s).brk = s.brk ∧ (l.foldl dropMark s).seq = s.seq ∧ (l.foldl dropMark s).mon = s.mon ∧
    (l.foldl dropMark s).hunt = s.hunt ∧ (l.foldl dropMark s).adm = s.adm ∧
    (l.foldl dropMark s).resetLow = s.resetLow ∧ (l.foldl dropMark s).freeIx = s.freeIx ∧
    (l.foldl dropMark s).pending = s.pending := by
  induction l generalizing s with
  | nil => simp
  | cons n l ih => simp [ih]

@[simp] theorem stationsInvalid_frame  (s : State) :
    (stationsInvalid s).time = s.time ∧ (stationsInvalid s).due = s.due ∧ (stationsInvalid s).port = s.port ∧
    (stationsInvalid s).meas = s.meas ∧ (stationsInvalid s).prot = s.prot ∧
    (stationsInvalid s).store = s.store ∧ (stationsInvalid s).regime = s.regime ∧
    (stationsInvalid s).brk = s.brk ∧ (stationsInvalid s).seq = s.seq ∧ (stationsInvalid s).mon = s.mon ∧
    (stationsInvalid s).hunt = s.hunt ∧ (stationsInvalid s).adm = s.adm ∧
    (stationsInvalid s).resetLow = s.resetLow ∧ (stationsInvalid s).freeIx = s.freeIx ∧
    (stationsInvalid s).pending = s.pending := by
  simp [stationsInvalid]

end Sys2Proof.Machine
end

