-- ==== Sys2Proof/Laws/StoreFrames.lean ====
section
/-! SUPPORT. What each operation of Machine/Store.lean leaves unchanged, whatever else it does. -/

namespace Sys2Proof.Machine

@[simp] theorem judgeIntegrity_frame  (s : State) :
    (judgeIntegrity s).time = s.time ∧ (judgeIntegrity s).due = s.due ∧ (judgeIntegrity s).port = s.port ∧
    (judgeIntegrity s).meas = s.meas ∧ (judgeIntegrity s).prot = s.prot ∧ (judgeIntegrity s).store = s.store ∧
    (judgeIntegrity s).regime = s.regime ∧ (judgeIntegrity s).adm = s.adm ∧
    (judgeIntegrity s).resetLow = s.resetLow ∧ (judgeIntegrity s).freeIx = s.freeIx ∧
    (judgeIntegrity s).pending = s.pending := by
  simp [judgeIntegrity]

@[simp] theorem reportImage_frame (r : ImageReport) (s : State) :
    (reportImage r s).time = s.time ∧ (reportImage r s).due = s.due ∧ (reportImage r s).port = s.port ∧
    (reportImage r s).meas = s.meas ∧ (reportImage r s).prot = s.prot ∧ (reportImage r s).store = s.store ∧
    (reportImage r s).regime = s.regime ∧ (reportImage r s).brk = s.brk ∧ (reportImage r s).seq = s.seq ∧
    (reportImage r s).mon = s.mon ∧ (reportImage r s).pilot = s.pilot ∧ (reportImage r s).hunt = s.hunt ∧
    (reportImage r s).adm = s.adm ∧ (reportImage r s).resetLow = s.resetLow ∧ (reportImage r s).freeIx = s.freeIx ∧
    (reportImage r s).pending = s.pending := by
  simp [reportImage]

@[simp] theorem plantChanged_frame  (s : State) :
    (plantChanged s).time = s.time ∧ (plantChanged s).due = s.due ∧ (plantChanged s).port = s.port ∧
    (plantChanged s).meas = s.meas ∧ (plantChanged s).prot = s.prot ∧ (plantChanged s).store = s.store ∧
    (plantChanged s).adm = s.adm ∧ (plantChanged s).resetLow = s.resetLow ∧ (plantChanged s).freeIx = s.freeIx ∧
    (plantChanged s).pending = s.pending := by
  simp [plantChanged]

@[simp] theorem markCurve_frame (k : Nat) (s : State) :
    (markCurve k s).time = s.time ∧ (markCurve k s).due = s.due ∧ (markCurve k s).port = s.port ∧
    (markCurve k s).meas = s.meas ∧ (markCurve k s).prot = s.prot ∧ (markCurve k s).store = s.store ∧
    (markCurve k s).brk = s.brk ∧ (markCurve k s).seq = s.seq ∧ (markCurve k s).mon = s.mon ∧
    (markCurve k s).pilot = s.pilot ∧ (markCurve k s).hunt = s.hunt ∧ (markCurve k s).adm = s.adm ∧
    (markCurve k s).host = s.host ∧ (markCurve k s).resetLow = s.resetLow ∧ (markCurve k s).freeIx = s.freeIx ∧
    (markCurve k s).pending = s.pending := by
  unfold markCurve
  (repeat' split) <;> simp

@[simp] theorem markGroup_frame (g : Nat) (s : State) :
    (markGroup g s).time = s.time ∧ (markGroup g s).due = s.due ∧ (markGroup g s).port = s.port ∧
    (markGroup g s).meas = s.meas ∧ (markGroup g s).prot = s.prot ∧ (markGroup g s).store = s.store ∧
    (markGroup g s).brk = s.brk ∧ (markGroup g s).seq = s.seq ∧ (markGroup g s).mon = s.mon ∧
    (markGroup g s).pilot = s.pilot ∧ (markGroup g s).hunt = s.hunt ∧ (markGroup g s).adm = s.adm ∧
    (markGroup g s).host = s.host ∧ (markGroup g s).resetLow = s.resetLow ∧ (markGroup g s).freeIx = s.freeIx ∧
    (markGroup g s).pending = s.pending := by
  unfold markGroup
  (repeat' split) <;> simp

@[simp] theorem cancelAtLoad_frame (g : Nat) (s : State) :
    (cancelAtLoad g s).time = s.time ∧ (cancelAtLoad g s).due = s.due ∧ (cancelAtLoad g s).port = s.port ∧
    (cancelAtLoad g s).meas = s.meas ∧ (cancelAtLoad g s).prot = s.prot ∧ (cancelAtLoad g s).store = s.store ∧
    (cancelAtLoad g s).brk = s.brk ∧ (cancelAtLoad g s).seq = s.seq ∧ (cancelAtLoad g s).mon = s.mon ∧
    (cancelAtLoad g s).pilot = s.pilot ∧ (cancelAtLoad g s).hunt = s.hunt ∧ (cancelAtLoad g s).adm = s.adm ∧
    (cancelAtLoad g s).resetLow = s.resetLow ∧ (cancelAtLoad g s).freeIx = s.freeIx ∧
    (cancelAtLoad g s).pending = s.pending := by
  unfold cancelAtLoad
  (repeat' split) <;> simp

@[simp] theorem usersAccept_frame (i : ImageId) (s : State) :
    (usersAccept i s).time = s.time ∧ (usersAccept i s).due = s.due ∧ (usersAccept i s).port = s.port ∧
    (usersAccept i s).meas = s.meas ∧ (usersAccept i s).prot = s.prot ∧ (usersAccept i s).store = s.store ∧
    (usersAccept i s).resetLow = s.resetLow ∧ (usersAccept i s).freeIx = s.freeIx ∧
    (usersAccept i s).pending = s.pending := by
  unfold usersAccept
  (repeat' split) <;> simp

@[simp] theorem usersInvalid_frame (i : ImageId) (s : State) :
    (usersInvalid i s).time = s.time ∧ (usersInvalid i s).due = s.due ∧ (usersInvalid i s).port = s.port ∧
    (usersInvalid i s).meas = s.meas ∧ (usersInvalid i s).prot = s.prot ∧ (usersInvalid i s).store = s.store ∧
    (usersInvalid i s).resetLow = s.resetLow ∧ (usersInvalid i s).freeIx = s.freeIx ∧
    (usersInvalid i s).pending = s.pending := by
  unfold usersInvalid
  (repeat' split) <;> simp

@[simp] theorem checkImage_frame (i : ImageId) (s : State) :
    (checkImage s i).time = s.time ∧ (checkImage s i).due = s.due ∧ (checkImage s i).port = s.port ∧
    (checkImage s i).meas = s.meas ∧ (checkImage s i).prot = s.prot ∧ (checkImage s i).resetLow = s.resetLow ∧
    (checkImage s i).freeIx = s.freeIx ∧
    (checkImage s i).pending = s.pending := by
  unfold checkImage
  repeat' ((try dsimp only); split)
  all_goals simp

@[simp] theorem endCheck_frame  (s : State) :
    (endCheck s).time = s.time ∧ (endCheck s).due = s.due ∧ (endCheck s).port = s.port ∧
    (endCheck s).meas = s.meas ∧ (endCheck s).prot = s.prot ∧ (endCheck s).resetLow = s.resetLow ∧
    (endCheck s).freeIx = s.freeIx ∧
    (endCheck s).pending = s.pending := by
  unfold endCheck
  (repeat' split) <;> simp

@[simp] theorem foldl_checkImage_frame (l : List ImageId) (s : State) :
    (l.foldl checkImage s).time = s.time ∧ (l.foldl checkImage s).due = s.due ∧
    (l.foldl checkImage s).port = s.port ∧ (l.foldl checkImage s).meas = s.meas ∧
    (l.foldl checkImage s).prot = s.prot ∧ (l.foldl checkImage s).resetLow = s.resetLow ∧
    (l.foldl checkImage s).freeIx = s.freeIx ∧
    (l.foldl checkImage s).pending = s.pending := by
  induction l generalizing s with
  | nil => simp
  | cons n l ih => simp [ih]

@[simp] theorem fullPass_frame  (s : State) :
    (fullPass s).time = s.time ∧ (fullPass s).due = s.due ∧ (fullPass s).port = s.port ∧
    (fullPass s).meas = s.meas ∧ (fullPass s).prot = s.prot ∧ (fullPass s).resetLow = s.resetLow ∧
    (fullPass s).freeIx = s.freeIx ∧
    (fullPass s).pending = s.pending := by
  simp [fullPass]

@[simp] theorem replaceImage_frame (i : ImageId) (c : List Byte) (w : Word16) (s : State) :
    (replaceImage i c w s).time = s.time ∧ (replaceImage i c w s).due = s.due ∧
    (replaceImage i c w s).port = s.port ∧ (replaceImage i c w s).meas = s.meas ∧
    (replaceImage i c w s).prot = s.prot ∧ (replaceImage i c w s).regime = s.regime ∧
    (replaceImage i c w s).brk = s.brk ∧ (replaceImage i c w s).seq = s.seq ∧
    (replaceImage i c w s).mon = s.mon ∧ (replaceImage i c w s).pilot = s.pilot ∧
    (replaceImage i c w s).hunt = s.hunt ∧ (replaceImage i c w s).adm = s.adm ∧
    (replaceImage i c w s).host = s.host ∧ (replaceImage i c w s).resetLow = s.resetLow ∧
    (replaceImage i c w s).freeIx = s.freeIx ∧
    (replaceImage i c w s).pending = s.pending := by
  simp [replaceImage]

@[simp] theorem acceptImage_frame (i : ImageId) (c : List Byte) (w : Word16) (s : State) :
    (acceptImage i c w s).time = s.time ∧ (acceptImage i c w s).due = s.due ∧
    (acceptImage i c w s).port = s.port ∧ (acceptImage i c w s).meas = s.meas ∧
    (acceptImage i c w s).prot = s.prot ∧ (acceptImage i c w s).resetLow = s.resetLow ∧
    (acceptImage i c w s).freeIx = s.freeIx ∧
    (acceptImage i c w s).pending = s.pending := by
  simp [acceptImage]

end Sys2Proof.Machine
end

