-- ==== Sys2Proof/Laws/Line.lean ====
section
/-! SUPPORT. What every shared operation leaves of the record interface: all but the report queue with its overrun flag
and lost count. -/

namespace Sys2Proof.Machine

@[simp] theorem placeReport_line (r : Report) (s : State) :
    (placeReport r s).host.lineRate = s.host.lineRate ∧ (placeReport r s).host.parser = s.host.parser ∧
    (placeReport r s).host.arrived = s.host.arrived ∧ (placeReport r s).host.commands = s.host.commands ∧
    (placeReport r s).host.replies = s.host.replies ∧ (placeReport r s).host.mask = s.host.mask ∧
    (placeReport r s).host.lostRecords = s.host.lostRecords ∧ (placeReport r s).host.tx = s.host.tx ∧
    (placeReport r s).host.restart = s.host.restart := by
  unfold placeReport
  (repeat' split) <;> simp

@[simp] theorem addReport_line (r : Report) (s : State) :
    (addReport r s).host.lineRate = s.host.lineRate ∧ (addReport r s).host.parser = s.host.parser ∧
    (addReport r s).host.arrived = s.host.arrived ∧ (addReport r s).host.commands = s.host.commands ∧
    (addReport r s).host.replies = s.host.replies ∧ (addReport r s).host.mask = s.host.mask ∧
    (addReport r s).host.lostRecords = s.host.lostRecords ∧ (addReport r s).host.tx = s.host.tx ∧
    (addReport r s).host.restart = s.host.restart := by
  unfold addReport
  (repeat' split) <;> simp

@[simp] theorem addStationReport_line (new : StationReport) (s : State) :
    (addStationReport new s).host.lineRate = s.host.lineRate ∧
    (addStationReport new s).host.parser = s.host.parser ∧
    (addStationReport new s).host.arrived = s.host.arrived ∧
    (addStationReport new s).host.commands = s.host.commands ∧
    (addStationReport new s).host.replies = s.host.replies ∧ (addStationReport new s).host.mask = s.host.mask ∧
    (addStationReport new s).host.lostRecords = s.host.lostRecords ∧
    (addStationReport new s).host.tx = s.host.tx ∧ (addStationReport new s).host.restart = s.host.restart := by
  unfold addStationReport
  (repeat' split) <;> simp

@[simp] theorem reportStation_line (st : Station) (q : Option QueryResult) (s : State) :
    (reportStation st q s).host.lineRate = s.host.lineRate ∧
    (reportStation st q s).host.parser = s.host.parser ∧ (reportStation st q s).host.arrived = s.host.arrived ∧
    (reportStation st q s).host.commands = s.host.commands ∧
    (reportStation st q s).host.replies = s.host.replies ∧ (reportStation st q s).host.mask = s.host.mask ∧
    (reportStation st q s).host.lostRecords = s.host.lostRecords ∧ (reportStation st q s).host.tx = s.host.tx ∧
    (reportStation st q s).host.restart = s.host.restart := by
  simp [reportStation]

@[simp] theorem seqTo_line (r : Sequencer) (e : SeqEvent) (o : Option ChangeOrigin) (s : State) :
    (seqTo r e o s).host.lineRate = s.host.lineRate ∧ (seqTo r e o s).host.parser = s.host.parser ∧
    (seqTo r e o s).host.arrived = s.host.arrived ∧ (seqTo r e o s).host.commands = s.host.commands ∧
    (seqTo r e o s).host.replies = s.host.replies ∧ (seqTo r e o s).host.mask = s.host.mask ∧
    (seqTo r e o s).host.lostRecords = s.host.lostRecords ∧ (seqTo r e o s).host.tx = s.host.tx ∧
    (seqTo r e o s).host.restart = s.host.restart := by
  unfold seqTo
  (repeat' split) <;> simp

@[simp] theorem seqHold_line  (s : State) :
    (seqHold s).host.lineRate = s.host.lineRate ∧ (seqHold s).host.parser = s.host.parser ∧
    (seqHold s).host.arrived = s.host.arrived ∧ (seqHold s).host.commands = s.host.commands ∧
    (seqHold s).host.replies = s.host.replies ∧ (seqHold s).host.mask = s.host.mask ∧
    (seqHold s).host.lostRecords = s.host.lostRecords ∧ (seqHold s).host.tx = s.host.tx ∧
    (seqHold s).host.restart = s.host.restart := by
  unfold seqHold
  (repeat' split) <;> simp

@[simp] theorem seqBlockChange_line (oh oo : List Cond) (s : State) :
    (seqBlockChange oh oo s).host.lineRate = s.host.lineRate ∧
    (seqBlockChange oh oo s).host.parser = s.host.parser ∧
    (seqBlockChange oh oo s).host.arrived = s.host.arrived ∧
    (seqBlockChange oh oo s).host.commands = s.host.commands ∧
    (seqBlockChange oh oo s).host.replies = s.host.replies ∧ (seqBlockChange oh oo s).host.mask = s.host.mask ∧
    (seqBlockChange oh oo s).host.lostRecords = s.host.lostRecords ∧
    (seqBlockChange oh oo s).host.tx = s.host.tx ∧ (seqBlockChange oh oo s).host.restart = s.host.restart := by
  unfold seqBlockChange
  (repeat' split) <;> simp

@[simp] theorem adoptRecords_line (t : CondTable CondRec) (s : State) :
    (adoptRecords t s).host.lineRate = s.host.lineRate ∧ (adoptRecords t s).host.parser = s.host.parser ∧
    (adoptRecords t s).host.arrived = s.host.arrived ∧ (adoptRecords t s).host.commands = s.host.commands ∧
    (adoptRecords t s).host.replies = s.host.replies ∧ (adoptRecords t s).host.mask = s.host.mask ∧
    (adoptRecords t s).host.lostRecords = s.host.lostRecords ∧ (adoptRecords t s).host.tx = s.host.tx ∧
    (adoptRecords t s).host.restart = s.host.restart := by
  unfold adoptRecords
  (repeat' split) <;> simp

@[simp] theorem reportCondition_line (k : CondCause) (c : Cond) (s : State) :
    (reportCondition k s c).host.lineRate = s.host.lineRate ∧
    (reportCondition k s c).host.parser = s.host.parser ∧
    (reportCondition k s c).host.arrived = s.host.arrived ∧
    (reportCondition k s c).host.commands = s.host.commands ∧
    (reportCondition k s c).host.replies = s.host.replies ∧ (reportCondition k s c).host.mask = s.host.mask ∧
    (reportCondition k s c).host.lostRecords = s.host.lostRecords ∧
    (reportCondition k s c).host.tx = s.host.tx ∧ (reportCondition k s c).host.restart = s.host.restart := by
  simp [reportCondition]

@[simp] theorem ownerReport_line (c : Cond) (a : Bool) (s : State) :
    (ownerReport c a s).host.lineRate = s.host.lineRate ∧ (ownerReport c a s).host.parser = s.host.parser ∧
    (ownerReport c a s).host.arrived = s.host.arrived ∧ (ownerReport c a s).host.commands = s.host.commands ∧
    (ownerReport c a s).host.replies = s.host.replies ∧ (ownerReport c a s).host.mask = s.host.mask ∧
    (ownerReport c a s).host.lostRecords = s.host.lostRecords ∧ (ownerReport c a s).host.tx = s.host.tx ∧
    (ownerReport c a s).host.restart = s.host.restart := by
  unfold ownerReport
  (repeat' split) <;> simp

@[simp] theorem foldl_reportCondition_line (k : CondCause) (l : List Cond) (s : State) :
    (l.foldl (reportCondition k) s).host.lineRate = s.host.lineRate ∧
    (l.foldl (reportCondition k) s).host.parser = s.host.parser ∧
    (l.foldl (reportCondition k) s).host.arrived = s.host.arrived ∧
    (l.foldl (reportCondition k) s).host.commands = s.host.commands ∧
    (l.foldl (reportCondition k) s).host.replies = s.host.replies ∧
    (l.foldl (reportCondition k) s).host.mask = s.host.mask ∧
    (l.foldl (reportCondition k) s).host.lostRecords = s.host.lostRecords ∧
    (l.foldl (reportCondition k) s).host.tx = s.host.tx ∧
    (l.foldl (reportCondition k) s).host.restart = s.host.restart := by
  induction l generalizing s with
  | nil => simp
  | cons n l ih => simp [ih]

@[simp] theorem replaceRecords_line (k : CondCause) (t : CondTable CondRec) (s : State) :
    (replaceRecords k t s).host.lineRate = s.host.lineRate ∧
    (replaceRecords k t s).host.parser = s.host.parser ∧ (replaceRecords k t s).host.arrived = s.host.arrived ∧
    (replaceRecords k t s).host.commands = s.host.commands ∧
    (replaceRecords k t s).host.replies = s.host.replies ∧ (replaceRecords k t s).host.mask = s.host.mask ∧
    (replaceRecords k t s).host.lostRecords = s.host.lostRecords ∧ (replaceRecords k t s).host.tx = s.host.tx ∧
    (replaceRecords k t s).host.restart = s.host.restart := by
  simp [replaceRecords]

@[simp] theorem endStep_line (r : StepResult) (s : State) :
    (endStep r s).host.lineRate = s.host.lineRate ∧ (endStep r s).host.parser = s.host.parser ∧
    (endStep r s).host.arrived = s.host.arrived ∧ (endStep r s).host.commands = s.host.commands ∧
    (endStep r s).host.replies = s.host.replies ∧ (endStep r s).host.mask = s.host.mask ∧
    (endStep r s).host.lostRecords = s.host.lostRecords ∧ (endStep r s).host.tx = s.host.tx ∧
    (endStep r s).host.restart = s.host.restart := by
  simp [endStep]

@[simp] theorem finishHunt_line (r : LastResult) (l : List StepRecord) (n : HuntState) (s : State) :
    (finishHunt r l n s).host.lineRate = s.host.lineRate ∧ (finishHunt r l n s).host.parser = s.host.parser ∧
    (finishHunt r l n s).host.arrived = s.host.arrived ∧ (finishHunt r l n s).host.commands = s.host.commands ∧
    (finishHunt r l n s).host.replies = s.host.replies ∧ (finishHunt r l n s).host.mask = s.host.mask ∧
    (finishHunt r l n s).host.lostRecords = s.host.lostRecords ∧ (finishHunt r l n s).host.tx = s.host.tx ∧
    (finishHunt r l n s).host.restart = s.host.restart := by
  simp [finishHunt]

@[simp] theorem endHunt_line (o : HuntOutcome) (c : Option AbortCause) (b : Option (List Cond)) (u : Option Nat) (n : HuntState) (s : State) :
    (endHunt o c b u n s).host.lineRate = s.host.lineRate ∧ (endHunt o c b u n s).host.parser = s.host.parser ∧
    (endHunt o c b u n s).host.arrived = s.host.arrived ∧
    (endHunt o c b u n s).host.commands = s.host.commands ∧
    (endHunt o c b u n s).host.replies = s.host.replies ∧ (endHunt o c b u n s).host.mask = s.host.mask ∧
    (endHunt o c b u n s).host.lostRecords = s.host.lostRecords ∧ (endHunt o c b u n s).host.tx = s.host.tx ∧
    (endHunt o c b u n s).host.restart = s.host.restart := by
  simp [endHunt]

@[simp] theorem beginSteps_line (u : Option Nat) (l : List HuntStep) (s : State) :
    (beginSteps u l s).host.lineRate = s.host.lineRate ∧ (beginSteps u l s).host.parser = s.host.parser ∧
    (beginSteps u l s).host.arrived = s.host.arrived ∧ (beginSteps u l s).host.commands = s.host.commands ∧
    (beginSteps u l s).host.replies = s.host.replies ∧ (beginSteps u l s).host.mask = s.host.mask ∧
    (beginSteps u l s).host.lostRecords = s.host.lostRecords ∧ (beginSteps u l s).host.tx = s.host.tx ∧
    (beginSteps u l s).host.restart = s.host.restart := by
  induction l generalizing s with
  | nil => simp [beginSteps]
  | cons st rest ih =>
    unfold beginSteps
    dsimp only
    split
    · split
      · have := sendHunt_frame ‹_›
        simp [this]
      · simp [ih]
    · simp [ih]

@[simp] theorem continueHunt_line (u : Option Nat) (s : State) :
    (continueHunt u s).host.lineRate = s.host.lineRate ∧ (continueHunt u s).host.parser = s.host.parser ∧
    (continueHunt u s).host.arrived = s.host.arrived ∧ (continueHunt u s).host.commands = s.host.commands ∧
    (continueHunt u s).host.replies = s.host.replies ∧ (continueHunt u s).host.mask = s.host.mask ∧
    (continueHunt u s).host.lostRecords = s.host.lostRecords ∧ (continueHunt u s).host.tx = s.host.tx ∧
    (continueHunt u s).host.restart = s.host.restart := by
  simp [continueHunt]

@[simp] theorem stepOver_line (r : StepResult) (u : Option Nat) (s : State) :
    (stepOver r u s).host.lineRate = s.host.lineRate ∧ (stepOver r u s).host.parser = s.host.parser ∧
    (stepOver r u s).host.arrived = s.host.arrived ∧ (stepOver r u s).host.commands = s.host.commands ∧
    (stepOver r u s).host.replies = s.host.replies ∧ (stepOver r u s).host.mask = s.host.mask ∧
    (stepOver r u s).host.lostRecords = s.host.lostRecords ∧ (stepOver r u s).host.tx = s.host.tx ∧
    (stepOver r u s).host.restart = s.host.restart := by
  simp [stepOver]

@[simp] theorem restoreFailed_line (u : Option Nat) (s : State) :
    (restoreFailed u s).host.lineRate = s.host.lineRate ∧ (restoreFailed u s).host.parser = s.host.parser ∧
    (restoreFailed u s).host.arrived = s.host.arrived ∧ (restoreFailed u s).host.commands = s.host.commands ∧
    (restoreFailed u s).host.replies = s.host.replies ∧ (restoreFailed u s).host.mask = s.host.mask ∧
    (restoreFailed u s).host.lostRecords = s.host.lostRecords ∧ (restoreFailed u s).host.tx = s.host.tx ∧
    (restoreFailed u s).host.restart = s.host.restart := by
  simp [restoreFailed]

@[simp] theorem huntAbort_line (c : AbortCause) (s : State) :
    (huntAbort c s).host.lineRate = s.host.lineRate ∧ (huntAbort c s).host.parser = s.host.parser ∧
    (huntAbort c s).host.arrived = s.host.arrived ∧ (huntAbort c s).host.commands = s.host.commands ∧
    (huntAbort c s).host.replies = s.host.replies ∧ (huntAbort c s).host.mask = s.host.mask ∧
    (huntAbort c s).host.lostRecords = s.host.lostRecords ∧ (huntAbort c s).host.tx = s.host.tx ∧
    (huntAbort c s).host.restart = s.host.restart := by
  unfold huntAbort
  (repeat' split) <;> simp

@[simp] theorem huntBarArrival_line (b : State) (s : State) :
    (huntBarArrival b s).host.lineRate = s.host.lineRate ∧ (huntBarArrival b s).host.parser = s.host.parser ∧
    (huntBarArrival b s).host.arrived = s.host.arrived ∧ (huntBarArrival b s).host.commands = s.host.commands ∧
    (huntBarArrival b s).host.replies = s.host.replies ∧ (huntBarArrival b s).host.mask = s.host.mask ∧
    (huntBarArrival b s).host.lostRecords = s.host.lostRecords ∧ (huntBarArrival b s).host.tx = s.host.tx ∧
    (huntBarArrival b s).host.restart = s.host.restart := by
  unfold huntBarArrival
  (repeat' split) <;> simp

@[simp] theorem setCondition_line (c : Cond) (a : Bool) (s : State) :
    (setCondition c a s).host.lineRate = s.host.lineRate ∧ (setCondition c a s).host.parser = s.host.parser ∧
    (setCondition c a s).host.arrived = s.host.arrived ∧ (setCondition c a s).host.commands = s.host.commands ∧
    (setCondition c a s).host.replies = s.host.replies ∧ (setCondition c a s).host.mask = s.host.mask ∧
    (setCondition c a s).host.lostRecords = s.host.lostRecords ∧ (setCondition c a s).host.tx = s.host.tx ∧
    (setCondition c a s).host.restart = s.host.restart := by
  simp [setCondition]

@[simp] theorem applyTable_line  (s : State) :
    (applyTable s).host.lineRate = s.host.lineRate ∧ (applyTable s).host.parser = s.host.parser ∧
    (applyTable s).host.arrived = s.host.arrived ∧ (applyTable s).host.commands = s.host.commands ∧
    (applyTable s).host.replies = s.host.replies ∧ (applyTable s).host.mask = s.host.mask ∧
    (applyTable s).host.lostRecords = s.host.lostRecords ∧ (applyTable s).host.tx = s.host.tx ∧
    (applyTable s).host.restart = s.host.restart := by
  simp [applyTable]

@[simp] theorem startHuntNow_line (o : Option HuntOrigin) (s : State) :
    (startHuntNow o s).host.lineRate = s.host.lineRate ∧ (startHuntNow o s).host.parser = s.host.parser ∧
    (startHuntNow o s).host.arrived = s.host.arrived ∧ (startHuntNow o s).host.commands = s.host.commands ∧
    (startHuntNow o s).host.replies = s.host.replies ∧ (startHuntNow o s).host.mask = s.host.mask ∧
    (startHuntNow o s).host.lostRecords = s.host.lostRecords ∧ (startHuntNow o s).host.tx = s.host.tx ∧
    (startHuntNow o s).host.restart = s.host.restart := by
  simp [startHuntNow]

@[simp] theorem admitHunt_line (o : HuntOrigin) (s : State) :
    (admitHunt o s).host.lineRate = s.host.lineRate ∧ (admitHunt o s).host.parser = s.host.parser ∧
    (admitHunt o s).host.arrived = s.host.arrived ∧ (admitHunt o s).host.commands = s.host.commands ∧
    (admitHunt o s).host.replies = s.host.replies ∧ (admitHunt o s).host.mask = s.host.mask ∧
    (admitHunt o s).host.lostRecords = s.host.lostRecords ∧ (admitHunt o s).host.tx = s.host.tx ∧
    (admitHunt o s).host.restart = s.host.restart := by
  unfold admitHunt
  (repeat' split) <;> simp

@[simp] theorem huntNotStarted_line (r : NotStarted) (o : Option HuntOrigin) (s : State) :
    (huntNotStarted r o s).host.lineRate = s.host.lineRate ∧
    (huntNotStarted r o s).host.parser = s.host.parser ∧ (huntNotStarted r o s).host.arrived = s.host.arrived ∧
    (huntNotStarted r o s).host.commands = s.host.commands ∧
    (huntNotStarted r o s).host.replies = s.host.replies ∧ (huntNotStarted r o s).host.mask = s.host.mask ∧
    (huntNotStarted r o s).host.lostRecords = s.host.lostRecords ∧ (huntNotStarted r o s).host.tx = s.host.tx ∧
    (huntNotStarted r o s).host.restart = s.host.restart := by
  simp [huntNotStarted]

@[simp] theorem huntRequestSef_line  (s : State) :
    (huntRequestSef s).host.lineRate = s.host.lineRate ∧ (huntRequestSef s).host.parser = s.host.parser ∧
    (huntRequestSef s).host.arrived = s.host.arrived ∧ (huntRequestSef s).host.commands = s.host.commands ∧
    (huntRequestSef s).host.replies = s.host.replies ∧ (huntRequestSef s).host.mask = s.host.mask ∧
    (huntRequestSef s).host.lostRecords = s.host.lostRecords ∧ (huntRequestSef s).host.tx = s.host.tx ∧
    (huntRequestSef s).host.restart = s.host.restart := by
  unfold huntRequestSef
  (repeat' split) <;> simp

@[simp] theorem huntWindowClosed_line  (s : State) :
    (huntWindowClosed s).host.lineRate = s.host.lineRate ∧ (huntWindowClosed s).host.parser = s.host.parser ∧
    (huntWindowClosed s).host.arrived = s.host.arrived ∧ (huntWindowClosed s).host.commands = s.host.commands ∧
    (huntWindowClosed s).host.replies = s.host.replies ∧ (huntWindowClosed s).host.mask = s.host.mask ∧
    (huntWindowClosed s).host.lostRecords = s.host.lostRecords ∧ (huntWindowClosed s).host.tx = s.host.tx ∧
    (huntWindowClosed s).host.restart = s.host.restart := by
  unfold huntWindowClosed
  (repeat' split) <;> simp

@[simp] theorem huntGroupChange_line  (s : State) :
    (huntGroupChange s).host.lineRate = s.host.lineRate ∧ (huntGroupChange s).host.parser = s.host.parser ∧
    (huntGroupChange s).host.arrived = s.host.arrived ∧ (huntGroupChange s).host.commands = s.host.commands ∧
    (huntGroupChange s).host.replies = s.host.replies ∧ (huntGroupChange s).host.mask = s.host.mask ∧
    (huntGroupChange s).host.lostRecords = s.host.lostRecords ∧ (huntGroupChange s).host.tx = s.host.tx ∧
    (huntGroupChange s).host.restart = s.host.restart := by
  unfold huntGroupChange
  (repeat' split) <;> simp

@[simp] theorem sendHeldHunt_line  (s : State) :
    (sendHeldHunt s).host.lineRate = s.host.lineRate ∧ (sendHeldHunt s).host.parser = s.host.parser ∧
    (sendHeldHunt s).host.arrived = s.host.arrived ∧ (sendHeldHunt s).host.commands = s.host.commands ∧
    (sendHeldHunt s).host.replies = s.host.replies ∧ (sendHeldHunt s).host.mask = s.host.mask ∧
    (sendHeldHunt s).host.lostRecords = s.host.lostRecords ∧ (sendHeldHunt s).host.tx = s.host.tx ∧
    (sendHeldHunt s).host.restart = s.host.restart := by
  unfold sendHeldHunt
  split <;> (try split) <;> first | simp | (have := sendHunt_frame ‹_›; simp [this])

@[simp] theorem huntOutcome_line (o : DownOutcome) (s : State) :
    (huntOutcome o s).host.lineRate = s.host.lineRate ∧ (huntOutcome o s).host.parser = s.host.parser ∧
    (huntOutcome o s).host.arrived = s.host.arrived ∧ (huntOutcome o s).host.commands = s.host.commands ∧
    (huntOutcome o s).host.replies = s.host.replies ∧ (huntOutcome o s).host.mask = s.host.mask ∧
    (huntOutcome o s).host.lostRecords = s.host.lostRecords ∧ (huntOutcome o s).host.tx = s.host.tx ∧
    (huntOutcome o s).host.restart = s.host.restart := by
  unfold huntOutcome
  (repeat' split) <;> simp

@[simp] theorem huntSwitchDone_line (a : Nat) (r : SwitchResult) (s : State) :
    (huntSwitchDone a r s).host.lineRate = s.host.lineRate ∧
    (huntSwitchDone a r s).host.parser = s.host.parser ∧ (huntSwitchDone a r s).host.arrived = s.host.arrived ∧
    (huntSwitchDone a r s).host.commands = s.host.commands ∧
    (huntSwitchDone a r s).host.replies = s.host.replies ∧ (huntSwitchDone a r s).host.mask = s.host.mask ∧
    (huntSwitchDone a r s).host.lostRecords = s.host.lostRecords ∧ (huntSwitchDone a r s).host.tx = s.host.tx ∧
    (huntSwitchDone a r s).host.restart = s.host.restart := by
  unfold huntSwitchDone
  (repeat' split) <;> simp

@[simp] theorem beginRestore_line  (s : State) :
    (beginRestore s).host.lineRate = s.host.lineRate ∧ (beginRestore s).host.parser = s.host.parser ∧
    (beginRestore s).host.arrived = s.host.arrived ∧ (beginRestore s).host.commands = s.host.commands ∧
    (beginRestore s).host.replies = s.host.replies ∧ (beginRestore s).host.mask = s.host.mask ∧
    (beginRestore s).host.lostRecords = s.host.lostRecords ∧ (beginRestore s).host.tx = s.host.tx ∧
    (beginRestore s).host.restart = s.host.restart := by
  unfold beginRestore
  dsimp only
  split
  · have := sendHunt_frame ‹_›
    simp [this]
  · simp

@[simp] theorem judgeDwell_line  (s : State) :
    (judgeDwell s).host.lineRate = s.host.lineRate ∧ (judgeDwell s).host.parser = s.host.parser ∧
    (judgeDwell s).host.arrived = s.host.arrived ∧ (judgeDwell s).host.commands = s.host.commands ∧
    (judgeDwell s).host.replies = s.host.replies ∧ (judgeDwell s).host.mask = s.host.mask ∧
    (judgeDwell s).host.lostRecords = s.host.lostRecords ∧ (judgeDwell s).host.tx = s.host.tx ∧
    (judgeDwell s).host.restart = s.host.restart := by
  unfold judgeDwell
  (repeat' split) <;> simp

@[simp] theorem startReport_line (n : Nat) (e : StartEvent) (c : Option StartCause) (so : Option Nat) (w : Option (Nat × Nat)) (s : State) :
    (startReport n e c so w s).host.lineRate = s.host.lineRate ∧
    (startReport n e c so w s).host.parser = s.host.parser ∧
    (startReport n e c so w s).host.arrived = s.host.arrived ∧
    (startReport n e c so w s).host.commands = s.host.commands ∧
    (startReport n e c so w s).host.replies = s.host.replies ∧
    (startReport n e c so w s).host.mask = s.host.mask ∧
    (startReport n e c so w s).host.lostRecords = s.host.lostRecords ∧
    (startReport n e c so w s).host.tx = s.host.tx ∧ (startReport n e c so w s).host.restart = s.host.restart := by
  simp [startReport]

@[simp] theorem queueRelease_line (n a : Nat) (s : State) :
    (queueRelease n a s).host.lineRate = s.host.lineRate ∧ (queueRelease n a s).host.parser = s.host.parser ∧
    (queueRelease n a s).host.arrived = s.host.arrived ∧ (queueRelease n a s).host.commands = s.host.commands ∧
    (queueRelease n a s).host.replies = s.host.replies ∧ (queueRelease n a s).host.mask = s.host.mask ∧
    (queueRelease n a s).host.lostRecords = s.host.lostRecords ∧ (queueRelease n a s).host.tx = s.host.tx ∧
    (queueRelease n a s).host.restart = s.host.restart := by
  unfold queueRelease
  split
  · simp
  · split
    · have := joinQueue_frame ‹_›
      simp [this]
    · simp

@[simp] theorem settleGrant_line (w : StartWindow) (b : Bool) (s : State) :
    (settleGrant w b s).host.lineRate = s.host.lineRate ∧ (settleGrant w b s).host.parser = s.host.parser ∧
    (settleGrant w b s).host.arrived = s.host.arrived ∧ (settleGrant w b s).host.commands = s.host.commands ∧
    (settleGrant w b s).host.replies = s.host.replies ∧ (settleGrant w b s).host.mask = s.host.mask ∧
    (settleGrant w b s).host.lostRecords = s.host.lostRecords ∧ (settleGrant w b s).host.tx = s.host.tx ∧
    (settleGrant w b s).host.restart = s.host.restart := by
  unfold settleGrant
  (repeat' split) <;> simp

@[simp] theorem endWindow_line (c : StartCause) (s : State) :
    (endWindow c s).host.lineRate = s.host.lineRate ∧ (endWindow c s).host.parser = s.host.parser ∧
    (endWindow c s).host.arrived = s.host.arrived ∧ (endWindow c s).host.commands = s.host.commands ∧
    (endWindow c s).host.replies = s.host.replies ∧ (endWindow c s).host.mask = s.host.mask ∧
    (endWindow c s).host.lostRecords = s.host.lostRecords ∧ (endWindow c s).host.tx = s.host.tx ∧
    (endWindow c s).host.restart = s.host.restart := by
  unfold endWindow
  (repeat' split) <;> simp

@[simp] theorem queueGrant_line (w : StartWindow) (s : State) :
    (queueGrant w s).host.lineRate = s.host.lineRate ∧ (queueGrant w s).host.parser = s.host.parser ∧
    (queueGrant w s).host.arrived = s.host.arrived ∧ (queueGrant w s).host.commands = s.host.commands ∧
    (queueGrant w s).host.replies = s.host.replies ∧ (queueGrant w s).host.mask = s.host.mask ∧
    (queueGrant w s).host.lostRecords = s.host.lostRecords ∧ (queueGrant w s).host.tx = s.host.tx ∧
    (queueGrant w s).host.restart = s.host.restart := by
  unfold queueGrant
  split
  · simp
  · split
    · have := joinQueue_frame ‹_›
      simp [this]
    · simp

@[simp] theorem sendReleaseDue_line  (s : State) :
    (sendReleaseDue s).host.lineRate = s.host.lineRate ∧ (sendReleaseDue s).host.parser = s.host.parser ∧
    (sendReleaseDue s).host.arrived = s.host.arrived ∧ (sendReleaseDue s).host.commands = s.host.commands ∧
    (sendReleaseDue s).host.replies = s.host.replies ∧ (sendReleaseDue s).host.mask = s.host.mask ∧
    (sendReleaseDue s).host.lostRecords = s.host.lostRecords ∧ (sendReleaseDue s).host.tx = s.host.tx ∧
    (sendReleaseDue s).host.restart = s.host.restart := by
  unfold sendReleaseDue
  (repeat' split) <;> simp

@[simp] theorem sendHeldGrant_line  (s : State) :
    (sendHeldGrant s).host.lineRate = s.host.lineRate ∧ (sendHeldGrant s).host.parser = s.host.parser ∧
    (sendHeldGrant s).host.arrived = s.host.arrived ∧ (sendHeldGrant s).host.commands = s.host.commands ∧
    (sendHeldGrant s).host.replies = s.host.replies ∧ (sendHeldGrant s).host.mask = s.host.mask ∧
    (sendHeldGrant s).host.lostRecords = s.host.lostRecords ∧ (sendHeldGrant s).host.tx = s.host.tx ∧
    (sendHeldGrant s).host.restart = s.host.restart := by
  unfold sendHeldGrant
  (repeat' split) <;> simp

@[simp] theorem admOutcomeEffect_line (m : StartMessage) (o : DownOutcome) (s : State) :
    (admOutcomeEffect m o s).host.lineRate = s.host.lineRate ∧
    (admOutcomeEffect m o s).host.parser = s.host.parser ∧
    (admOutcomeEffect m o s).host.arrived = s.host.arrived ∧
    (admOutcomeEffect m o s).host.commands = s.host.commands ∧
    (admOutcomeEffect m o s).host.replies = s.host.replies ∧ (admOutcomeEffect m o s).host.mask = s.host.mask ∧
    (admOutcomeEffect m o s).host.lostRecords = s.host.lostRecords ∧
    (admOutcomeEffect m o s).host.tx = s.host.tx ∧ (admOutcomeEffect m o s).host.restart = s.host.restart := by
  unfold admOutcomeEffect
  (repeat' split) <;> simp

@[simp] theorem admOutcome_line (o : DownOutcome) (s : State) :
    (admOutcome o s).host.lineRate = s.host.lineRate ∧ (admOutcome o s).host.parser = s.host.parser ∧
    (admOutcome o s).host.arrived = s.host.arrived ∧ (admOutcome o s).host.commands = s.host.commands ∧
    (admOutcome o s).host.replies = s.host.replies ∧ (admOutcome o s).host.mask = s.host.mask ∧
    (admOutcome o s).host.lostRecords = s.host.lostRecords ∧ (admOutcome o s).host.tx = s.host.tx ∧
    (admOutcome o s).host.restart = s.host.restart := by
  unfold admOutcome
  (repeat' split) <;> simp

@[simp] theorem makePending_line (d : Drive) (n : Nat) (s : State) :
    (makePending d n s).host.lineRate = s.host.lineRate ∧ (makePending d n s).host.parser = s.host.parser ∧
    (makePending d n s).host.arrived = s.host.arrived ∧ (makePending d n s).host.commands = s.host.commands ∧
    (makePending d n s).host.replies = s.host.replies ∧ (makePending d n s).host.mask = s.host.mask ∧
    (makePending d n s).host.lostRecords = s.host.lostRecords ∧ (makePending d n s).host.tx = s.host.tx ∧
    (makePending d n s).host.restart = s.host.restart := by
  simp [makePending]

@[simp] theorem withdrawRequest_line (c : StartCause) (n : Nat) (s : State) :
    (withdrawRequest c s n).host.lineRate = s.host.lineRate ∧
    (withdrawRequest c s n).host.parser = s.host.parser ∧
    (withdrawRequest c s n).host.arrived = s.host.arrived ∧
    (withdrawRequest c s n).host.commands = s.host.commands ∧
    (withdrawRequest c s n).host.replies = s.host.replies ∧ (withdrawRequest c s n).host.mask = s.host.mask ∧
    (withdrawRequest c s n).host.lostRecords = s.host.lostRecords ∧
    (withdrawRequest c s n).host.tx = s.host.tx ∧ (withdrawRequest c s n).host.restart = s.host.restart := by
  simp [withdrawRequest]

@[simp] theorem foldl_withdrawRequest_line (c : StartCause) (l : List Nat) (s : State) :
    (l.foldl (withdrawRequest c) s).host.lineRate = s.host.lineRate ∧
    (l.foldl (withdrawRequest c) s).host.parser = s.host.parser ∧
    (l.foldl (withdrawRequest c) s).host.arrived = s.host.arrived ∧
    (l.foldl (withdrawRequest c) s).host.commands = s.host.commands ∧
    (l.foldl (withdrawRequest c) s).host.replies = s.host.replies ∧
    (l.foldl (withdrawRequest c) s).host.mask = s.host.mask ∧
    (l.foldl (withdrawRequest c) s).host.lostRecords = s.host.lostRecords ∧
    (l.foldl (withdrawRequest c) s).host.tx = s.host.tx ∧
    (l.foldl (withdrawRequest c) s).host.restart = s.host.restart := by
  induction l generalizing s with
  | nil => simp
  | cons n l ih => simp [ih]

@[simp] theorem admStartRequest_line (a n : Nat) (s : State) :
    (admStartRequest a n s).host.lineRate = s.host.lineRate ∧
    (admStartRequest a n s).host.parser = s.host.parser ∧
    (admStartRequest a n s).host.arrived = s.host.arrived ∧
    (admStartRequest a n s).host.commands = s.host.commands ∧
    (admStartRequest a n s).host.replies = s.host.replies ∧ (admStartRequest a n s).host.mask = s.host.mask ∧
    (admStartRequest a n s).host.lostRecords = s.host.lostRecords ∧
    (admStartRequest a n s).host.tx = s.host.tx ∧ (admStartRequest a n s).host.restart = s.host.restart := by
  unfold admStartRequest
  (repeat' split) <;> simp

@[simp] theorem admStartDone_line (a n : Nat) (s : State) :
    (admStartDone a n s).host.lineRate = s.host.lineRate ∧ (admStartDone a n s).host.parser = s.host.parser ∧
    (admStartDone a n s).host.arrived = s.host.arrived ∧ (admStartDone a n s).host.commands = s.host.commands ∧
    (admStartDone a n s).host.replies = s.host.replies ∧ (admStartDone a n s).host.mask = s.host.mask ∧
    (admStartDone a n s).host.lostRecords = s.host.lostRecords ∧ (admStartDone a n s).host.tx = s.host.tx ∧
    (admStartDone a n s).host.restart = s.host.restart := by
  unfold admStartDone
  (repeat' split) <;> simp

@[simp] theorem admStartAbandon_line (a n : Nat) (s : State) :
    (admStartAbandon a n s).host.lineRate = s.host.lineRate ∧
    (admStartAbandon a n s).host.parser = s.host.parser ∧
    (admStartAbandon a n s).host.arrived = s.host.arrived ∧
    (admStartAbandon a n s).host.commands = s.host.commands ∧
    (admStartAbandon a n s).host.replies = s.host.replies ∧ (admStartAbandon a n s).host.mask = s.host.mask ∧
    (admStartAbandon a n s).host.lostRecords = s.host.lostRecords ∧
    (admStartAbandon a n s).host.tx = s.host.tx ∧ (admStartAbandon a n s).host.restart = s.host.restart := by
  unfold admStartAbandon
  (repeat' split) <;> simp

@[simp] theorem openWindow_line (d : Drive) (s : State) :
    (openWindow d s).host.lineRate = s.host.lineRate ∧ (openWindow d s).host.parser = s.host.parser ∧
    (openWindow d s).host.arrived = s.host.arrived ∧ (openWindow d s).host.commands = s.host.commands ∧
    (openWindow d s).host.replies = s.host.replies ∧ (openWindow d s).host.mask = s.host.mask ∧
    (openWindow d s).host.lostRecords = s.host.lostRecords ∧ (openWindow d s).host.tx = s.host.tx ∧
    (openWindow d s).host.restart = s.host.restart := by
  unfold openWindow
  (repeat' split) <;> simp

@[simp] theorem rebuildDrives_line (l : List DriveEntry) (s : State) :
    (rebuildDrives l s).host.lineRate = s.host.lineRate ∧ (rebuildDrives l s).host.parser = s.host.parser ∧
    (rebuildDrives l s).host.arrived = s.host.arrived ∧ (rebuildDrives l s).host.commands = s.host.commands ∧
    (rebuildDrives l s).host.replies = s.host.replies ∧ (rebuildDrives l s).host.mask = s.host.mask ∧
    (rebuildDrives l s).host.lostRecords = s.host.lostRecords ∧ (rebuildDrives l s).host.tx = s.host.tx ∧
    (rebuildDrives l s).host.restart = s.host.restart := by
  unfold rebuildDrives
  dsimp only
  split <;> simp

@[simp] theorem drivesInvalid_line  (s : State) :
    (drivesInvalid s).host.lineRate = s.host.lineRate ∧ (drivesInvalid s).host.parser = s.host.parser ∧
    (drivesInvalid s).host.arrived = s.host.arrived ∧ (drivesInvalid s).host.commands = s.host.commands ∧
    (drivesInvalid s).host.replies = s.host.replies ∧ (drivesInvalid s).host.mask = s.host.mask ∧
    (drivesInvalid s).host.lostRecords = s.host.lostRecords ∧ (drivesInvalid s).host.tx = s.host.tx ∧
    (drivesInvalid s).host.restart = s.host.restart := by
  simp [drivesInvalid]

@[simp] theorem seqMove_line (r : Sequencer) (e : SeqEvent) (o : Option ChangeOrigin) (s : State) :
    (seqMove r e o s).host.lineRate = s.host.lineRate ∧ (seqMove r e o s).host.parser = s.host.parser ∧
    (seqMove r e o s).host.arrived = s.host.arrived ∧ (seqMove r e o s).host.commands = s.host.commands ∧
    (seqMove r e o s).host.replies = s.host.replies ∧ (seqMove r e o s).host.mask = s.host.mask ∧
    (seqMove r e o s).host.lostRecords = s.host.lostRecords ∧ (seqMove r e o s).host.tx = s.host.tx ∧
    (seqMove r e o s).host.restart = s.host.restart := by
  unfold seqMove
  (repeat' split) <;> simp

@[simp] theorem tripFromClosed_line (t : LastTrip) (s : State) :
    (tripFromClosed t s).host.lineRate = s.host.lineRate ∧ (tripFromClosed t s).host.parser = s.host.parser ∧
    (tripFromClosed t s).host.arrived = s.host.arrived ∧ (tripFromClosed t s).host.commands = s.host.commands ∧
    (tripFromClosed t s).host.replies = s.host.replies ∧ (tripFromClosed t s).host.mask = s.host.mask ∧
    (tripFromClosed t s).host.lostRecords = s.host.lostRecords ∧ (tripFromClosed t s).host.tx = s.host.tx ∧
    (tripFromClosed t s).host.restart = s.host.restart := by
  unfold tripFromClosed
  (repeat' split) <;> simp

@[simp] theorem seqTrip_line (t : LastTrip) (s : State) :
    (seqTrip t s).host.lineRate = s.host.lineRate ∧ (seqTrip t s).host.parser = s.host.parser ∧
    (seqTrip t s).host.arrived = s.host.arrived ∧ (seqTrip t s).host.commands = s.host.commands ∧
    (seqTrip t s).host.replies = s.host.replies ∧ (seqTrip t s).host.mask = s.host.mask ∧
    (seqTrip t s).host.lostRecords = s.host.lostRecords ∧ (seqTrip t s).host.tx = s.host.tx ∧
    (seqTrip t s).host.restart = s.host.restart := by
  unfold seqTrip
  (repeat' split) <;> simp

@[simp] theorem openJudgement_line (o : ChangeOrigin) (s : State) :
    (openJudgement o s).host.lineRate = s.host.lineRate ∧ (openJudgement o s).host.parser = s.host.parser ∧
    (openJudgement o s).host.arrived = s.host.arrived ∧ (openJudgement o s).host.commands = s.host.commands ∧
    (openJudgement o s).host.replies = s.host.replies ∧ (openJudgement o s).host.mask = s.host.mask ∧
    (openJudgement o s).host.lostRecords = s.host.lostRecords ∧ (openJudgement o s).host.tx = s.host.tx ∧
    (openJudgement o s).host.restart = s.host.restart := by
  unfold openJudgement
  repeat' ((try dsimp only); split)
  all_goals simp

@[simp] theorem externalClosing_line (o : ChangeOrigin) (s : State) :
    (externalClosing o s).host.lineRate = s.host.lineRate ∧ (externalClosing o s).host.parser = s.host.parser ∧
    (externalClosing o s).host.arrived = s.host.arrived ∧
    (externalClosing o s).host.commands = s.host.commands ∧
    (externalClosing o s).host.replies = s.host.replies ∧ (externalClosing o s).host.mask = s.host.mask ∧
    (externalClosing o s).host.lostRecords = s.host.lostRecords ∧ (externalClosing o s).host.tx = s.host.tx ∧
    (externalClosing o s).host.restart = s.host.restart := by
  simp [externalClosing]

@[simp] theorem initialChange_line (n : BreakerPos) (s : State) :
    (initialChange n s).host.lineRate = s.host.lineRate ∧ (initialChange n s).host.parser = s.host.parser ∧
    (initialChange n s).host.arrived = s.host.arrived ∧ (initialChange n s).host.commands = s.host.commands ∧
    (initialChange n s).host.replies = s.host.replies ∧ (initialChange n s).host.mask = s.host.mask ∧
    (initialChange n s).host.lostRecords = s.host.lostRecords ∧ (initialChange n s).host.tx = s.host.tx ∧
    (initialChange n s).host.restart = s.host.restart := by
  unfold initialChange
  (repeat' split) <;> simp

@[simp] theorem laterChange_line (n : BreakerPos) (o : ChangeOrigin) (b : Bool) (s : State) :
    (laterChange n o b s).host.lineRate = s.host.lineRate ∧ (laterChange n o b s).host.parser = s.host.parser ∧
    (laterChange n o b s).host.arrived = s.host.arrived ∧
    (laterChange n o b s).host.commands = s.host.commands ∧
    (laterChange n o b s).host.replies = s.host.replies ∧ (laterChange n o b s).host.mask = s.host.mask ∧
    (laterChange n o b s).host.lostRecords = s.host.lostRecords ∧ (laterChange n o b s).host.tx = s.host.tx ∧
    (laterChange n o b s).host.restart = s.host.restart := by
  unfold laterChange
  (repeat' split) <;> simp

@[simp] theorem seqBreakerChange_line (n : BreakerPos) (o : ChangeOrigin) (s : State) :
    (seqBreakerChange n o s).host.lineRate = s.host.lineRate ∧
    (seqBreakerChange n o s).host.parser = s.host.parser ∧
    (seqBreakerChange n o s).host.arrived = s.host.arrived ∧
    (seqBreakerChange n o s).host.commands = s.host.commands ∧
    (seqBreakerChange n o s).host.replies = s.host.replies ∧ (seqBreakerChange n o s).host.mask = s.host.mask ∧
    (seqBreakerChange n o s).host.lostRecords = s.host.lostRecords ∧
    (seqBreakerChange n o s).host.tx = s.host.tx ∧ (seqBreakerChange n o s).host.restart = s.host.restart := by
  unfold seqBreakerChange
  (repeat' split) <;> simp

@[simp] theorem seqClosedOk_line  (s : State) :
    (seqClosedOk s).host.lineRate = s.host.lineRate ∧ (seqClosedOk s).host.parser = s.host.parser ∧
    (seqClosedOk s).host.arrived = s.host.arrived ∧ (seqClosedOk s).host.commands = s.host.commands ∧
    (seqClosedOk s).host.replies = s.host.replies ∧ (seqClosedOk s).host.mask = s.host.mask ∧
    (seqClosedOk s).host.lostRecords = s.host.lostRecords ∧ (seqClosedOk s).host.tx = s.host.tx ∧
    (seqClosedOk s).host.restart = s.host.restart := by
  unfold seqClosedOk
  (repeat' split) <;> simp

@[simp] theorem seqTimedOut_line  (s : State) :
    (seqTimedOut s).host.lineRate = s.host.lineRate ∧ (seqTimedOut s).host.parser = s.host.parser ∧
    (seqTimedOut s).host.arrived = s.host.arrived ∧ (seqTimedOut s).host.commands = s.host.commands ∧
    (seqTimedOut s).host.replies = s.host.replies ∧ (seqTimedOut s).host.mask = s.host.mask ∧
    (seqTimedOut s).host.lostRecords = s.host.lostRecords ∧ (seqTimedOut s).host.tx = s.host.tx ∧
    (seqTimedOut s).host.restart = s.host.restart := by
  unfold seqTimedOut
  (repeat' split) <;> simp

@[simp] theorem seqBreakerFail_line  (s : State) :
    (seqBreakerFail s).host.lineRate = s.host.lineRate ∧ (seqBreakerFail s).host.parser = s.host.parser ∧
    (seqBreakerFail s).host.arrived = s.host.arrived ∧ (seqBreakerFail s).host.commands = s.host.commands ∧
    (seqBreakerFail s).host.replies = s.host.replies ∧ (seqBreakerFail s).host.mask = s.host.mask ∧
    (seqBreakerFail s).host.lostRecords = s.host.lostRecords ∧ (seqBreakerFail s).host.tx = s.host.tx ∧
    (seqBreakerFail s).host.restart = s.host.restart := by
  unfold seqBreakerFail
  (repeat' split) <;> simp

@[simp] theorem seqGroupChange_line  (s : State) :
    (seqGroupChange s).host.lineRate = s.host.lineRate ∧ (seqGroupChange s).host.parser = s.host.parser ∧
    (seqGroupChange s).host.arrived = s.host.arrived ∧ (seqGroupChange s).host.commands = s.host.commands ∧
    (seqGroupChange s).host.replies = s.host.replies ∧ (seqGroupChange s).host.mask = s.host.mask ∧
    (seqGroupChange s).host.lostRecords = s.host.lostRecords ∧ (seqGroupChange s).host.tx = s.host.tx ∧
    (seqGroupChange s).host.restart = s.host.restart := by
  unfold seqGroupChange
  (repeat' split) <;> simp

@[simp] theorem deadTimeEnds_line  (s : State) :
    (deadTimeEnds s).host.lineRate = s.host.lineRate ∧ (deadTimeEnds s).host.parser = s.host.parser ∧
    (deadTimeEnds s).host.arrived = s.host.arrived ∧ (deadTimeEnds s).host.commands = s.host.commands ∧
    (deadTimeEnds s).host.replies = s.host.replies ∧ (deadTimeEnds s).host.mask = s.host.mask ∧
    (deadTimeEnds s).host.lostRecords = s.host.lostRecords ∧ (deadTimeEnds s).host.tx = s.host.tx ∧
    (deadTimeEnds s).host.restart = s.host.restart := by
  unfold deadTimeEnds
  repeat' ((try dsimp only); split)
  all_goals simp

@[simp] theorem completeTrip_line  (s : State) :
    (completeTrip s).host.lineRate = s.host.lineRate ∧ (completeTrip s).host.parser = s.host.parser ∧
    (completeTrip s).host.arrived = s.host.arrived ∧ (completeTrip s).host.commands = s.host.commands ∧
    (completeTrip s).host.replies = s.host.replies ∧ (completeTrip s).host.mask = s.host.mask ∧
    (completeTrip s).host.lostRecords = s.host.lostRecords ∧ (completeTrip s).host.tx = s.host.tx ∧
    (completeTrip s).host.restart = s.host.restart := by
  unfold completeTrip
  (repeat' split) <;> simp

@[simp] theorem completeClose_line  (s : State) :
    (completeClose s).host.lineRate = s.host.lineRate ∧ (completeClose s).host.parser = s.host.parser ∧
    (completeClose s).host.arrived = s.host.arrived ∧ (completeClose s).host.commands = s.host.commands ∧
    (completeClose s).host.replies = s.host.replies ∧ (completeClose s).host.mask = s.host.mask ∧
    (completeClose s).host.lostRecords = s.host.lostRecords ∧ (completeClose s).host.tx = s.host.tx ∧
    (completeClose s).host.restart = s.host.restart := by
  unfold completeClose
  (repeat' split) <;> simp

@[simp] theorem ownOutputs_line (n : BreakerPos) (s : State) :
    (ownOutputs n s).host.lineRate = s.host.lineRate ∧ (ownOutputs n s).host.parser = s.host.parser ∧
    (ownOutputs n s).host.arrived = s.host.arrived ∧ (ownOutputs n s).host.commands = s.host.commands ∧
    (ownOutputs n s).host.replies = s.host.replies ∧ (ownOutputs n s).host.mask = s.host.mask ∧
    (ownOutputs n s).host.lostRecords = s.host.lostRecords ∧ (ownOutputs n s).host.tx = s.host.tx ∧
    (ownOutputs n s).host.restart = s.host.restart := by
  unfold ownOutputs
  (repeat' split) <;> simp

@[simp] theorem acceptPosition_line (n : BreakerPos) (s : State) :
    (acceptPosition n s).host.lineRate = s.host.lineRate ∧ (acceptPosition n s).host.parser = s.host.parser ∧
    (acceptPosition n s).host.arrived = s.host.arrived ∧ (acceptPosition n s).host.commands = s.host.commands ∧
    (acceptPosition n s).host.replies = s.host.replies ∧ (acceptPosition n s).host.mask = s.host.mask ∧
    (acceptPosition n s).host.lostRecords = s.host.lostRecords ∧ (acceptPosition n s).host.tx = s.host.tx ∧
    (acceptPosition n s).host.restart = s.host.restart := by
  unfold acceptPosition
  (repeat' split) <;> simp

@[simp] theorem scanPosition_line (a b : Bool) (s : State) :
    (scanPosition a b s).host.lineRate = s.host.lineRate ∧ (scanPosition a b s).host.parser = s.host.parser ∧
    (scanPosition a b s).host.arrived = s.host.arrived ∧ (scanPosition a b s).host.commands = s.host.commands ∧
    (scanPosition a b s).host.replies = s.host.replies ∧ (scanPosition a b s).host.mask = s.host.mask ∧
    (scanPosition a b s).host.lostRecords = s.host.lostRecords ∧ (scanPosition a b s).host.tx = s.host.tx ∧
    (scanPosition a b s).host.restart = s.host.restart := by
  unfold scanPosition
  (repeat' split) <;> simp

@[simp] theorem scanReady_line (b : Bool) (s : State) :
    (scanReady b s).host.lineRate = s.host.lineRate ∧ (scanReady b s).host.parser = s.host.parser ∧
    (scanReady b s).host.arrived = s.host.arrived ∧ (scanReady b s).host.commands = s.host.commands ∧
    (scanReady b s).host.replies = s.host.replies ∧ (scanReady b s).host.mask = s.host.mask ∧
    (scanReady b s).host.lostRecords = s.host.lostRecords ∧ (scanReady b s).host.tx = s.host.tx ∧
    (scanReady b s).host.restart = s.host.restart := by
  unfold scanReady
  (repeat' split) <;> simp

@[simp] theorem tripTimeout_line  (s : State) :
    (tripTimeout s).host.lineRate = s.host.lineRate ∧ (tripTimeout s).host.parser = s.host.parser ∧
    (tripTimeout s).host.arrived = s.host.arrived ∧ (tripTimeout s).host.commands = s.host.commands ∧
    (tripTimeout s).host.replies = s.host.replies ∧ (tripTimeout s).host.mask = s.host.mask ∧
    (tripTimeout s).host.lostRecords = s.host.lostRecords ∧ (tripTimeout s).host.tx = s.host.tx ∧
    (tripTimeout s).host.restart = s.host.restart := by
  unfold tripTimeout
  (repeat' split) <;> simp

@[simp] theorem judgeFireStale_line  (s : State) :
    (judgeFireStale s).host.lineRate = s.host.lineRate ∧ (judgeFireStale s).host.parser = s.host.parser ∧
    (judgeFireStale s).host.arrived = s.host.arrived ∧ (judgeFireStale s).host.commands = s.host.commands ∧
    (judgeFireStale s).host.replies = s.host.replies ∧ (judgeFireStale s).host.mask = s.host.mask ∧
    (judgeFireStale s).host.lostRecords = s.host.lostRecords ∧ (judgeFireStale s).host.tx = s.host.tx ∧
    (judgeFireStale s).host.restart = s.host.restart := by
  simp [judgeFireStale]

@[simp] theorem judgeFireRegime_line  (s : State) :
    (judgeFireRegime s).host.lineRate = s.host.lineRate ∧ (judgeFireRegime s).host.parser = s.host.parser ∧
    (judgeFireRegime s).host.arrived = s.host.arrived ∧ (judgeFireRegime s).host.commands = s.host.commands ∧
    (judgeFireRegime s).host.replies = s.host.replies ∧ (judgeFireRegime s).host.mask = s.host.mask ∧
    (judgeFireRegime s).host.lostRecords = s.host.lostRecords ∧ (judgeFireRegime s).host.tx = s.host.tx ∧
    (judgeFireRegime s).host.restart = s.host.restart := by
  simp [judgeFireRegime]

@[simp] theorem cancelOverride_line  (s : State) :
    (cancelOverride s).host.lineRate = s.host.lineRate ∧ (cancelOverride s).host.parser = s.host.parser ∧
    (cancelOverride s).host.arrived = s.host.arrived ∧ (cancelOverride s).host.commands = s.host.commands ∧
    (cancelOverride s).host.replies = s.host.replies ∧ (cancelOverride s).host.mask = s.host.mask ∧
    (cancelOverride s).host.lostRecords = s.host.lostRecords ∧ (cancelOverride s).host.tx = s.host.tx ∧
    (cancelOverride s).host.restart = s.host.restart := by
  unfold cancelOverride
  repeat' ((try dsimp only); split)
  all_goals simp

@[simp] theorem takeIntoForce_line (g : Nat) (s : State) :
    (takeIntoForce g s).host.lineRate = s.host.lineRate ∧ (takeIntoForce g s).host.parser = s.host.parser ∧
    (takeIntoForce g s).host.arrived = s.host.arrived ∧ (takeIntoForce g s).host.commands = s.host.commands ∧
    (takeIntoForce g s).host.replies = s.host.replies ∧ (takeIntoForce g s).host.mask = s.host.mask ∧
    (takeIntoForce g s).host.lostRecords = s.host.lostRecords ∧ (takeIntoForce g s).host.tx = s.host.tx ∧
    (takeIntoForce g s).host.restart = s.host.restart := by
  unfold takeIntoForce
  (repeat' split) <;> simp

@[simp] theorem regimeStages_line  (s : State) :
    (regimeStages s).host.lineRate = s.host.lineRate ∧ (regimeStages s).host.parser = s.host.parser ∧
    (regimeStages s).host.arrived = s.host.arrived ∧ (regimeStages s).host.commands = s.host.commands ∧
    (regimeStages s).host.replies = s.host.replies ∧ (regimeStages s).host.mask = s.host.mask ∧
    (regimeStages s).host.lostRecords = s.host.lostRecords ∧ (regimeStages s).host.tx = s.host.tx ∧
    (regimeStages s).host.restart = s.host.restart := by
  simp [regimeStages]

@[simp] theorem groupWork_line  (s : State) :
    (groupWork s).host.lineRate = s.host.lineRate ∧ (groupWork s).host.parser = s.host.parser ∧
    (groupWork s).host.arrived = s.host.arrived ∧ (groupWork s).host.commands = s.host.commands ∧
    (groupWork s).host.replies = s.host.replies ∧ (groupWork s).host.mask = s.host.mask ∧
    (groupWork s).host.lostRecords = s.host.lostRecords ∧ (groupWork s).host.tx = s.host.tx ∧
    (groupWork s).host.restart = s.host.restart := by
  unfold groupWork
  repeat' ((try dsimp only); split)
  all_goals simp

@[simp] theorem handTrip_line (t : Trip) (s : State) :
    (handTrip t s).host.lineRate = s.host.lineRate ∧ (handTrip t s).host.parser = s.host.parser ∧
    (handTrip t s).host.arrived = s.host.arrived ∧ (handTrip t s).host.commands = s.host.commands ∧
    (handTrip t s).host.replies = s.host.replies ∧ (handTrip t s).host.mask = s.host.mask ∧
    (handTrip t s).host.lostRecords = s.host.lostRecords ∧ (handTrip t s).host.tx = s.host.tx ∧
    (handTrip t s).host.restart = s.host.restart := by
  simp [handTrip]

@[simp] theorem issueTrip_line (t : Trip) (s : State) :
    (issueTrip t s).host.lineRate = s.host.lineRate ∧ (issueTrip t s).host.parser = s.host.parser ∧
    (issueTrip t s).host.arrived = s.host.arrived ∧ (issueTrip t s).host.commands = s.host.commands ∧
    (issueTrip t s).host.replies = s.host.replies ∧ (issueTrip t s).host.mask = s.host.mask ∧
    (issueTrip t s).host.lostRecords = s.host.lostRecords ∧ (issueTrip t s).host.tx = s.host.tx ∧
    (issueTrip t s).host.restart = s.host.restart := by
  simp [issueTrip]

@[simp] theorem sefStage_line  (s : State) :
    (sefStage s).host.lineRate = s.host.lineRate ∧ (sefStage s).host.parser = s.host.parser ∧
    (sefStage s).host.arrived = s.host.arrived ∧ (sefStage s).host.commands = s.host.commands ∧
    (sefStage s).host.replies = s.host.replies ∧ (sefStage s).host.mask = s.host.mask ∧
    (sefStage s).host.lostRecords = s.host.lostRecords ∧ (sefStage s).host.tx = s.host.tx ∧
    (sefStage s).host.restart = s.host.restart := by
  unfold sefStage
  repeat' ((try dsimp only); split)
  all_goals simp

@[simp] theorem protPoint_line (q : Multiples) (b : Bool) (s : State) :
    (protPoint q b s).host.lineRate = s.host.lineRate ∧ (protPoint q b s).host.parser = s.host.parser ∧
    (protPoint q b s).host.arrived = s.host.arrived ∧ (protPoint q b s).host.commands = s.host.commands ∧
    (protPoint q b s).host.replies = s.host.replies ∧ (protPoint q b s).host.mask = s.host.mask ∧
    (protPoint q b s).host.lostRecords = s.host.lostRecords ∧ (protPoint q b s).host.tx = s.host.tx ∧
    (protPoint q b s).host.restart = s.host.restart := by
  unfold protPoint
  repeat' ((try dsimp only); split)
  all_goals simp

@[simp] theorem protLoss_line  (s : State) :
    (protLoss s).host.lineRate = s.host.lineRate ∧ (protLoss s).host.parser = s.host.parser ∧
    (protLoss s).host.arrived = s.host.arrived ∧ (protLoss s).host.commands = s.host.commands ∧
    (protLoss s).host.replies = s.host.replies ∧ (protLoss s).host.mask = s.host.mask ∧
    (protLoss s).host.lostRecords = s.host.lostRecords ∧ (protLoss s).host.tx = s.host.tx ∧
    (protLoss s).host.restart = s.host.restart := by
  simp [protLoss]

@[simp] theorem handPoint_line  (s : State) :
    (handPoint s).host.lineRate = s.host.lineRate ∧ (handPoint s).host.parser = s.host.parser ∧
    (handPoint s).host.arrived = s.host.arrived ∧ (handPoint s).host.commands = s.host.commands ∧
    (handPoint s).host.replies = s.host.replies ∧ (handPoint s).host.mask = s.host.mask ∧
    (handPoint s).host.lostRecords = s.host.lostRecords ∧ (handPoint s).host.tx = s.host.tx ∧
    (handPoint s).host.restart = s.host.restart := by
  simp [handPoint]

@[simp] theorem evaluationPoint_line  (s : State) :
    (evaluationPoint s).host.lineRate = s.host.lineRate ∧ (evaluationPoint s).host.parser = s.host.parser ∧
    (evaluationPoint s).host.arrived = s.host.arrived ∧ (evaluationPoint s).host.commands = s.host.commands ∧
    (evaluationPoint s).host.replies = s.host.replies ∧ (evaluationPoint s).host.mask = s.host.mask ∧
    (evaluationPoint s).host.lostRecords = s.host.lostRecords ∧ (evaluationPoint s).host.tx = s.host.tx ∧
    (evaluationPoint s).host.restart = s.host.restart := by
  simp [evaluationPoint]

@[simp] theorem acceptSet_line (x : SampleSet) (s : State) :
    (acceptSet x s).host.lineRate = s.host.lineRate ∧ (acceptSet x s).host.parser = s.host.parser ∧
    (acceptSet x s).host.arrived = s.host.arrived ∧ (acceptSet x s).host.commands = s.host.commands ∧
    (acceptSet x s).host.replies = s.host.replies ∧ (acceptSet x s).host.mask = s.host.mask ∧
    (acceptSet x s).host.lostRecords = s.host.lostRecords ∧ (acceptSet x s).host.tx = s.host.tx ∧
    (acceptSet x s).host.restart = s.host.restart := by
  unfold acceptSet
  repeat' ((try dsimp only); split)
  all_goals simp

@[simp] theorem judgeSilent_line  (s : State) :
    (judgeSilent s).host.lineRate = s.host.lineRate ∧ (judgeSilent s).host.parser = s.host.parser ∧
    (judgeSilent s).host.arrived = s.host.arrived ∧ (judgeSilent s).host.commands = s.host.commands ∧
    (judgeSilent s).host.replies = s.host.replies ∧ (judgeSilent s).host.mask = s.host.mask ∧
    (judgeSilent s).host.lostRecords = s.host.lostRecords ∧ (judgeSilent s).host.tx = s.host.tx ∧
    (judgeSilent s).host.restart = s.host.restart := by
  simp [judgeSilent]

@[simp] theorem changeStation_line (o n : Station) (q : Option QueryResult) (s : State) :
    (changeStation o n q s).host.lineRate = s.host.lineRate ∧
    (changeStation o n q s).host.parser = s.host.parser ∧
    (changeStation o n q s).host.arrived = s.host.arrived ∧
    (changeStation o n q s).host.commands = s.host.commands ∧
    (changeStation o n q s).host.replies = s.host.replies ∧ (changeStation o n q s).host.mask = s.host.mask ∧
    (changeStation o n q s).host.lostRecords = s.host.lostRecords ∧
    (changeStation o n q s).host.tx = s.host.tx ∧ (changeStation o n q s).host.restart = s.host.restart := by
  unfold changeStation
  (repeat' split) <;> simp

@[simp] theorem missedAnswer_line (st : Station) (s : State) :
    (missedAnswer st s).host.lineRate = s.host.lineRate ∧ (missedAnswer st s).host.parser = s.host.parser ∧
    (missedAnswer st s).host.arrived = s.host.arrived ∧ (missedAnswer st s).host.commands = s.host.commands ∧
    (missedAnswer st s).host.replies = s.host.replies ∧ (missedAnswer st s).host.mask = s.host.mask ∧
    (missedAnswer st s).host.lostRecords = s.host.lostRecords ∧ (missedAnswer st s).host.tx = s.host.tx ∧
    (missedAnswer st s).host.restart = s.host.restart := by
  simp [missedAnswer]

@[simp] theorem queryOutcome_line (o : DownOutcome) (a : Nat) (s : State) :
    (queryOutcome o a s).host.lineRate = s.host.lineRate ∧ (queryOutcome o a s).host.parser = s.host.parser ∧
    (queryOutcome o a s).host.arrived = s.host.arrived ∧ (queryOutcome o a s).host.commands = s.host.commands ∧
    (queryOutcome o a s).host.replies = s.host.replies ∧ (queryOutcome o a s).host.mask = s.host.mask ∧
    (queryOutcome o a s).host.lostRecords = s.host.lostRecords ∧ (queryOutcome o a s).host.tx = s.host.tx ∧
    (queryOutcome o a s).host.restart = s.host.restart := by
  unfold queryOutcome
  (repeat' split) <;> simp

@[simp] theorem handOutcome_line (m : DownMessage) (o : DownOutcome) (s : State) :
    (handOutcome m o s).host.lineRate = s.host.lineRate ∧ (handOutcome m o s).host.parser = s.host.parser ∧
    (handOutcome m o s).host.arrived = s.host.arrived ∧ (handOutcome m o s).host.commands = s.host.commands ∧
    (handOutcome m o s).host.replies = s.host.replies ∧ (handOutcome m o s).host.mask = s.host.mask ∧
    (handOutcome m o s).host.lostRecords = s.host.lostRecords ∧ (handOutcome m o s).host.tx = s.host.tx ∧
    (handOutcome m o s).host.restart = s.host.restart := by
  unfold handOutcome
  (repeat' split) <;> simp

@[simp] theorem endMessage_line  (s : State) :
    (endMessage s).host.lineRate = s.host.lineRate ∧ (endMessage s).host.parser = s.host.parser ∧
    (endMessage s).host.arrived = s.host.arrived ∧ (endMessage s).host.commands = s.host.commands ∧
    (endMessage s).host.replies = s.host.replies ∧ (endMessage s).host.mask = s.host.mask ∧
    (endMessage s).host.lostRecords = s.host.lostRecords ∧ (endMessage s).host.tx = s.host.tx ∧
    (endMessage s).host.restart = s.host.restart := by
  unfold endMessage
  (repeat' split) <;> simp

@[simp] theorem deliverTo_line (a : Nat) (f : Station → Station) (q : Station → Option QueryResult) (s : State) :
    (deliverTo a f q s).host.lineRate = s.host.lineRate ∧ (deliverTo a f q s).host.parser = s.host.parser ∧
    (deliverTo a f q s).host.arrived = s.host.arrived ∧ (deliverTo a f q s).host.commands = s.host.commands ∧
    (deliverTo a f q s).host.replies = s.host.replies ∧ (deliverTo a f q s).host.mask = s.host.mask ∧
    (deliverTo a f q s).host.lostRecords = s.host.lostRecords ∧ (deliverTo a f q s).host.tx = s.host.tx ∧
    (deliverTo a f q s).host.restart = s.host.restart := by
  unfold deliverTo
  (repeat' split) <;> simp

@[simp] theorem rebuildStations_line (l : List StationEntry) (s : State) :
    (rebuildStations l s).host.lineRate = s.host.lineRate ∧ (rebuildStations l s).host.parser = s.host.parser ∧
    (rebuildStations l s).host.arrived = s.host.arrived ∧
    (rebuildStations l s).host.commands = s.host.commands ∧
    (rebuildStations l s).host.replies = s.host.replies ∧ (rebuildStations l s).host.mask = s.host.mask ∧
    (rebuildStations l s).host.lostRecords = s.host.lostRecords ∧ (rebuildStations l s).host.tx = s.host.tx ∧
    (rebuildStations l s).host.restart = s.host.restart := by
  simp [rebuildStations]

@[simp] theorem dropMark_line (st : Station) (s : State) :
    (dropMark s st).host.lineRate = s.host.lineRate ∧ (dropMark s st).host.parser = s.host.parser ∧
    (dropMark s st).host.arrived = s.host.arrived ∧ (dropMark s st).host.commands = s.host.commands ∧
    (dropMark s st).host.replies = s.host.replies ∧ (dropMark s st).host.mask = s.host.mask ∧
    (dropMark s st).host.lostRecords = s.host.lostRecords ∧ (dropMark s st).host.tx = s.host.tx ∧
    (dropMark s st).host.restart = s.host.restart := by
  unfold dropMark
  (repeat' split) <;> simp

@[simp] theorem foldl_dropMark_line (l : List Station) (s : State) :
    (l.foldl dropMark s).host.lineRate = s.host.lineRate ∧ (l.foldl dropMark s).host.parser = s.host.parser ∧
    (l.foldl dropMark s).host.arrived = s.host.arrived ∧ (l.foldl dropMark s).host.commands = s.host.commands ∧
    (l.foldl dropMark s).host.replies = s.host.replies ∧ (l.foldl dropMark s).host.mask = s.host.mask ∧
    (l.foldl dropMark s).host.lostRecords = s.host.lostRecords ∧ (l.foldl dropMark s).host.tx = s.host.tx ∧
    (l.foldl dropMark s).host.restart = s.host.restart := by
  induction l generalizing s with
  | nil => simp
  | cons n l ih => simp [ih]

@[simp] theorem stationsInvalid_line  (s : State) :
    (stationsInvalid s).host.lineRate = s.host.lineRate ∧ (stationsInvalid s).host.parser = s.host.parser ∧
    (stationsInvalid s).host.arrived = s.host.arrived ∧ (stationsInvalid s).host.commands = s.host.commands ∧
    (stationsInvalid s).host.replies = s.host.replies ∧ (stationsInvalid s).host.mask = s.host.mask ∧
    (stationsInvalid s).host.lostRecords = s.host.lostRecords ∧ (stationsInvalid s).host.tx = s.host.tx ∧
    (stationsInvalid s).host.restart = s.host.restart := by
  simp [stationsInvalid]

@[simp] theorem judgeIntegrity_line  (s : State) :
    (judgeIntegrity s).host.lineRate = s.host.lineRate ∧ (judgeIntegrity s).host.parser = s.host.parser ∧
    (judgeIntegrity s).host.arrived = s.host.arrived ∧ (judgeIntegrity s).host.commands = s.host.commands ∧
    (judgeIntegrity s).host.replies = s.host.replies ∧ (judgeIntegrity s).host.mask = s.host.mask ∧
    (judgeIntegrity s).host.lostRecords = s.host.lostRecords ∧ (judgeIntegrity s).host.tx = s.host.tx ∧
    (judgeIntegrity s).host.restart = s.host.restart := by
  simp [judgeIntegrity]

@[simp] theorem reportImage_line (r : ImageReport) (s : State) :
    (reportImage r s).host.lineRate = s.host.lineRate ∧ (reportImage r s).host.parser = s.host.parser ∧
    (reportImage r s).host.arrived = s.host.arrived ∧ (reportImage r s).host.commands = s.host.commands ∧
    (reportImage r s).host.replies = s.host.replies ∧ (reportImage r s).host.mask = s.host.mask ∧
    (reportImage r s).host.lostRecords = s.host.lostRecords ∧ (reportImage r s).host.tx = s.host.tx ∧
    (reportImage r s).host.restart = s.host.restart := by
  simp [reportImage]

@[simp] theorem plantChanged_line  (s : State) :
    (plantChanged s).host.lineRate = s.host.lineRate ∧ (plantChanged s).host.parser = s.host.parser ∧
    (plantChanged s).host.arrived = s.host.arrived ∧ (plantChanged s).host.commands = s.host.commands ∧
    (plantChanged s).host.replies = s.host.replies ∧ (plantChanged s).host.mask = s.host.mask ∧
    (plantChanged s).host.lostRecords = s.host.lostRecords ∧ (plantChanged s).host.tx = s.host.tx ∧
    (plantChanged s).host.restart = s.host.restart := by
  simp [plantChanged]

@[simp] theorem cancelAtLoad_line (g : Nat) (s : State) :
    (cancelAtLoad g s).host.lineRate = s.host.lineRate ∧ (cancelAtLoad g s).host.parser = s.host.parser ∧
    (cancelAtLoad g s).host.arrived = s.host.arrived ∧ (cancelAtLoad g s).host.commands = s.host.commands ∧
    (cancelAtLoad g s).host.replies = s.host.replies ∧ (cancelAtLoad g s).host.mask = s.host.mask ∧
    (cancelAtLoad g s).host.lostRecords = s.host.lostRecords ∧ (cancelAtLoad g s).host.tx = s.host.tx ∧
    (cancelAtLoad g s).host.restart = s.host.restart := by
  unfold cancelAtLoad
  (repeat' split) <;> simp

@[simp] theorem usersAccept_line (i : ImageId) (s : State) :
    (usersAccept i s).host.lineRate = s.host.lineRate ∧ (usersAccept i s).host.parser = s.host.parser ∧
    (usersAccept i s).host.arrived = s.host.arrived ∧ (usersAccept i s).host.commands = s.host.commands ∧
    (usersAccept i s).host.replies = s.host.replies ∧ (usersAccept i s).host.mask = s.host.mask ∧
    (usersAccept i s).host.lostRecords = s.host.lostRecords ∧ (usersAccept i s).host.tx = s.host.tx ∧
    (usersAccept i s).host.restart = s.host.restart := by
  unfold usersAccept
  (repeat' split) <;> simp

@[simp] theorem usersInvalid_line (i : ImageId) (s : State) :
    (usersInvalid i s).host.lineRate = s.host.lineRate ∧ (usersInvalid i s).host.parser = s.host.parser ∧
    (usersInvalid i s).host.arrived = s.host.arrived ∧ (usersInvalid i s).host.commands = s.host.commands ∧
    (usersInvalid i s).host.replies = s.host.replies ∧ (usersInvalid i s).host.mask = s.host.mask ∧
    (usersInvalid i s).host.lostRecords = s.host.lostRecords ∧ (usersInvalid i s).host.tx = s.host.tx ∧
    (usersInvalid i s).host.restart = s.host.restart := by
  unfold usersInvalid
  (repeat' split) <;> simp

@[simp] theorem checkImage_line (i : ImageId) (s : State) :
    (checkImage s i).host.lineRate = s.host.lineRate ∧ (checkImage s i).host.parser = s.host.parser ∧
    (checkImage s i).host.arrived = s.host.arrived ∧ (checkImage s i).host.commands = s.host.commands ∧
    (checkImage s i).host.replies = s.host.replies ∧ (checkImage s i).host.mask = s.host.mask ∧
    (checkImage s i).host.lostRecords = s.host.lostRecords ∧ (checkImage s i).host.tx = s.host.tx ∧
    (checkImage s i).host.restart = s.host.restart := by
  unfold checkImage
  repeat' ((try dsimp only); split)
  all_goals simp

@[simp] theorem endCheck_line  (s : State) :
    (endCheck s).host.lineRate = s.host.lineRate ∧ (endCheck s).host.parser = s.host.parser ∧
    (endCheck s).host.arrived = s.host.arrived ∧ (endCheck s).host.commands = s.host.commands ∧
    (endCheck s).host.replies = s.host.replies ∧ (endCheck s).host.mask = s.host.mask ∧
    (endCheck s).host.lostRecords = s.host.lostRecords ∧ (endCheck s).host.tx = s.host.tx ∧
    (endCheck s).host.restart = s.host.restart := by
  unfold endCheck
  (repeat' split) <;> simp

@[simp] theorem foldl_checkImage_line (l : List ImageId) (s : State) :
    (l.foldl checkImage s).host.lineRate = s.host.lineRate ∧
    (l.foldl checkImage s).host.parser = s.host.parser ∧ (l.foldl checkImage s).host.arrived = s.host.arrived ∧
    (l.foldl checkImage s).host.commands = s.host.commands ∧
    (l.foldl checkImage s).host.replies = s.host.replies ∧ (l.foldl checkImage s).host.mask = s.host.mask ∧
    (l.foldl checkImage s).host.lostRecords = s.host.lostRecords ∧ (l.foldl checkImage s).host.tx = s.host.tx ∧
    (l.foldl checkImage s).host.restart = s.host.restart := by
  induction l generalizing s with
  | nil => simp
  | cons n l ih => simp [ih]

@[simp] theorem fullPass_line  (s : State) :
    (fullPass s).host.lineRate = s.host.lineRate ∧ (fullPass s).host.parser = s.host.parser ∧
    (fullPass s).host.arrived = s.host.arrived ∧ (fullPass s).host.commands = s.host.commands ∧
    (fullPass s).host.replies = s.host.replies ∧ (fullPass s).host.mask = s.host.mask ∧
    (fullPass s).host.lostRecords = s.host.lostRecords ∧ (fullPass s).host.tx = s.host.tx ∧
    (fullPass s).host.restart = s.host.restart := by
  simp [fullPass]

@[simp] theorem acceptImage_line (i : ImageId) (c : List Byte) (w : Word16) (s : State) :
    (acceptImage i c w s).host.lineRate = s.host.lineRate ∧ (acceptImage i c w s).host.parser = s.host.parser ∧
    (acceptImage i c w s).host.arrived = s.host.arrived ∧
    (acceptImage i c w s).host.commands = s.host.commands ∧
    (acceptImage i c w s).host.replies = s.host.replies ∧ (acceptImage i c w s).host.mask = s.host.mask ∧
    (acceptImage i c w s).host.lostRecords = s.host.lostRecords ∧ (acceptImage i c w s).host.tx = s.host.tx ∧
    (acceptImage i c w s).host.restart = s.host.restart := by
  simp [acceptImage]

end Sys2Proof.Machine
end

