-- ==== Sys2Proof/Laws/Conditions.lean ====
section
/-! SUPPORT. What the condition monitor's operations make of the records: an owner's report sets one record and derives the
rest, and the hunt controller's abort reaches HUNT_ACTIVE alone. -/

namespace Sys2Proof.Machine

/-! ## Tables -/

@[simp] theorem CondTable.get_set {α : Type} (t : CondTable α) (c d : Cond) (v : α) :
    (t.set c v).get d = if d = c then v else t.get d := by
  cases c <;> cases d <;> rfl

@[simp] theorem CondTable.get_build {α : Type} (f : Cond → α) (d : Cond) : (CondTable.build f).get d = f d := by
  cases d <;> rfl

@[simp] theorem ImageTable.get_set {α : Type} (t : ImageTable α) (i j : ImageId) (v : α) :
    (t.set i v).get j = if j = i then v else t.get j := by
  cases i <;> cases j <;> rfl

theorem Cond.mem_all (c : Cond) : c ∈ Cond.all := by cases c <;> decide

@[simp] theorem CondRec.setActive_active (r : CondRec) (a : Bool) : (r.setActive a).active = a := rfl
@[simp] theorem CondRec.setActive_mode (r : CondRec) (a : Bool) : (r.setActive a).mode = r.mode := rfl
@[simp] theorem CondRec.setActive_actions (r : CondRec) (a : Bool) : (r.setActive a).actions = r.actions := rfl

/-! ## The monitor's own operations -/

/-- The hand-on of a changed block set leaves the monitor as it is. -/
theorem adoptRecords_mon (t : CondTable CondRec) (s : State) : (adoptRecords t s).mon = monitorOf t := by
  unfold adoptRecords
  split <;> simp

/-- An owner's report leaves the records alone, or sets its own and derives the rest (R102, R106). -/
theorem ownerReport_mon (c : Cond) (a : Bool) (s : State) :
    (ownerReport c a s).mon =
      if (s.mon.recs.get c).active = a then s.mon
      else monitorOf (s.mon.recs.set c ((s.mon.recs.get c).setActive a)) := by
  unfold ownerReport
  split
  · rfl
  · simp [reportCondition, adoptRecords_mon]

/-- After an owner's report its condition is as reported (R102). -/
@[simp] theorem ownerReport_active (c : Cond) (a : Bool) (s : State) :
    ((ownerReport c a s).mon.recs.get c).active = a := by
  rw [ownerReport_mon]
  split <;> simp_all [monitorOf]

/-- An owner's report leaves every other condition alone (R102). -/
theorem ownerReport_other {c d : Cond} (h : d ≠ c) (a : Bool) (s : State) :
    (ownerReport c a s).mon.recs.get d = s.mon.recs.get d := by
  rw [ownerReport_mon]
  split <;> simp [monitorOf, h]

/-- An owner's report keeps the derived state that of the records (R106, R108, R109). -/
theorem ownerReport_consistent {s : State} (h : MonitorConsistent s) (c : Cond) (a : Bool) :
    MonitorConsistent (ownerReport c a s) := by
  unfold MonitorConsistent at *
  rw [ownerReport_mon]
  split
  · exact h
  · rfl

/-! ## The hunt controller's reach -/

/-- An abort leaves every condition but HUNT_ACTIVE alone (R140, R150). -/
theorem huntAbort_other {d : Cond} (h : d ≠ .huntActive) (k : AbortCause) (s : State) :
    (huntAbort k s).mon.recs.get d = s.mon.recs.get d := by
  unfold huntAbort
  dsimp only
  split <;> simp [endHunt, finishHunt, ownerReport_other h]

/-- The hand-on of the hunt bar leaves every condition but HUNT_ACTIVE alone. -/
theorem huntBarArrival_other {d : Cond} (h : d ≠ .huntActive) (b s : State) :
    (huntBarArrival b s).mon.recs.get d = s.mon.recs.get d := by
  unfold huntBarArrival
  split <;> simp [huntAbort_other h]

/-- After an owner's report, hand-on included, its condition is as reported (R102, R108). -/
theorem setCondition_active {c : Cond} (h : c ≠ .huntActive) (a : Bool) (s : State) :
    ((setCondition c a s).mon.recs.get c).active = a := by
  simp [setCondition, huntBarArrival_other h]

/-- An owner's report, hand-on included, leaves every condition but its own and HUNT_ACTIVE alone (R102, R108). -/
theorem setCondition_other {c d : Cond} (h : d ≠ c) (h' : d ≠ .huntActive) (a : Bool) (s : State) :
    (setCondition c a s).mon.recs.get d = s.mon.recs.get d := by
  simp [setCondition, huntBarArrival_other h', ownerReport_other h]

/-- A report of the state already held changes nothing (R102). -/
theorem setCondition_same {c : Cond} {a : Bool} {s : State} (h : (s.mon.recs.get c).active = a) :
    setCondition c a s = s := by
  simp [setCondition, ownerReport, h, huntBarArrival]

/-- An abort keeps the derived state that of the records. -/
theorem huntAbort_consistent {s : State} (h : MonitorConsistent s) (k : AbortCause) :
    MonitorConsistent (huntAbort k s) := by
  unfold huntAbort
  dsimp only
  split <;>
    first
    | exact h
    | (unfold endHunt; unfold finishHunt; exact ownerReport_consistent (by simpa [MonitorConsistent] using h) _ _)
    | (unfold finishHunt; exact ownerReport_consistent (by simpa [MonitorConsistent] using h) _ _)

/-- An owner's report, hand-on included, keeps the derived state that of the records. -/
theorem setCondition_consistent {s : State} (h : MonitorConsistent s) (c : Cond) (a : Bool) :
    MonitorConsistent (setCondition c a s) := by
  unfold setCondition
  unfold huntBarArrival
  split
  · exact huntAbort_consistent (ownerReport_consistent h c a) _
  · exact ownerReport_consistent h c a

end Sys2Proof.Machine
end

