-- ==== Sys2Proof/Laws/HostLine.lean ====
section
/-! SUPPORT. What the execution of a command by its row is: the owner's answer on the state without the command, and the
reply in the command's place (R170). -/

namespace Sys2Proof.Machine

/-- The state whose command queue is `rest`: what an owner sees of the record interface. -/
def withCommands (rest : List Command) (s : State) : State := s.setHost { s.host with commands := rest }

@[simp] theorem withCommands_frame (rest : List Command) (s : State) :
    (withCommands rest s).time = s.time ∧ (withCommands rest s).due = s.due ∧ (withCommands rest s).port = s.port ∧
    (withCommands rest s).meas = s.meas ∧ (withCommands rest s).prot = s.prot ∧
    (withCommands rest s).store = s.store ∧ (withCommands rest s).regime = s.regime ∧
    (withCommands rest s).brk = s.brk ∧ (withCommands rest s).seq = s.seq ∧ (withCommands rest s).mon = s.mon ∧
    (withCommands rest s).pilot = s.pilot ∧ (withCommands rest s).hunt = s.hunt ∧ (withCommands rest s).adm = s.adm ∧
    (withCommands rest s).resetLow = s.resetLow ∧ (withCommands rest s).freeIx = s.freeIx ∧
    (withCommands rest s).pending = s.pending ∧
    (withCommands rest s).plant = s.plant ∧ (withCommands rest s).settings = s.settings := by
  simp [withCommands, State.plant, State.settings]

@[simp] theorem withCommands_host (rest : List Command) (s : State) :
    (withCommands rest s).host.commands = rest ∧ (withCommands rest s).host.replies = s.host.replies ∧
    (withCommands rest s).host.reports = s.host.reports ∧ (withCommands rest s).host.mask = s.host.mask ∧
    (withCommands rest s).host.tx = s.host.tx ∧ (withCommands rest s).host.restart = s.host.restart ∧
    (withCommands rest s).host.parser = s.host.parser ∧ (withCommands rest s).host.lineRate = s.host.lineRate ∧
    (withCommands rest s).host.arrived = s.host.arrived ∧ (withCommands rest s).host.overrun = s.host.overrun ∧
    (withCommands rest s).host.lostRecords = s.host.lostRecords := by
  simp [withCommands]

@[simp] theorem fillReply_frame (r : Reply) (m : Option RestartKind) (s : State) :
    (fillReply r m s).time = s.time ∧ (fillReply r m s).due = s.due ∧ (fillReply r m s).port = s.port ∧
    (fillReply r m s).meas = s.meas ∧ (fillReply r m s).prot = s.prot ∧ (fillReply r m s).store = s.store ∧
    (fillReply r m s).regime = s.regime ∧ (fillReply r m s).brk = s.brk ∧ (fillReply r m s).seq = s.seq ∧
    (fillReply r m s).mon = s.mon ∧ (fillReply r m s).pilot = s.pilot ∧ (fillReply r m s).hunt = s.hunt ∧
    (fillReply r m s).adm = s.adm ∧ (fillReply r m s).resetLow = s.resetLow ∧ (fillReply r m s).freeIx = s.freeIx ∧
    (fillReply r m s).pending = s.pending := by
  simp [fillReply]

@[simp] theorem fillReply_host (r : Reply) (m : Option RestartKind) (s : State) :
    (fillReply r m s).host.commands = s.host.commands ∧
    (fillReply r m s).host.replies = fillFirst r m s.host.replies ∧
    (fillReply r m s).host.reports = s.host.reports ∧ (fillReply r m s).host.mask = s.host.mask ∧
    (fillReply r m s).host.tx = s.host.tx ∧ (fillReply r m s).host.restart = s.host.restart := by
  simp [fillReply]

/-- A reply on the state without the command, nothing else changed. -/
theorem fillReply_withCommands (r : Reply) (m : Option RestartKind) (rest : List Command) (s : State) :
    fillReply r m (withCommands rest s) = { s with host := s.host.afterReply r m rest } := rfl

/-- The head command of a row is executed by its owner, whose reply takes the command's place (R170). -/
theorem runCommand_head {k : CommandKind} {c : Command} {rest : List Command} {s : State}
    (own : List Byte → State → Reply × State) (h : HeadIs k c rest s)
    (hl : payloadLengthOk k c.payload.length = true) :
    runCommand k own s =
      fillReply (own c.payload (withCommands rest s)).1 none (own c.payload (withCommands rest s)).2 := by
  obtain ⟨h1, h2, h3⟩ := h
  have hp : popCommand s = withCommands rest s := by simp [popCommand, withCommands, h1]
  simp [runCommand, headCommand, h1, h2, h3, execute, hl, hp]

/-- A head command of the wrong length is refused before its owner sees it (R170). -/
theorem runCommand_wrong_length {k : CommandKind} {c : Command} {rest : List Command} {s : State}
    (own : List Byte → State → Reply × State) (h : HeadIs k c rest s)
    (hl : payloadLengthOk k c.payload.length = false) :
    runCommand k own s = { s with host := s.host.afterReply (badArgument 0) none rest } := by
  obtain ⟨h1, h2, h3⟩ := h
  have hp : popCommand s = withCommands rest s := by simp [popCommand, withCommands, h1]
  simp [runCommand, headCommand, h1, h2, h3, execute, hl, hp, fillReply_withCommands]

/-- A row whose command does not stand at the head of the queue does nothing (R170). -/
theorem runCommand_not_head {k : CommandKind} {s : State} (own : List Byte → State → Reply × State)
    (h : headCommand k s = none) : runCommand k own s = s := by
  simp [runCommand, h]

end Sys2Proof.Machine
end

