-- ==== Sys2Proof/Laws/PilotKept.lean ====
section
/-! SUPPORT. What the operations of the hunt controller and of the admission unit leave of the pilot bus controller when
they reach it: all but the down queue. -/

namespace Sys2Proof.Machine

theorem joinQueue_pilot {m : DownMessage} {s t : State} (h : joinQueue m s = some t) :
    t.pilot.down = s.pilot.down ∧ t.pilot.up = s.pilot.up ∧ t.pilot.half = s.pilot.half ∧
    t.pilot.pollRemaining = s.pilot.pollRemaining ∧ t.pilot.cursor = s.pilot.cursor ∧
    t.pilot.stations = s.pilot.stations := by
  unfold joinQueue at h
  rw [Option.map_eq_some_iff] at h
  obtain ⟨_, -, rfl⟩ := h
  simp

theorem sendHunt_pilot {k : DownKind} {a : Nat} {s t : State} (h : sendHunt k a s = some t) :
    t.pilot.down = s.pilot.down ∧ t.pilot.up = s.pilot.up ∧ t.pilot.half = s.pilot.half ∧
    t.pilot.pollRemaining = s.pilot.pollRemaining ∧ t.pilot.cursor = s.pilot.cursor ∧
    t.pilot.stations = s.pilot.stations := by
  unfold sendHunt at h
  split at h
  · cases h
    simp
  · rw [Option.map_eq_some_iff] at h
    obtain ⟨_, hj, rfl⟩ := h
    have := joinQueue_pilot hj
    simp [this]

@[simp] theorem withdrawWaiting_pilot (c : DownClass) (s : State) :
    (withdrawWaiting c s).pilot.down = s.pilot.down ∧ (withdrawWaiting c s).pilot.up = s.pilot.up ∧
    (withdrawWaiting c s).pilot.half = s.pilot.half ∧
    (withdrawWaiting c s).pilot.pollRemaining = s.pilot.pollRemaining ∧
    (withdrawWaiting c s).pilot.cursor = s.pilot.cursor ∧
    (withdrawWaiting c s).pilot.stations = s.pilot.stations := by
  simp [withdrawWaiting]

@[simp] theorem dropOutstanding_pilot  (s : State) :
    (dropOutstanding s).pilot.down = s.pilot.down ∧ (dropOutstanding s).pilot.up = s.pilot.up ∧
    (dropOutstanding s).pilot.half = s.pilot.half ∧
    (dropOutstanding s).pilot.pollRemaining = s.pilot.pollRemaining ∧
    (dropOutstanding s).pilot.cursor = s.pilot.cursor ∧ (dropOutstanding s).pilot.stations = s.pilot.stations := by
  unfold dropOutstanding
  (repeat' split) <;> simp

@[simp] theorem beginSteps_pilot (u : Option Nat) (l : List HuntStep) (s : State) :
    (beginSteps u l s).pilot.down = s.pilot.down ∧ (beginSteps u l s).pilot.up = s.pilot.up ∧
    (beginSteps u l s).pilot.half = s.pilot.half ∧
    (beginSteps u l s).pilot.pollRemaining = s.pilot.pollRemaining ∧
    (beginSteps u l s).pilot.cursor = s.pilot.cursor ∧ (beginSteps u l s).pilot.stations = s.pilot.stations := by
  induction l generalizing s with
  | nil => simp [beginSteps]
  | cons st rest ih =>
    unfold beginSteps
    dsimp only
    split
    · split
      · have := sendHunt_pilot ‹_›
        simp [this]
      · simp [ih]
    · simp [ih]

@[simp] theorem continueHunt_pilot (u : Option Nat) (s : State) :
    (continueHunt u s).pilot.down = s.pilot.down ∧ (continueHunt u s).pilot.up = s.pilot.up ∧
    (continueHunt u s).pilot.half = s.pilot.half ∧
    (continueHunt u s).pilot.pollRemaining = s.pilot.pollRemaining ∧
    (continueHunt u s).pilot.cursor = s.pilot.cursor ∧ (continueHunt u s).pilot.stations = s.pilot.stations := by
  simp [continueHunt]

@[simp] theorem stepOver_pilot (r : StepResult) (u : Option Nat) (s : State) :
    (stepOver r u s).pilot.down = s.pilot.down ∧ (stepOver r u s).pilot.up = s.pilot.up ∧
    (stepOver r u s).pilot.half = s.pilot.half ∧ (stepOver r u s).pilot.pollRemaining = s.pilot.pollRemaining ∧
    (stepOver r u s).pilot.cursor = s.pilot.cursor ∧ (stepOver r u s).pilot.stations = s.pilot.stations := by
  simp [stepOver]

@[simp] theorem restoreFailed_pilot (u : Option Nat) (s : State) :
    (restoreFailed u s).pilot.down = s.pilot.down ∧ (restoreFailed u s).pilot.up = s.pilot.up ∧
    (restoreFailed u s).pilot.half = s.pilot.half ∧
    (restoreFailed u s).pilot.pollRemaining = s.pilot.pollRemaining ∧
    (restoreFailed u s).pilot.cursor = s.pilot.cursor ∧ (restoreFailed u s).pilot.stations = s.pilot.stations := by
  simp [restoreFailed]

@[simp] theorem huntAbort_pilot (c : AbortCause) (s : State) :
    (huntAbort c s).pilot.down = s.pilot.down ∧ (huntAbort c s).pilot.up = s.pilot.up ∧
    (huntAbort c s).pilot.half = s.pilot.half ∧ (huntAbort c s).pilot.pollRemaining = s.pilot.pollRemaining ∧
    (huntAbort c s).pilot.cursor = s.pilot.cursor ∧ (huntAbort c s).pilot.stations = s.pilot.stations := by
  unfold huntAbort
  (repeat' split) <;> simp

@[simp] theorem huntBarArrival_pilot (b : State) (s : State) :
    (huntBarArrival b s).pilot.down = s.pilot.down ∧ (huntBarArrival b s).pilot.up = s.pilot.up ∧
    (huntBarArrival b s).pilot.half = s.pilot.half ∧
    (huntBarArrival b s).pilot.pollRemaining = s.pilot.pollRemaining ∧
    (huntBarArrival b s).pilot.cursor = s.pilot.cursor ∧ (huntBarArrival b s).pilot.stations = s.pilot.stations := by
  unfold huntBarArrival
  (repeat' split) <;> simp

@[simp] theorem setCondition_pilot (c : Cond) (a : Bool) (s : State) :
    (setCondition c a s).pilot.down = s.pilot.down ∧ (setCondition c a s).pilot.up = s.pilot.up ∧
    (setCondition c a s).pilot.half = s.pilot.half ∧
    (setCondition c a s).pilot.pollRemaining = s.pilot.pollRemaining ∧
    (setCondition c a s).pilot.cursor = s.pilot.cursor ∧ (setCondition c a s).pilot.stations = s.pilot.stations := by
  simp [setCondition]

@[simp] theorem applyTable_pilot  (s : State) :
    (applyTable s).pilot.down = s.pilot.down ∧ (applyTable s).pilot.up = s.pilot.up ∧
    (applyTable s).pilot.half = s.pilot.half ∧ (applyTable s).pilot.pollRemaining = s.pilot.pollRemaining ∧
    (applyTable s).pilot.cursor = s.pilot.cursor ∧ (applyTable s).pilot.stations = s.pilot.stations := by
  simp [applyTable]

@[simp] theorem huntGroupChange_pilot  (s : State) :
    (huntGroupChange s).pilot.down = s.pilot.down ∧ (huntGroupChange s).pilot.up = s.pilot.up ∧
    (huntGroupChange s).pilot.half = s.pilot.half ∧
    (huntGroupChange s).pilot.pollRemaining = s.pilot.pollRemaining ∧
    (huntGroupChange s).pilot.cursor = s.pilot.cursor ∧ (huntGroupChange s).pilot.stations = s.pilot.stations := by
  unfold huntGroupChange
  (repeat' split) <;> simp

@[simp] theorem startSwitchWait_pilot  (s : State) :
    (startSwitchWait s).pilot.down = s.pilot.down ∧ (startSwitchWait s).pilot.up = s.pilot.up ∧
    (startSwitchWait s).pilot.half = s.pilot.half ∧
    (startSwitchWait s).pilot.pollRemaining = s.pilot.pollRemaining ∧
    (startSwitchWait s).pilot.cursor = s.pilot.cursor ∧ (startSwitchWait s).pilot.stations = s.pilot.stations := by
  simp [startSwitchWait]

@[simp] theorem sendHeldHunt_pilot  (s : State) :
    (sendHeldHunt s).pilot.down = s.pilot.down ∧ (sendHeldHunt s).pilot.up = s.pilot.up ∧
    (sendHeldHunt s).pilot.half = s.pilot.half ∧ (sendHeldHunt s).pilot.pollRemaining = s.pilot.pollRemaining ∧
    (sendHeldHunt s).pilot.cursor = s.pilot.cursor ∧ (sendHeldHunt s).pilot.stations = s.pilot.stations := by
  unfold sendHeldHunt
  split <;> (try split) <;> first | simp | (have := sendHunt_pilot ‹_›; simp [this])

@[simp] theorem huntOutcome_pilot (o : DownOutcome) (s : State) :
    (huntOutcome o s).pilot.down = s.pilot.down ∧ (huntOutcome o s).pilot.up = s.pilot.up ∧
    (huntOutcome o s).pilot.half = s.pilot.half ∧
    (huntOutcome o s).pilot.pollRemaining = s.pilot.pollRemaining ∧
    (huntOutcome o s).pilot.cursor = s.pilot.cursor ∧ (huntOutcome o s).pilot.stations = s.pilot.stations := by
  unfold huntOutcome
  (repeat' split) <;> simp

@[simp] theorem beginRestore_pilot  (s : State) :
    (beginRestore s).pilot.down = s.pilot.down ∧ (beginRestore s).pilot.up = s.pilot.up ∧
    (beginRestore s).pilot.half = s.pilot.half ∧ (beginRestore s).pilot.pollRemaining = s.pilot.pollRemaining ∧
    (beginRestore s).pilot.cursor = s.pilot.cursor ∧ (beginRestore s).pilot.stations = s.pilot.stations := by
  unfold beginRestore
  dsimp only
  split
  · have := sendHunt_pilot ‹_›
    simp [this]
  · simp

@[simp] theorem judgeDwell_pilot  (s : State) :
    (judgeDwell s).pilot.down = s.pilot.down ∧ (judgeDwell s).pilot.up = s.pilot.up ∧
    (judgeDwell s).pilot.half = s.pilot.half ∧ (judgeDwell s).pilot.pollRemaining = s.pilot.pollRemaining ∧
    (judgeDwell s).pilot.cursor = s.pilot.cursor ∧ (judgeDwell s).pilot.stations = s.pilot.stations := by
  unfold judgeDwell
  (repeat' split) <;> simp

@[simp] theorem queueRelease_pilot (n a : Nat) (s : State) :
    (queueRelease n a s).pilot.down = s.pilot.down ∧ (queueRelease n a s).pilot.up = s.pilot.up ∧
    (queueRelease n a s).pilot.half = s.pilot.half ∧
    (queueRelease n a s).pilot.pollRemaining = s.pilot.pollRemaining ∧
    (queueRelease n a s).pilot.cursor = s.pilot.cursor ∧ (queueRelease n a s).pilot.stations = s.pilot.stations := by
  unfold queueRelease
  split
  · simp
  · split
    · have := joinQueue_pilot ‹_›
      simp [this]
    · simp

@[simp] theorem settleGrant_pilot (w : StartWindow) (b : Bool) (s : State) :
    (settleGrant w b s).pilot.down = s.pilot.down ∧ (settleGrant w b s).pilot.up = s.pilot.up ∧
    (settleGrant w b s).pilot.half = s.pilot.half ∧
    (settleGrant w b s).pilot.pollRemaining = s.pilot.pollRemaining ∧
    (settleGrant w b s).pilot.cursor = s.pilot.cursor ∧ (settleGrant w b s).pilot.stations = s.pilot.stations := by
  unfold settleGrant
  (repeat' split) <;> simp

@[simp] theorem sendReleaseDue_pilot  (s : State) :
    (sendReleaseDue s).pilot.down = s.pilot.down ∧ (sendReleaseDue s).pilot.up = s.pilot.up ∧
    (sendReleaseDue s).pilot.half = s.pilot.half ∧
    (sendReleaseDue s).pilot.pollRemaining = s.pilot.pollRemaining ∧
    (sendReleaseDue s).pilot.cursor = s.pilot.cursor ∧ (sendReleaseDue s).pilot.stations = s.pilot.stations := by
  unfold sendReleaseDue
  (repeat' split) <;> simp

@[simp] theorem completeTrip_pilot  (s : State) :
    (completeTrip s).pilot.down = s.pilot.down ∧ (completeTrip s).pilot.up = s.pilot.up ∧
    (completeTrip s).pilot.half = s.pilot.half ∧ (completeTrip s).pilot.pollRemaining = s.pilot.pollRemaining ∧
    (completeTrip s).pilot.cursor = s.pilot.cursor ∧ (completeTrip s).pilot.stations = s.pilot.stations := by
  unfold completeTrip
  (repeat' split) <;> simp

@[simp] theorem scanReady_pilot (b : Bool) (s : State) :
    (scanReady b s).pilot.down = s.pilot.down ∧ (scanReady b s).pilot.up = s.pilot.up ∧
    (scanReady b s).pilot.half = s.pilot.half ∧ (scanReady b s).pilot.pollRemaining = s.pilot.pollRemaining ∧
    (scanReady b s).pilot.cursor = s.pilot.cursor ∧ (scanReady b s).pilot.stations = s.pilot.stations := by
  unfold scanReady
  (repeat' split) <;> simp

@[simp] theorem judgeFireStale_pilot  (s : State) :
    (judgeFireStale s).pilot.down = s.pilot.down ∧ (judgeFireStale s).pilot.up = s.pilot.up ∧
    (judgeFireStale s).pilot.half = s.pilot.half ∧
    (judgeFireStale s).pilot.pollRemaining = s.pilot.pollRemaining ∧
    (judgeFireStale s).pilot.cursor = s.pilot.cursor ∧ (judgeFireStale s).pilot.stations = s.pilot.stations := by
  simp [judgeFireStale]

@[simp] theorem judgeFireRegime_pilot  (s : State) :
    (judgeFireRegime s).pilot.down = s.pilot.down ∧ (judgeFireRegime s).pilot.up = s.pilot.up ∧
    (judgeFireRegime s).pilot.half = s.pilot.half ∧
    (judgeFireRegime s).pilot.pollRemaining = s.pilot.pollRemaining ∧
    (judgeFireRegime s).pilot.cursor = s.pilot.cursor ∧ (judgeFireRegime s).pilot.stations = s.pilot.stations := by
  simp [judgeFireRegime]

@[simp] theorem protLoss_pilot  (s : State) :
    (protLoss s).pilot.down = s.pilot.down ∧ (protLoss s).pilot.up = s.pilot.up ∧
    (protLoss s).pilot.half = s.pilot.half ∧ (protLoss s).pilot.pollRemaining = s.pilot.pollRemaining ∧
    (protLoss s).pilot.cursor = s.pilot.cursor ∧ (protLoss s).pilot.stations = s.pilot.stations := by
  simp [protLoss]

@[simp] theorem judgeSilent_pilot  (s : State) :
    (judgeSilent s).pilot.down = s.pilot.down ∧ (judgeSilent s).pilot.up = s.pilot.up ∧
    (judgeSilent s).pilot.half = s.pilot.half ∧ (judgeSilent s).pilot.pollRemaining = s.pilot.pollRemaining ∧
    (judgeSilent s).pilot.cursor = s.pilot.cursor ∧ (judgeSilent s).pilot.stations = s.pilot.stations := by
  simp [judgeSilent]

@[simp] theorem judgeIntegrity_pilot  (s : State) :
    (judgeIntegrity s).pilot.down = s.pilot.down ∧ (judgeIntegrity s).pilot.up = s.pilot.up ∧
    (judgeIntegrity s).pilot.half = s.pilot.half ∧
    (judgeIntegrity s).pilot.pollRemaining = s.pilot.pollRemaining ∧
    (judgeIntegrity s).pilot.cursor = s.pilot.cursor ∧ (judgeIntegrity s).pilot.stations = s.pilot.stations := by
  simp [judgeIntegrity]

@[simp] theorem plantChanged_pilot  (s : State) :
    (plantChanged s).pilot.down = s.pilot.down ∧ (plantChanged s).pilot.up = s.pilot.up ∧
    (plantChanged s).pilot.half = s.pilot.half ∧ (plantChanged s).pilot.pollRemaining = s.pilot.pollRemaining ∧
    (plantChanged s).pilot.cursor = s.pilot.cursor ∧ (plantChanged s).pilot.stations = s.pilot.stations := by
  simp [plantChanged]

end Sys2Proof.Machine
end

