-- ==== Sys2Proof/Laws/Settled.lean ====
section
/-! SUPPORT. The two blocks that the condition monitor's hand-on reaches: outside DEAD_TIME and CLOSING it leaves the
sequencer as it is (R84 to R86, R89), and with CLOSE_OUT released it leaves the breaker interface as it is (R73). -/

namespace Sys2Proof.Machine

theorem seqBlockChange_settled (oh oo : List Cond) {s : State} (h1 : s.seq.state ≠ .deadTime)
    (h2 : s.seq.state ≠ .closing) : seqBlockChange oh oo s = s := by
  unfold seqBlockChange
  split <;> simp_all

theorem breakerHardChange_settled (oh : List Cond) {s : State} (h : s.brk.closeOut = false) :
    breakerHardChange oh s = s := by
  simp [breakerHardChange, h]

@[simp] theorem breakerHardChange_seq (oh : List Cond) {s : State} (h : s.seq.state ≠ .closing) :
    (breakerHardChange oh s).seq = s.seq := by
  unfold breakerHardChange
  split <;> simp [seqWithdrawn, h]

@[simp] theorem adoptRecords_seq (t : CondTable CondRec) {s : State} (h1 : s.seq.state ≠ .deadTime)
    (h2 : s.seq.state ≠ .closing) : (adoptRecords t s).seq = s.seq := by
  unfold adoptRecords
  split
  · simp
  · have e : (breakerHardChange s.mon.hard (s.setMon (monitorOf t))).seq = s.seq := by
      rw [breakerHardChange_seq] <;> simp [h2]
    rw [seqBlockChange_settled _ _ (by rw [e]; exact h1) (by rw [e]; exact h2), e]

@[simp] theorem adoptRecords_brk (t : CondTable CondRec) {s : State} (h : s.brk.closeOut = false) :
    (adoptRecords t s).brk = s.brk := by
  unfold adoptRecords
  split
  · simp
  · rw [breakerHardChange_settled] <;> simp [h]

@[simp] theorem ownerReport_seq (c : Cond) (a : Bool) {s : State}
    (h1 : s.seq.state ≠ .deadTime) (h2 : s.seq.state ≠ .closing) :
    (ownerReport c a s).seq = s.seq := by
  unfold ownerReport
  (repeat' split) <;> simp [h1, h2]

@[simp] theorem ownerReport_brk (c : Cond) (a : Bool) {s : State}
    (h : s.brk.closeOut = false) : (ownerReport c a s).brk = s.brk := by
  unfold ownerReport
  (repeat' split) <;> simp [h]

@[simp] theorem replaceRecords_seq (k : CondCause) (t : CondTable CondRec) {s : State}
    (h1 : s.seq.state ≠ .deadTime) (h2 : s.seq.state ≠ .closing) :
    (replaceRecords k t s).seq = s.seq := by
  simp [replaceRecords, h1, h2]

@[simp] theorem replaceRecords_brk (k : CondCause) (t : CondTable CondRec) {s : State}
    (h : s.brk.closeOut = false) : (replaceRecords k t s).brk = s.brk := by
  simp [replaceRecords, h]

@[simp] theorem finishHunt_seq (r : LastResult) (l : List StepRecord) (n : HuntState) {s : State}
    (h1 : s.seq.state ≠ .deadTime) (h2 : s.seq.state ≠ .closing) :
    (finishHunt r l n s).seq = s.seq := by
  simp [finishHunt, h1, h2]

@[simp] theorem finishHunt_brk (r : LastResult) (l : List StepRecord) (n : HuntState) {s : State}
    (h : s.brk.closeOut = false) : (finishHunt r l n s).brk = s.brk := by
  simp [finishHunt, h]

@[simp] theorem endHunt_seq (o : HuntOutcome) (c : Option AbortCause) (b : Option (List Cond)) (u : Option Nat) (n : HuntState) {s : State}
    (h1 : s.seq.state ≠ .deadTime) (h2 : s.seq.state ≠ .closing) :
    (endHunt o c b u n s).seq = s.seq := by
  simp [endHunt, h1, h2]

@[simp] theorem endHunt_brk (o : HuntOutcome) (c : Option AbortCause) (b : Option (List Cond)) (u : Option Nat) (n : HuntState) {s : State}
    (h : s.brk.closeOut = false) : (endHunt o c b u n s).brk = s.brk := by
  simp [endHunt, h]

@[simp] theorem beginSteps_seq (u : Option Nat) (l : List HuntStep) {s : State}
    (h1 : s.seq.state ≠ .deadTime) (h2 : s.seq.state ≠ .closing) :
    (beginSteps u l s).seq = s.seq := by
  induction l generalizing s with
  | nil => simp [beginSteps, h1, h2]
  | cons st rest ih =>
    unfold beginSteps
    dsimp only
    split
    · split
      · have := sendHunt_frame ‹_›
        simp [this]
      · simp [ih, h1, h2]
    · simp [ih, h1, h2]

@[simp] theorem beginSteps_brk (u : Option Nat) (l : List HuntStep) {s : State}
    (h : s.brk.closeOut = false) : (beginSteps u l s).brk = s.brk := by
  induction l generalizing s with
  | nil => simp [beginSteps, h]
  | cons st rest ih =>
    unfold beginSteps
    dsimp only
    split
    · split
      · have := sendHunt_frame ‹_›
        simp [this]
      · simp [ih, h]
    · simp [ih, h]

@[simp] theorem continueHunt_seq (u : Option Nat) {s : State}
    (h1 : s.seq.state ≠ .deadTime) (h2 : s.seq.state ≠ .closing) :
    (continueHunt u s).seq = s.seq := by
  simp [continueHunt, h1, h2]

@[simp] theorem continueHunt_brk (u : Option Nat) {s : State}
    (h : s.brk.closeOut = false) : (continueHunt u s).brk = s.brk := by
  simp [continueHunt, h]

@[simp] theorem stepOver_seq (r : StepResult) (u : Option Nat) {s : State}
    (h1 : s.seq.state ≠ .deadTime) (h2 : s.seq.state ≠ .closing) :
    (stepOver r u s).seq = s.seq := by
  simp [stepOver, h1, h2]

@[simp] theorem stepOver_brk (r : StepResult) (u : Option Nat) {s : State}
    (h : s.brk.closeOut = false) : (stepOver r u s).brk = s.brk := by
  simp [stepOver, h]

@[simp] theorem restoreFailed_seq (u : Option Nat) {s : State}
    (h1 : s.seq.state ≠ .deadTime) (h2 : s.seq.state ≠ .closing) :
    (restoreFailed u s).seq = s.seq := by
  simp [restoreFailed, h1, h2]

@[simp] theorem restoreFailed_brk (u : Option Nat) {s : State}
    (h : s.brk.closeOut = false) : (restoreFailed u s).brk = s.brk := by
  simp [restoreFailed, h]

@[simp] theorem huntAbort_seq (c : AbortCause) {s : State}
    (h1 : s.seq.state ≠ .deadTime) (h2 : s.seq.state ≠ .closing) :
    (huntAbort c s).seq = s.seq := by
  unfold huntAbort
  (repeat' split) <;> simp [h1, h2]

@[simp] theorem huntAbort_brk (c : AbortCause) {s : State}
    (h : s.brk.closeOut = false) : (huntAbort c s).brk = s.brk := by
  unfold huntAbort
  (repeat' split) <;> simp [h]

@[simp] theorem huntBarArrival_seq (b : State) {s : State}
    (h1 : s.seq.state ≠ .deadTime) (h2 : s.seq.state ≠ .closing) :
    (huntBarArrival b s).seq = s.seq := by
  unfold huntBarArrival
  (repeat' split) <;> simp [h1, h2]

@[simp] theorem huntBarArrival_brk (b : State) {s : State}
    (h : s.brk.closeOut = false) : (huntBarArrival b s).brk = s.brk := by
  unfold huntBarArrival
  (repeat' split) <;> simp [h]

@[simp] theorem setCondition_seq (c : Cond) (a : Bool) {s : State}
    (h1 : s.seq.state ≠ .deadTime) (h2 : s.seq.state ≠ .closing) :
    (setCondition c a s).seq = s.seq := by
  simp [setCondition, h1, h2]

@[simp] theorem setCondition_brk (c : Cond) (a : Bool) {s : State}
    (h : s.brk.closeOut = false) : (setCondition c a s).brk = s.brk := by
  simp [setCondition, h]

@[simp] theorem applyTable_seq {s : State}
    (h1 : s.seq.state ≠ .deadTime) (h2 : s.seq.state ≠ .closing) :
    (applyTable s).seq = s.seq := by
  simp [applyTable, h1, h2]

@[simp] theorem applyTable_brk {s : State}
    (h : s.brk.closeOut = false) : (applyTable s).brk = s.brk := by
  simp [applyTable, h]

@[simp] theorem startHuntNow_seq (o : Option HuntOrigin) {s : State}
    (h1 : s.seq.state ≠ .deadTime) (h2 : s.seq.state ≠ .closing) :
    (startHuntNow o s).seq = s.seq := by
  unfold startHuntNow
  dsimp only
  have e : ∀ x l, (ownerReport .huntActive true ((updateStations x s).setHunt l)).seq = s.seq := by
    intro x l
    rw [ownerReport_seq] <;> simp [h1, h2]
  have e2 : ∀ x l p, (beginSteps none p (ownerReport .huntActive true ((updateStations x s).setHunt l))).seq =
      s.seq := by
    intro x l p
    rw [beginSteps_seq] <;> simp only [e] <;> assumption
  rw [huntBarArrival_seq] <;> simp only [e2] <;> assumption

@[simp] theorem startHuntNow_brk (o : Option HuntOrigin) {s : State}
    (h : s.brk.closeOut = false) : (startHuntNow o s).brk = s.brk := by
  unfold startHuntNow
  dsimp only
  have e : ∀ x l, (ownerReport .huntActive true ((updateStations x s).setHunt l)).brk = s.brk := by
    intro x l
    rw [ownerReport_brk] <;> simp [h]
  have e2 : ∀ x l p, (beginSteps none p (ownerReport .huntActive true ((updateStations x s).setHunt l))).brk =
      s.brk := by
    intro x l p
    exact (beginSteps_brk _ _ ((congrArg _ (e x l)).trans h)).trans (e x l)
  exact (huntBarArrival_brk _ ((congrArg _ (e2 _ _ _)).trans h)).trans (e2 _ _ _)

@[simp] theorem admitHunt_seq (o : HuntOrigin) {s : State}
    (h1 : s.seq.state ≠ .deadTime) (h2 : s.seq.state ≠ .closing) :
    (admitHunt o s).seq = s.seq := by
  unfold admitHunt
  split
  · have e : ∀ l, (ownerReport .huntActive true (s.setHunt l)).seq = s.seq := by
      intro l
      rw [ownerReport_seq] <;> simp [h1, h2]
    rw [huntBarArrival_seq] <;> simp only [e] <;> assumption
  · simp [h1, h2]

@[simp] theorem admitHunt_brk (o : HuntOrigin) {s : State}
    (h : s.brk.closeOut = false) : (admitHunt o s).brk = s.brk := by
  unfold admitHunt
  (repeat' split) <;> simp [h]

@[simp] theorem huntNotStarted_seq (r : NotStarted) (o : Option HuntOrigin) {s : State}
    (h1 : s.seq.state ≠ .deadTime) (h2 : s.seq.state ≠ .closing) :
    (huntNotStarted r o s).seq = s.seq := by
  simp [huntNotStarted, h1, h2]

@[simp] theorem huntNotStarted_brk (r : NotStarted) (o : Option HuntOrigin) {s : State}
    (h : s.brk.closeOut = false) : (huntNotStarted r o s).brk = s.brk := by
  simp [huntNotStarted, h]

@[simp] theorem huntRequestSef_seq {s : State}
    (h1 : s.seq.state ≠ .deadTime) (h2 : s.seq.state ≠ .closing) :
    (huntRequestSef s).seq = s.seq := by
  unfold huntRequestSef
  (repeat' split) <;> simp [h1, h2]

@[simp] theorem huntRequestSef_brk {s : State}
    (h : s.brk.closeOut = false) : (huntRequestSef s).brk = s.brk := by
  unfold huntRequestSef
  (repeat' split) <;> simp [h]

@[simp] theorem huntWindowClosed_seq {s : State}
    (h1 : s.seq.state ≠ .deadTime) (h2 : s.seq.state ≠ .closing) :
    (huntWindowClosed s).seq = s.seq := by
  unfold huntWindowClosed
  (repeat' split) <;> simp [h1, h2]

@[simp] theorem huntWindowClosed_brk {s : State}
    (h : s.brk.closeOut = false) : (huntWindowClosed s).brk = s.brk := by
  unfold huntWindowClosed
  (repeat' split) <;> simp [h]

@[simp] theorem huntGroupChange_seq {s : State}
    (h1 : s.seq.state ≠ .deadTime) (h2 : s.seq.state ≠ .closing) :
    (huntGroupChange s).seq = s.seq := by
  unfold huntGroupChange
  (repeat' split) <;> simp [h1, h2]

@[simp] theorem huntGroupChange_brk {s : State}
    (h : s.brk.closeOut = false) : (huntGroupChange s).brk = s.brk := by
  unfold huntGroupChange
  (repeat' split) <;> simp [h]

@[simp] theorem sendHeldHunt_seq {s : State}
    (h1 : s.seq.state ≠ .deadTime) (h2 : s.seq.state ≠ .closing) :
    (sendHeldHunt s).seq = s.seq := by
  unfold sendHeldHunt
  split <;> (try split) <;> first | simp [h1, h2] | (have := sendHunt_frame ‹_›; simp [this])

@[simp] theorem sendHeldHunt_brk {s : State}
    (h : s.brk.closeOut = false) : (sendHeldHunt s).brk = s.brk := by
  unfold sendHeldHunt
  split <;> (try split) <;> first | simp [h] | (have := sendHunt_frame ‹_›; simp [this])

@[simp] theorem huntOutcome_seq (o : DownOutcome) {s : State}
    (h1 : s.seq.state ≠ .deadTime) (h2 : s.seq.state ≠ .closing) :
    (huntOutcome o s).seq = s.seq := by
  unfold huntOutcome
  split
  · rfl
  · dsimp only
    (repeat' split) <;> first
      | simp
      | (rw [sendHeldHunt_seq] <;> simp [h1, h2])
      | (rw [stepOver_seq] <;> simp [h1, h2])
      | (rw [restoreFailed_seq] <;> simp [h1, h2])

@[simp] theorem huntOutcome_brk (o : DownOutcome) {s : State}
    (h : s.brk.closeOut = false) : (huntOutcome o s).brk = s.brk := by
  unfold huntOutcome
  (repeat' split) <;> simp [h]

@[simp] theorem huntSwitchDone_seq (a : Nat) (r : SwitchResult) {s : State}
    (h1 : s.seq.state ≠ .deadTime) (h2 : s.seq.state ≠ .closing) :
    (huntSwitchDone a r s).seq = s.seq := by
  unfold huntSwitchDone
  (repeat' split) <;> simp [h1, h2]

@[simp] theorem huntSwitchDone_brk (a : Nat) (r : SwitchResult) {s : State}
    (h : s.brk.closeOut = false) : (huntSwitchDone a r s).brk = s.brk := by
  unfold huntSwitchDone
  (repeat' split) <;> simp [h]

@[simp] theorem beginRestore_seq {s : State}
    (h1 : s.seq.state ≠ .deadTime) (h2 : s.seq.state ≠ .closing) :
    (beginRestore s).seq = s.seq := by
  unfold beginRestore
  dsimp only
  split
  · have := sendHunt_frame ‹_›
    simp [this]
  · rw [restoreFailed_seq] <;> simp [h1, h2]

@[simp] theorem beginRestore_brk {s : State}
    (h : s.brk.closeOut = false) : (beginRestore s).brk = s.brk := by
  unfold beginRestore
  dsimp only
  split
  · have := sendHunt_frame ‹_›
    simp [this]
  · simp [h]

@[simp] theorem judgeDwell_seq {s : State}
    (h1 : s.seq.state ≠ .deadTime) (h2 : s.seq.state ≠ .closing) :
    (judgeDwell s).seq = s.seq := by
  unfold judgeDwell
  repeat' ((try dsimp only); split)
  all_goals first | (simp [h1, h2]) | (rw [beginRestore_seq] <;> simp [h1, h2])

@[simp] theorem judgeDwell_brk {s : State}
    (h : s.brk.closeOut = false) : (judgeDwell s).brk = s.brk := by
  unfold judgeDwell
  (repeat' split) <;> simp [h]

@[simp] theorem endWindow_seq (c : StartCause) {s : State}
    (h1 : s.seq.state ≠ .deadTime) (h2 : s.seq.state ≠ .closing) :
    (endWindow c s).seq = s.seq := by
  unfold endWindow
  (repeat' split) <;> simp [h1, h2]

@[simp] theorem endWindow_brk (c : StartCause) {s : State}
    (h : s.brk.closeOut = false) : (endWindow c s).brk = s.brk := by
  unfold endWindow
  (repeat' split) <;> simp [h]

@[simp] theorem queueGrant_seq (w : StartWindow) {s : State}
    (h1 : s.seq.state ≠ .deadTime) (h2 : s.seq.state ≠ .closing) :
    (queueGrant w s).seq = s.seq := by
  unfold queueGrant
  split
  · simp
  · split
    · have := joinQueue_frame ‹_›
      simp [this]
    · rw [endWindow_seq] <;> simp [h1, h2]

@[simp] theorem queueGrant_brk (w : StartWindow) {s : State}
    (h : s.brk.closeOut = false) : (queueGrant w s).brk = s.brk := by
  unfold queueGrant
  split
  · simp
  · split
    · have := joinQueue_frame ‹_›
      simp [this]
    · simp [h]

@[simp] theorem sendHeldGrant_seq {s : State}
    (h1 : s.seq.state ≠ .deadTime) (h2 : s.seq.state ≠ .closing) :
    (sendHeldGrant s).seq = s.seq := by
  unfold sendHeldGrant
  (repeat' split) <;> simp [h1, h2]

@[simp] theorem sendHeldGrant_brk {s : State}
    (h : s.brk.closeOut = false) : (sendHeldGrant s).brk = s.brk := by
  unfold sendHeldGrant
  (repeat' split) <;> simp [h]

@[simp] theorem admOutcomeEffect_seq (m : StartMessage) (o : DownOutcome) {s : State}
    (h1 : s.seq.state ≠ .deadTime) (h2 : s.seq.state ≠ .closing) :
    (admOutcomeEffect m o s).seq = s.seq := by
  unfold admOutcomeEffect
  (repeat' split) <;> simp [h1, h2]

@[simp] theorem admOutcomeEffect_brk (m : StartMessage) (o : DownOutcome) {s : State}
    (h : s.brk.closeOut = false) : (admOutcomeEffect m o s).brk = s.brk := by
  unfold admOutcomeEffect
  (repeat' split) <;> simp [h]

@[simp] theorem admOutcome_seq (o : DownOutcome) {s : State}
    (h1 : s.seq.state ≠ .deadTime) (h2 : s.seq.state ≠ .closing) :
    (admOutcome o s).seq = s.seq := by
  unfold admOutcome
  split
  · rfl
  · next m _ =>
    have e : (sendReleaseDue (admOutcomeEffect m o (s.setAdm { s.adm with outstanding := none }))).seq = s.seq := by
      simp only [sendReleaseDue_frame]
      rw [admOutcomeEffect_seq] <;> simp [h1, h2]
    rw [sendHeldGrant_seq] <;> simp only [e] <;> assumption

@[simp] theorem admOutcome_brk (o : DownOutcome) {s : State}
    (h : s.brk.closeOut = false) : (admOutcome o s).brk = s.brk := by
  unfold admOutcome
  (repeat' split) <;> simp [h]

@[simp] theorem admStartDone_seq (a n : Nat) {s : State}
    (h1 : s.seq.state ≠ .deadTime) (h2 : s.seq.state ≠ .closing) :
    (admStartDone a n s).seq = s.seq := by
  unfold admStartDone
  (repeat' split) <;> simp [h1, h2]

@[simp] theorem admStartDone_brk (a n : Nat) {s : State}
    (h : s.brk.closeOut = false) : (admStartDone a n s).brk = s.brk := by
  unfold admStartDone
  (repeat' split) <;> simp [h]

@[simp] theorem admStartAbandon_seq (a n : Nat) {s : State}
    (h1 : s.seq.state ≠ .deadTime) (h2 : s.seq.state ≠ .closing) :
    (admStartAbandon a n s).seq = s.seq := by
  unfold admStartAbandon
  (repeat' split) <;> simp [h1, h2]

@[simp] theorem admStartAbandon_brk (a n : Nat) {s : State}
    (h : s.brk.closeOut = false) : (admStartAbandon a n s).brk = s.brk := by
  unfold admStartAbandon
  (repeat' split) <;> simp [h]

@[simp] theorem openWindow_seq (d : Drive) {s : State}
    (h1 : s.seq.state ≠ .deadTime) (h2 : s.seq.state ≠ .closing) :
    (openWindow d s).seq = s.seq := by
  unfold openWindow
  (repeat' split) <;> simp [h1, h2]

@[simp] theorem openWindow_brk (d : Drive) {s : State}
    (h : s.brk.closeOut = false) : (openWindow d s).brk = s.brk := by
  unfold openWindow
  (repeat' split) <;> simp [h]

@[simp] theorem rebuildDrives_seq (l : List DriveEntry) {s : State}
    (h1 : s.seq.state ≠ .deadTime) (h2 : s.seq.state ≠ .closing) :
    (rebuildDrives l s).seq = s.seq := by
  unfold rebuildDrives
  dsimp only
  split <;> simp [h1, h2]

@[simp] theorem rebuildDrives_brk (l : List DriveEntry) {s : State}
    (h : s.brk.closeOut = false) : (rebuildDrives l s).brk = s.brk := by
  unfold rebuildDrives
  dsimp only
  split <;> simp [h]

@[simp] theorem judgeFireStale_seq {s : State}
    (h1 : s.seq.state ≠ .deadTime) (h2 : s.seq.state ≠ .closing) :
    (judgeFireStale s).seq = s.seq := by
  simp [judgeFireStale, h1, h2]

@[simp] theorem judgeFireStale_brk {s : State}
    (h : s.brk.closeOut = false) : (judgeFireStale s).brk = s.brk := by
  simp [judgeFireStale, h]

@[simp] theorem judgeFireRegime_seq {s : State}
    (h1 : s.seq.state ≠ .deadTime) (h2 : s.seq.state ≠ .closing) :
    (judgeFireRegime s).seq = s.seq := by
  simp [judgeFireRegime, h1, h2]

@[simp] theorem judgeFireRegime_brk {s : State}
    (h : s.brk.closeOut = false) : (judgeFireRegime s).brk = s.brk := by
  simp [judgeFireRegime, h]

@[simp] theorem sefStage_seq {s : State}
    (h1 : s.seq.state ≠ .deadTime) (h2 : s.seq.state ≠ .closing) :
    (sefStage s).seq = s.seq := by
  unfold sefStage
  dsimp only
  have e : ∀ a p, (setCondition .earthFaultStanding a (s.setProt p)).seq = s.seq := by
    intro a p
    rw [setCondition_seq] <;> simp [h1, h2]
  split
  · rw [huntRequestSef_seq] <;> simp only [e] <;> assumption
  · exact e _ _

@[simp] theorem sefStage_brk {s : State}
    (h : s.brk.closeOut = false) : (sefStage s).brk = s.brk := by
  unfold sefStage
  repeat' ((try dsimp only); split)
  all_goals simp [h]

@[simp] theorem protLoss_seq {s : State}
    (h1 : s.seq.state ≠ .deadTime) (h2 : s.seq.state ≠ .closing) :
    (protLoss s).seq = s.seq := by
  unfold protLoss
  rw [setCondition_seq] <;> simp [h1, h2]

@[simp] theorem protLoss_brk {s : State}
    (h : s.brk.closeOut = false) : (protLoss s).brk = s.brk := by
  simp [protLoss, h]

@[simp] theorem judgeSilent_seq {s : State}
    (h1 : s.seq.state ≠ .deadTime) (h2 : s.seq.state ≠ .closing) :
    (judgeSilent s).seq = s.seq := by
  simp [judgeSilent, h1, h2]

@[simp] theorem judgeSilent_brk {s : State}
    (h : s.brk.closeOut = false) : (judgeSilent s).brk = s.brk := by
  simp [judgeSilent, h]

@[simp] theorem changeStation_seq (o n : Station) (q : Option QueryResult) {s : State}
    (h1 : s.seq.state ≠ .deadTime) (h2 : s.seq.state ≠ .closing) :
    (changeStation o n q s).seq = s.seq := by
  unfold changeStation
  (repeat' split) <;> simp [h1, h2]

@[simp] theorem changeStation_brk (o n : Station) (q : Option QueryResult) {s : State}
    (h : s.brk.closeOut = false) : (changeStation o n q s).brk = s.brk := by
  unfold changeStation
  (repeat' split) <;> simp [h]

@[simp] theorem missedAnswer_seq (st : Station) {s : State}
    (h1 : s.seq.state ≠ .deadTime) (h2 : s.seq.state ≠ .closing) :
    (missedAnswer st s).seq = s.seq := by
  simp [missedAnswer, h1, h2]

@[simp] theorem missedAnswer_brk (st : Station) {s : State}
    (h : s.brk.closeOut = false) : (missedAnswer st s).brk = s.brk := by
  simp [missedAnswer, h]

@[simp] theorem queryOutcome_seq (o : DownOutcome) (a : Nat) {s : State}
    (h1 : s.seq.state ≠ .deadTime) (h2 : s.seq.state ≠ .closing) :
    (queryOutcome o a s).seq = s.seq := by
  unfold queryOutcome
  (repeat' split) <;> simp [h1, h2]

@[simp] theorem queryOutcome_brk (o : DownOutcome) (a : Nat) {s : State}
    (h : s.brk.closeOut = false) : (queryOutcome o a s).brk = s.brk := by
  unfold queryOutcome
  (repeat' split) <;> simp [h]

@[simp] theorem handOutcome_seq (m : DownMessage) (o : DownOutcome) {s : State}
    (h1 : s.seq.state ≠ .deadTime) (h2 : s.seq.state ≠ .closing) :
    (handOutcome m o s).seq = s.seq := by
  unfold handOutcome
  (repeat' split) <;> simp [h1, h2]

@[simp] theorem handOutcome_brk (m : DownMessage) (o : DownOutcome) {s : State}
    (h : s.brk.closeOut = false) : (handOutcome m o s).brk = s.brk := by
  unfold handOutcome
  (repeat' split) <;> simp [h]

@[simp] theorem endMessage_seq {s : State}
    (h1 : s.seq.state ≠ .deadTime) (h2 : s.seq.state ≠ .closing) :
    (endMessage s).seq = s.seq := by
  unfold endMessage
  (repeat' split) <;> simp [h1, h2]

@[simp] theorem endMessage_brk {s : State}
    (h : s.brk.closeOut = false) : (endMessage s).brk = s.brk := by
  unfold endMessage
  (repeat' split) <;> simp [h]

@[simp] theorem deliverTo_seq (a : Nat) (f : Station → Station) (q : Station → Option QueryResult) {s : State}
    (h1 : s.seq.state ≠ .deadTime) (h2 : s.seq.state ≠ .closing) :
    (deliverTo a f q s).seq = s.seq := by
  unfold deliverTo
  (repeat' split) <;> simp [h1, h2]

@[simp] theorem deliverTo_brk (a : Nat) (f : Station → Station) (q : Station → Option QueryResult) {s : State}
    (h : s.brk.closeOut = false) : (deliverTo a f q s).brk = s.brk := by
  unfold deliverTo
  (repeat' split) <;> simp [h]

@[simp] theorem rebuildStations_seq (l : List StationEntry) {s : State}
    (h1 : s.seq.state ≠ .deadTime) (h2 : s.seq.state ≠ .closing) :
    (rebuildStations l s).seq = s.seq := by
  unfold rebuildStations
  dsimp only
  rw [judgeSilent_seq] <;> simp [h1, h2]

@[simp] theorem rebuildStations_brk (l : List StationEntry) {s : State}
    (h : s.brk.closeOut = false) : (rebuildStations l s).brk = s.brk := by
  simp [rebuildStations, h]

@[simp] theorem judgeIntegrity_seq {s : State}
    (h1 : s.seq.state ≠ .deadTime) (h2 : s.seq.state ≠ .closing) :
    (judgeIntegrity s).seq = s.seq := by
  simp [judgeIntegrity, h1, h2]

@[simp] theorem judgeIntegrity_brk {s : State}
    (h : s.brk.closeOut = false) : (judgeIntegrity s).brk = s.brk := by
  simp [judgeIntegrity, h]

@[simp] theorem plantChanged_seq {s : State}
    (h1 : s.seq.state ≠ .deadTime) (h2 : s.seq.state ≠ .closing) :
    (plantChanged s).seq = s.seq := by
  unfold plantChanged
  have e1 : (applyTable s).seq = s.seq := by simp [h1, h2]
  have e2 : (judgeFireStale (applyTable s)).seq = s.seq := by rw [judgeFireStale_seq] <;> simp [h1, h2]
  have e3 : (judgeFireRegime (judgeFireStale (applyTable s))).seq = s.seq := by
    rw [judgeFireRegime_seq] <;> simp [h1, h2]
  simp [e3]

@[simp] theorem plantChanged_brk {s : State}
    (h : s.brk.closeOut = false) : (plantChanged s).brk = s.brk := by
  unfold plantChanged
  have e1 : (applyTable s).brk = s.brk := by simp [h]
  have e2 : (judgeFireStale (applyTable s)).brk = s.brk := by rw [judgeFireStale_brk] <;> simp [h]
  have e3 : (judgeFireRegime (judgeFireStale (applyTable s))).brk = s.brk := by
    rw [judgeFireRegime_brk] <;> simp [h]
  simp [e3]

end Sys2Proof.Machine
end

