-- ==== Sys2Proof/WellFormed.lean ====
section
/-! DEFINITION. Which commands are well formed: their operands lie in the ranges the spec gives them. -/

namespace Sys2Proof

/-- A command is well formed when a frame's number has no more bits than were read (R1), a station
address is 1 to 15 and a drive number 0 to 7 (Table 0.4). Every other operand fits its type. -/
def Instr.wellFormed : Instr → Bool
  | .sampleSetArrival nbits frame => decide (frame < 2 ^ nbits)
  | .replyWaitExpiry station => decide (1 ≤ station) && decide (station ≤ 15)
  | .requestLifetimeExpiry drive => decide (drive ≤ 7)
  | _ => true

end Sys2Proof
end

