-- ==== Sys2Proof/Tests/Slice0.lean ====
section
/-! SUPPORT. Small checks of the model: ill-formed commands, the manual's worked numbers, one or two steps of each
family of commands, and for each statement with hypotheses a concrete state that meets them, clause by clause. -/

-- The kernel's evaluations wait for one another; one thread is enough.
set_option Elab.async false

set_option maxRecDepth 20000

namespace Sys2Proof.Tests

open Sys2Proof.Machine

/-! ## States -/

/-- A command record of a kind, with tag 7. -/
def cmd (k : CommandKind) (payload : List Byte) : Command :=
  { kind := BitVec.ofNat 8 (commandCode k), tag := 7, payload := payload }

/-- The state with one command at the head of the command queue, its reply place unfilled. -/
def headed (k : CommandKind) (payload : List Byte) (s : State) : State :=
  { s with
    host :=
      { s.host with
        commands := [cmd k payload]
        replies := [{ kind := 0x40 + commandCode k, tag := 7, reply := none, restart := none }] } }

/-- The state after a command that answers a next state. -/
def after (i : Instr) (s : State) : State :=
  match exec i s with
  | .next t => t
  | .fault _ => s
  | .refused _ => s

/-- The reply that stands in the first reply place. -/
def firstReply (s : State) : Option Reply := s.host.replies.head?.bind (·.reply)

/-- A present and valid image of a content. -/
def image (content : List Byte) : Image :=
  { blankImage with present := true, valid := true, storedCrc := crc16 content, working := content }

/-- Settings of a group that hunts, starts drives, and recloses three times. -/
def busyGroup : GroupSettings :=
  { groupS with
    rank := 5, shotLimit := 3, maxHold := 1000, startsAllowed := true, huntEnabled := true, huntClear := some 300,
    quietLevel := some 900, sef := ⟨true, 40, 0, 3, .hunt⟩ }

/-- A station record of an address. -/
def station (address : Nat) (role : Role) : Station := newStation ⟨address, role⟩

/-- Two drives: 0 asked for by the host, 1 by the panel at address 4. -/
def drives : List Drive :=
  [newDrive ⟨0, 0, .essential, 5000, 60⟩, newDrive ⟨1, 4, .production, 6000, 60⟩]

/-- A part at work: READY on a closed breaker, nothing in force, stations 1 and 4, one hunt step, two drives. -/
def atWork : State :=
  { State.reset with
    store :=
      { State.reset.store with
        images :=
          { State.reset.store.images with
            stations := image [2, 0, 0, 5, 2, 1, 0, 4, 1]
            hunt := image [5, 0, 0, 7, 2, 1, 3, 232, 1, 3, 232]
            drives := image [6, 0, 0, 15, 2, 0, 0, 0, 19, 136, 0, 60, 1, 4, 1, 23, 112, 0, 60] } }
    regime := { State.reset.regime with inForce := ⟨busyGroup, none, none⟩ }
    brk :=
      { State.reset.brk with
        prevPos := some (true, false), accepted := .closed, prevReady := some true, ready := .active }
    seq := { State.reset.seq with state := .ready, cause := none, posAwaited := false, closedLast := true }
    mon :=
      monitorOf
        { State.reset.mon.recs with
          breakerNotReady := quietRecord .live ⟨false, true, false, false, false⟩
          fireStale := quietRecord .live ⟨false, false, false, false, true⟩ }
    pilot :=
      { State.reset.pilot with
        down := { State.reset.pilot.down with stage := .freeChannel, endingLeft := 0 }
        up := upIdle .openToContest none
        half := some ⟨true, 0, false, false, 0, false, false⟩
        stations := [station 1 .sectionaliser, station 4 .drivePanel] }
    adm := { State.reset.adm with drives := drives } }

/-- The sequencer record changed. -/
def withSeq (f : Sequencer → Sequencer) (s : State) : State := s.setSeq (f s.seq)

/-- The breaker record changed. -/
def withBrk (f : Breaker → Breaker) (s : State) : State := s.setBrk (f s.brk)

/-- The hunt record changed. -/
def withHunt (f : Hunt → Hunt) (s : State) : State := s.setHunt (f s.hunt)

/-- The admission record changed. -/
def withAdm (f : Admission → Admission) (s : State) : State := s.setAdm (f s.adm)

/-- The host interface changed. -/
def withHost (f : HostIf → HostIf) (s : State) : State := s.setHost (f s.host)

/-- The up channel changed. -/
def withUp (f : UpChannel → UpChannel) (s : State) : State := s.setPilot { s.pilot with up := f s.pilot.up }

/-- The down channel changed. -/
def withDown (f : DownChannel → DownChannel) (s : State) : State :=
  s.setPilot { s.pilot with down := f s.pilot.down }

/-- One condition record changed, with the derived state that follows. -/
def withCond (c : Cond) (r : CondRec) (s : State) : State := s.setMon (monitorOf (s.mon.recs.set c r))

/-- The events due changed. -/
def withDue (f : Due → Due) (s : State) : State := s.setDue (f s.due)

/-- OPEN on the contacts, in a state of the sequencer. -/
def opened (f : Sequencer → Sequencer) : State :=
  withSeq f (withBrk (fun b => { b with accepted := .opened, prevPos := some (false, true) }) atWork)

/-- In OPENING after a trip of an origin, with TRIP_OUT asserted at time 0. -/
def opening (origin : TripOrigin) (eligible : Bool) : State :=
  withSeq (fun q => { q with state := .opening, lastTrip := some ⟨origin, eligible, 0, 7⟩ })
    (withBrk (fun b => { b with tripOut := true, tripMemo := some ⟨origin, 0⟩, tripTimer := some 150 }) atWork)

/-- In DEAD_TIME with an amount of the dead time left. -/
def deadTime (remaining : Nat) : State :=
  opened fun q => { q with state := .deadTime, shots := 1, loaded := some 10000, remaining := some remaining }

/-- In CLOSING with CLOSE_OUT asserted at time 0. -/
def closing : State :=
  withBrk (fun b => { b with closeOut := true, closeMemo := some ⟨.automatic, 0⟩, closeTimer := some 300 })
    (opened fun q => { q with state := .closing, shots := 2, closeOrigin := some .automatic })

/-- A condition record that is active in mode LIVE, with one action. -/
def activeRecord (a : Actions) : CondRec := ⟨true, false, .live, a⟩

/-- The state with a hard reason in force. -/
def barred (s : State) : State := withCond .liveLine (activeRecord ⟨true, false, true, false, false⟩) s

/-- The state with a hold reason in force. -/
def held (s : State) : State := withCond .hostHold (activeRecord ⟨false, true, false, false, false⟩) s

/-- A hunt in a state, in step 1 of a plan of two. -/
def hunting (f : Hunt → Hunt) : State :=
  withHunt
    (fun h =>
      f { h with
          origin := some .host, plan := some [⟨1, 1000⟩, ⟨1, 1000⟩], step := 1, startTime := some 0 })
    (withCond .huntActive (activeRecord ⟨true, false, true, false, false⟩) atWork)

/-- A hunt waiting for a SWITCH_DONE in OPENING, its wait run out. -/
def huntWaiting (plan : List HuntStep) : State :=
  hunting fun h =>
    { h with state := .opening, phase := some .answerWait, plan := some plan, switchTimer := some ⟨10000, 0⟩ }

/-- A hunt whose dwell has run out. -/
def huntDwelt : State :=
  hunting fun h => { h with state := .dwell, openStation := some 1, dwellTimer := some ⟨1000, 0⟩ }

/-- A hunt that waits for the closing of its station, the wait run out. -/
def huntRestoring : State :=
  hunting fun h =>
    { h with
      state := .restoring, phase := some .answerWait, openStation := some 1, switchTimer := some ⟨10000, 0⟩ }

/-- An up message of two cells whose delivery is due. -/
def delivering (address kind : Nat) (content : Word16) (s : State) : State :=
  withUp
    (fun u =>
      { u with
        stage := .holding, holder := some address, cells := [headerCell address kind 2, content],
        declared := some 2, lastPhase := some true, complete := true }) s

/-- A window of drive `n` from station `a`, with a grant state and an amount of time left. -/
def windowOf (n a : Nat) (g : GrantState) (remaining : Nat) : StartWindow := ⟨n, a, 0, 5000, remaining, g⟩

/-- The state with an open window, its drive's request WINDOW. -/
def windowed (n a : Nat) (g : GrantState) (remaining : Nat) (s : State) : State :=
  withAdm
    (fun x =>
      { x with
        window := some (windowOf n a g remaining)
        drives := x.drives.map fun d => if d.drive = n then { d with request := .window } else d }) s

/-- The state with drive `n` pending since time 0, for 60 s. -/
def asked (n : Nat) (s : State) : State :=
  withAdm
    (fun x =>
      { x with
        queue := x.queue ++ [n]
        drives := x.drives.map fun d => if d.drive = n then { d with request := .pending 0 60000 } else d }) s

/-- A down message QUERY of class POLL to an address. -/
def query (a : Nat) : DownMessage := queryMessage .poll a

/-- A frame of six words, the first most significant. -/
def frameOf (ia ib ic inn vn tail : Nat) : Nat :=
  ((((ia * 65536 + ib) * 65536 + ic) * 65536 + inn) * 65536 + vn) * 65536 + tail

/-- A measurement unit with a fill count and a phase, its windows holding zeros. -/
def filled (fill phase : Nat) (s : State) : State :=
  s.setMeas
    { s.meas with
      windows :=
        ⟨List.replicate fill ⟨0, false⟩, List.replicate fill ⟨0, false⟩, List.replicate fill ⟨0, false⟩,
         List.replicate fill ⟨0, false⟩, List.replicate fill ⟨0, false⟩⟩
      fill := fill
      phase := phase }

/-- The state with the latest evaluation record present, of time 0, with one hunt clear value. -/
def evaluated (q : Option Nat) (s : State) : State :=
  s.setMeas { s.meas with latest := { s.meas.latest with present := true, q := { s.meas.latest.q with huntClear := q } } }

/-- Squared multiples that are all absent. -/
def noMultiples : Multiples := State.reset.meas.latest.q

/-! ## Ill-formed commands -/

theorem test_frame_within_its_bits : (Instr.sampleSetArrival 96 (2 ^ 96)).wellFormed = false := by decide
theorem test_station_above_15 : (Instr.replyWaitExpiry 16).wellFormed = false := by decide
theorem test_station_0 : (Instr.replyWaitExpiry 0).wellFormed = false := by decide
theorem test_drive_above_7 : (Instr.requestLifetimeExpiry 8).wellFormed = false := by decide
theorem test_well_formed_edges :
    (Instr.sampleSetArrival 96 (2 ^ 96 - 1)).wellFormed = true ∧ (Instr.replyWaitExpiry 15).wellFormed = true ∧
    (Instr.requestLifetimeExpiry 7).wellFormed = true := by decide

/-- No row of the table has bits, so no word spells a command. -/
theorem test_no_word_spells_a_command : decodeTableWord 16 0 = none ∧ State.reset.withFetchWord 16 0 = State.reset :=
  ⟨rfl, rfl⟩

/-! ## The manual's numbers -/

/-- Table 1.6: the squared multiples for E = 4,000,000. -/
theorem test_squared_multiples :
    squaredMultiple 4000000 1000 = 1024 ∧ squaredMultiple 4000000 2500 = 163 ∧
    squaredMultiple 4000000 2060 = 241 ∧ squaredMultiple 4000000 2000 = 256 ∧
    squaredMultiple 4000000 8 = 65535 := by decide

/-- Section 1.6.1: the window slide. -/
theorem test_window_slide :
    slideSum true [⟨1200, false⟩] 128000000 ⟨-2828, false⟩ = 134557584 ∧ 134557584 / 32 = 4204924 := by decide

/-- Table 2.5: the example curve. -/
def curve0 : Curve :=
  { points :=
      [⟨256, 40⟩, ⟨289, 91⟩, ⟨324, 177⟩, ⟨400, 335⟩, ⟨484, 479⟩, ⟨576, 610⟩, ⟨676, 731⟩, ⟨784, 843⟩, ⟨1024, 1045⟩,
       ⟨1296, 1225⟩, ⟨1600, 1385⟩, ⟨2304, 1664⟩, ⟨4096, 2106⟩, ⟨6400, 2450⟩, ⟨16384, 3181⟩, ⟨65535, 4270⟩]
    resetRate := 10486 }

/-- Table 2.6: 101 points at twice pickup, T = 10. -/
theorem test_accumulator_fills :
    accStep (some curve0) 10 (some 1024) 0 = 10450 ∧ accStep (some curve0) 10 (some 1024) 1045000 = 1048576 := by
  decide

/-- Table 2.7: hold at Q = 235, reset at Q = 226. -/
theorem test_accumulator_holds_and_resets :
    accStep (some curve0) 10 (some 235) 627000 = 627000 ∧ accStep (some curve0) 10 (some 226) 627000 = 616514 ∧
    accStep (some curve0) 10 (some 226) 8326 = 0 := by decide

/-- CRC-16 of the digits 1 to 9, the usual check value of this generator and initial value. -/
theorem test_crc16 : crc16 [0x31, 0x32, 0x33, 0x34, 0x35, 0x36, 0x37, 0x38, 0x39] = 0x29B1 := by decide +kernel

/-- The built-in PLANT settings, written as an image and read again, are themselves but for the regime map. -/
theorem test_plant_defaults_round_trip : parsePlant (plantBytes plantDefaults) = plantDefaults := by decide +kernel

/-! ## One step of each family, with the manual's numbers -/

/-- A port in TRACKING whose last set carried a sequence number and was accepted at 5000 ms, 32 entries in each
window. -/
def sampled (seq : BitVec 4) (phase : Nat) (now : Time) : State :=
  ((filled 32 phase atWork).setPort { state := .tracking, lastSeq := some seq, lastArrival := 5000 }).setTime now

/-- A frame of zero samples with a sequence number (Table 1.1). -/
def zeroFrame (seq : Nat) : Nat := frameOf 0 0 0 0 0 (0xA500 + seq)

/-- R178: a power-on restart of the reset state is the reset state. -/
theorem test_restart_of_reset : after (.fullRestart .powerOn false false) State.reset = State.reset := by
  decide +kernel

/-- Table 0.9: the straps 1, 0. -/
theorem test_restart_reads_the_straps :
    (after (.fullRestart .pin true false) State.reset).host.lineRate = 460800 := by decide +kernel

/-- R109, R113: FIRE_STALE asserts ALARM_OUT once RESET_N is no longer low. -/
theorem test_alarm_released_in_reset :
    alarmOut (after (.fullRestart .pinHeld false false) State.reset) = false ∧
    alarmOut (after (.fullRestart .pin false false) State.reset) = true := by decide +kernel

/-- Table 1.9: no loss at a difference of 1, a loss at 2. -/
theorem test_loss_at_2_ms :
    (after .lossDeclared (sampled 3 0 5001)).port.state = .tracking ∧
    (after .lossDeclared (sampled 3 0 5002)).port = ⟨.lost, none, 5000⟩ := by decide +kernel

/-- Table 1.8: after 12 the number 14 is a gap, and after 15 comes 0. -/
theorem test_gap_and_wrap :
    (after (.sampleSetArrival 96 (zeroFrame 14)) (sampled 12 13 5001)).meas.fill = 1 ∧
    (after (.sampleSetArrival 96 (zeroFrame 0)) (sampled 15 13 5001)).meas.phase = 14 := by decide +kernel

/-- R77: a combination seen at two scans is accepted. -/
theorem test_second_scan_accepts :
    (after (.timeBaseEvent true false true) (State.reset.setBrk { State.reset.brk with prevPos := some (true, false) })).brk.accepted
      = .closed ∧
    (after (.timeBaseEvent true false true) State.reset).brk.accepted = .none := by decide +kernel

/-- R68, R95: TRIP from READY on a closed breaker. -/
theorem test_trip : firstReply (after .trip (headed .trip [] atWork)) = some (okReply (.tripResult .asserted .opening)) := by
  decide +kernel

/-- R96: the second guard of CLOSE on a closed breaker. -/
theorem test_close_not_open :
    firstReply (after .close (headed .close [] atWork)) = some (refusedFor .notOpen (.seqState .ready)) := by
  decide +kernel

/-- R97, R101: RESET_LOCKOUT before any position is accepted. -/
theorem test_reset_lockout_no_position :
    firstReply (after .resetLockout (headed .resetLockout [] State.reset)) =
      some (refusedFor .noPosition (.lockoutReset .lockout State.reset.mon.hard)) := by
  decide +kernel

/-- R174: ECHO answers complements. -/
theorem test_echo :
    firstReply (after .echo (headed .echo [0x0F, 0xA5] atWork)) = some (okReply (.bytes [0xF0, 0x5A])) := by decide +kernel

/-- R170: a payload of the wrong length. -/
theorem test_trip_with_payload : firstReply (after .trip (headed .trip [1] atWork)) = some (badArgument 0) := by
  decide +kernel

/-- Table 3.13 at 7,300,000: level 9 with validity 0 is stored as 5 for 240 min. -/
theorem test_fire_level_clamped :
    firstReply (after .setFireLevel (headed .setFireLevel [9, 0, 0] State.reset)) = some (okReply (.fireLevel (some 5) 240 5)) := by
  decide +kernel

/-- R59: a group whose image is not present, and group S by its index. -/
theorem test_select_group_refused :
    firstReply (after .selectGroup (headed .selectGroup [0] State.reset)) =
      some (refusedFor .notPresent (.group none none)) ∧
    firstReply (after .selectGroup (headed .selectGroup [7] State.reset)) =
      some (badArgumentWith 1 (.group none none)) := by decide +kernel

/-- R44: an image whose own CRC differs. -/
theorem test_load_bad_check :
    firstReply (after .loadImage (headed .loadImage [2, 0, 0, 1, 0, 0, 0] State.reset)) =
      some (loadReply .badCheck [2, 0, 0, 1, 0] none none) := by decide +kernel

/-- R141, R150: group S does not hunt, and no hunt runs at reset. -/
theorem test_hunt_commands_at_reset :
    firstReply (after .startHunt (headed .startHunt [] State.reset)) =
      some (refusedFor .huntDisabled (.huntState .idle)) ∧
    firstReply (after .stopHunt (headed .stopHunt [] State.reset)) =
      some (refusedFor .notRunning (.huntStopped .idle none)) := by
  decide +kernel

/-- R135, R158: STATIONS and DRIVES are not present at reset. -/
theorem test_unfit_images_at_reset :
    firstReply (after .pilotQuery (headed .pilotQuery [1] State.reset)) =
      some (refusedFor .stationsUnfit (.address 1)) ∧
    firstReply (after .requestStart (headed .requestStart [0] State.reset)) =
      some (refusedFor .drivesUnfit .empty) := by
  decide +kernel

/-- R173: START_UP and OVERRUN stay enabled. -/
theorem test_report_mask_of_zero :
    (after .setReportMask (headed .setReportMask [0, 0] atWork)).host.mask = 0x0401 := by decide +kernel

/-- R171: START_UP is the first record sent. -/
theorem test_start_up_is_sent_first :
    (after .transmissionStart State.reset).host.reports = [] ∧
    (after .transmissionStart State.reset).host.tx ≠ .idle := by decide +kernel

/-- R48: the scan event of 500 ms begins the check of PLANT. -/
theorem test_first_scan_event :
    (after .scanEvent (withDue (fun d => { d with scan := true }) State.reset)).store.checking = some .plant ∧
    (after .scanEvent (withDue (fun d => { d with scan := true }) State.reset)).store.scanPos = .stations := by decide +kernel

/-- R70: the trip timer's expiry at 150 ms. -/
theorem test_trip_timeout :
    (after .tripTimerExpiry ((opening .protection true).setTime 149)).brk.tripOut = true ∧
    (after .tripTimerExpiry ((opening .protection true).setTime 150)).mon.recs.breakerFail.active = true := by decide +kernel

/-- R83: the dead time's end closes, and a dead time with 1 ms left does not. -/
theorem test_dead_time_end :
    (after .deadTimerExpiry (deadTime 0)).brk.closeOut = true ∧ after .deadTimerExpiry (deadTime 1) = deadTime 1 := by
  decide +kernel

/-! ## Hypotheses met: queue, restarts, time base -/

theorem witness_StepRunsTheFrontCommand :
    (State.reset.setPending [.echo]).pending = .echo :: [] ∧ State.reset.pending = [] := ⟨rfl, rfl⟩

/-- RESTART FULL answered, at a 1 ms event, with both coils released. -/
def restarting : State := withDue (fun d => { d with restart := true }) (withHost (fun h => { h with restart := .fullSent }) atWork)

theorem witness_FullRestartLeavesRestartState :
    (restarting.host.restart = .fullSent ∧ restarting.due.restart = true ∧ restarting.brk.tripOut = false ∧
      restarting.brk.closeOut = false) ∧
    ((opening .manual false).brk.tripOut = true ∨ (opening .manual false).brk.closeOut = true) ∧
    (closing.brk.tripOut = true ∨ closing.brk.closeOut = true) := by decide

/-- A backing write of HUNT in flight. -/
def writing : State := atWork.setStore { atWork.store with write := some ⟨.hunt, [5, 0, 0, 1, 0], 0, 0⟩ }

/-- The backing copy of an image replaced. -/
def withBacking (i : ImageId) (b : Backing) : State :=
  updateImage i (fun x => { x with backing := b }) atWork

theorem witness_FullRestartLoadsBackingCopies :
    (writing.store.write = some ⟨.hunt, [5, 0, 0, 1, 0], 0, 0⟩ ∧ ImageId.hunt = .hunt) ∧
    (∀ w ∈ writing.store.write, w.image ≠ ImageId.drives) ∧
    (writing.store.images.get .drives).backing = .unwritten ∧
    ((withBacking .hunt (.written [1] 0xF1D1)).store.write = none ∧
      ((withBacking .hunt (.written [1] 0xF1D1)).store.images.get .hunt).backing = .written [1] 0xF1D1 ∧
      crc16 [1] = 0xF1D1) ∧
    ((withBacking .hunt (.spoiled 0)).store.write = none ∧
      ((withBacking .hunt (.spoiled 0)).store.images.get .hunt).backing = .spoiled 0) := by decide +kernel

/-- The contacts of the last scan are the accepted ones. -/
abbrev Steady (a b ready : Bool) (s : State) : Prop :=
  s.brk.prevPos = some (a, b) ∧ s.brk.accepted = positionOf a b ∧ s.brk.prevReady = some ready ∧
  s.brk.ready = readyOf ready

/-- In DEAD_TIME, held for an amount of hold time. -/
def heldDeadTime (used : Nat) : State := withSeq (fun q => { q with held := true, holdUsed := used }) (deadTime 10000)

/-- In RECLAIM with an amount of time left. -/
def reclaiming (remaining : Nat) : State :=
  withSeq (fun q => { q with state := .reclaim, loaded := some 10000, remaining := some remaining }) atWork

theorem witness_TimeBaseEventScansAndPaces :
    (Steady true false true (reclaiming 1) ∧ (reclaiming 1).seq.state = .reclaim) ∧
    (Steady false true true (deadTime 1) ∧ (deadTime 1).seq.state = .deadTime ∧ (deadTime 1).seq.held = false) ∧
    (Steady false true true (heldDeadTime 1000) ∧ (heldDeadTime 1000).seq.state = .deadTime ∧
      (heldDeadTime 1000).seq.held = true ∧
      (heldDeadTime 1000).settings.maxHold < (heldDeadTime 1000).seq.holdUsed + 1) ∧
    ¬(heldDeadTime 999).settings.maxHold < (heldDeadTime 999).seq.holdUsed + 1 ∧
    (Steady true false true atWork ∧ atWork.seq.state ≠ .deadTime ∧ atWork.seq.state ≠ .reclaim) := by decide

/-! ## Hypotheses met: sampling, measurement, protection -/

/-- The port tracking, its last set of sequence number 3. -/
def tracking (s : State) : State := s.setPort { state := .tracking, lastSeq := some 3, lastArrival := s.time }

/-- A set of sequence number 4, and one of 5. -/
def frame4 : Nat := frameOf 0 0 0 0 0 0xA504

/-- A set of sequence number 5. -/
def frame5 : Nat := frameOf 0 0 0 0 0 0xA505

theorem witness_FramesAreDiscardedOrTaken :
    (95 ≠ 96 ∧ 97 ≠ 96) ∧ (frameWord (frameOf 0 0 0 0 0 0xA404) 5).extractLsb' 8 8 ≠ 0xA5 ∧
    (frameWord (frameOf 0 0 0 0 0 0xA524) 5).extractLsb' 5 3 ≠ 0 ∧
    ((frameWord frame4 5).extractLsb' 8 8 = 0xA5 ∧ (frameWord frame4 5).extractLsb' 5 3 = 0 ∧
      (filled 30 0 (tracking atWork)).meas.fill < 31) ∧
    (32 ≤ (filled 32 14 (tracking atWork)).meas.fill ∧ (filled 32 14 (tracking atWork)).meas.phase < 15) ∧
    ((frameWord frame5 5).extractLsb' 8 8 = 0xA5 ∧ (filled 32 15 (tracking atWork)).port.state = .tracking ∧
      (filled 32 15 (tracking atWork)).port.lastSeq ≠ some ((sampleSetOf frame5).seq - 1)) := by decide +kernel

/-- The conditions under which a set of sequence number 4 raises an evaluation point. -/
abbrev Raises (s : State) : Prop :=
  frameWellFormed 96 frame4 = true ∧
  (s.port.state ≠ .tracking ∨ s.port.lastSeq = some ((sampleSetOf frame4).seq - 1)) ∧
  (s.meas.fill = 31 ∨ 32 ≤ s.meas.fill ∧ s.meas.phase = 15)

/-- A window of 31 entries whose sums stand for a large current in every channel. -/
def loud (s : State) : State :=
  (filled 31 0 s).setMeas { (filled 31 0 s).meas with sums := ⟨2 ^ 34, 2 ^ 34, 2 ^ 34, 0, 0⟩ }

/-- A part whose PH_HIGH operates at the next loud point. -/
def aboutToTrip : State := atWork.setProt { atWork.prot with phHigh := ⟨9, 0, 0⟩ }

/-- The state after the point that the set of sequence number 4 raises. -/
def atPoint (s : State) : State := after (.sampleSetArrival 96 frame4) s

/-- The entries of a trip at that point. -/
def pointTrips (s : State) : List TripEntry :=
  tripEntries (atPoint s).settings (atPoint s).meas.latest.q
    (stepValues (atPoint s).regime.inForce (atPoint s).meas.latest.q s.prot)

theorem witness_EvaluationPointReplacesTheRecord :
    Raises (filled 31 0 atWork) ∧ Raises (filled 32 15 (tracking atWork)) ∧
    (Raises (loud aboutToTrip) ∧ pointTrips (loud aboutToTrip) ≠ []) ∧
    (pointTrips (filled 31 0 atWork) = [] ∧ (filled 31 0 atWork).adm.window = none ∧
      (filled 31 0 atWork).seq.state = .ready ∧ (filled 31 0 atWork).brk.accepted = .closed ∧
      (atPoint (filled 31 0 atWork)).meas.latest.q.quiet = ⟨some 0, some 0, some 0⟩) ∧
    (Raises (filled 31 0 (windowed 0 0 .hostDrive 9 atWork)) ∧
      (filled 31 0 (windowed 0 0 .hostDrive 9 atWork)).adm.window.isSome = true) ∧
    (Raises (filled 31 0 closing) ∧ (filled 31 0 closing).seq.state ≠ .ready ∧
      (filled 31 0 closing).brk.accepted ≠ .closed) ∧
    (atPoint (loud atWork)).meas.latest.q.quiet = ⟨some 65535, some 65535, some 65535⟩ := by decide +kernel

/-- R14, R160, R33: a quiet point, a loud one, and one that trips. -/
theorem test_points_are_handed_on :
    (atPoint (filled 31 0 atWork)).adm.second = .quiet ∧ (atPoint (loud atWork)).adm.second = .spoiled ∧
    (atPoint (loud atWork)).prot.phHigh = ⟨1, 1, 1⟩ ∧ (atPoint (loud aboutToTrip)).brk.tripOut = true := by
  decide +kernel

theorem witness_SquaredMultipleOfAPickup : (8 ≤ 8 ∧ 8 ≤ 23170) ∧ (8 ≤ 23170 ∧ 23170 ≤ 23170) ∧ 16384 ≤ 16384 ∧
    2 ^ 30 ≤ 2 ^ 30 := by decide

theorem witness_LossFlushesAndZeroes :
    ((atWork.setTime 2).port.state ≠ .lost ∧ 2 ≤ elapsed (atWork.setTime 2).time (atWork.setTime 2).port.lastArrival) ∧
    elapsed (atWork.setTime 1).time (atWork.setTime 1).port.lastArrival < 2 ∧
    (atWork.setPort { atWork.port with state := .lost }).port.state = .lost := by decide

theorem witness_AccumulatorsMoveByTheBand :
    (231 ≤ 231 ∧ 255 ≤ 255) ∧ (230 < 231 ∧ curve0.resetRate ≠ 0) ∧ { curve0 with resetRate := 0 }.resetRate = 0 ∧
    atWork.prot.suspended = false ∧
    (256 ≤ 256 ∧ ⟨256, 40⟩ ∈ curve0.points ∧ 256 ≤ 256 ∧
      ∀ x ∈ curve0.points, x.threshold ≤ 256 → x.threshold < 256 ∨ x = ⟨256, 40⟩) := by decide

theorem witness_CountFollowsTheBand : 256 ≤ 256 ∧ (231 ≤ 231 ∧ 231 ≤ 255) ∧ (255 ≤ 255) ∧ 230 < 231 ∧
    atWork.prot.suspended = false := by decide

/-- Phase A far above the pickup of PH_HIGH. -/
def overcurrent : Multiples := { noMultiples with phHigh := ⟨some 65535, some 0, some 0⟩ }

/-- The state with PH_HIGH one picked-up point before its delay. -/
def armed (s : State) : State := s.setProt { s.prot with phHigh := ⟨9, 0, 0⟩ }

/-- A trip element operates at the point of `overcurrent`, and HUNT_ACTIVE stands with the hunt. -/
abbrev Trips (s : State) : Prop :=
  tripEntries s.settings overcurrent (stepValues s.regime.inForce overcurrent s.prot) ≠ [] ∧
  s.mon.recs.huntActive.active = (s.hunt.state != .idle)

theorem witness_TripZeroesAndSuspends :
    (Trips (armed atWork) ∧ atWork.brk.accepted ≠ .opened ∧ atWork.seq.state = .ready) ∧
    (Trips (armed huntDwelt) ∧ huntDwelt.hunt.state = .dwell) ∧
    (Trips (armed (withBrk (fun b => { b with accepted := .travel }) closing)) ∧ closing.seq.state = .closing) ∧
    (Trips (armed closing) ∧ closing.brk.accepted = .opened) ∧
    (Trips (armed (reclaiming 5)) ∧ (reclaiming 5).seq.state = .reclaim ∧ (reclaiming 5).brk.accepted ≠ .opened) ∧
    (Trips (armed (deadTime 5)) ∧ (deadTime 5).seq.state = .deadTime) ∧
    (Trips (armed (opening .manual false)) ∧ (opening .manual false).seq.state = .opening ∧
      (opening .manual false).seq.lastTrip = some ⟨.manual, false, 0, 7⟩) ∧
    (Trips (armed (withSeq (enterLockout .manualTrip) atWork)) ∧
      (withSeq (enterLockout .manualTrip) atWork).seq.state = .lockout) ∧
    { atWork.prot with suspended := true }.suspended = true ∧
    { groupS.sef with mode := SefMode.trip }.mode = .trip := by decide +kernel

/-! ## Hypotheses met: breaker, sequencer, conditions -/

theorem witness_CoilOutputsAreReleased :
    (((opening .protection true).setTime 150).brk.tripTimer = some 150 ∧
      ((opening .protection true).setTime 150).brk.tripMemo = some ⟨.protection, 0⟩ ∧
      150 ≤ elapsed ((opening .protection true).setTime 150).time 0 ∧
      ((opening .protection true).setTime 150).seq.state = .opening ∧
      ((opening .protection true).setTime 150).mon.recs.breakerFail.active = false) ∧
    ((closing.setTime 300).brk.closeTimer = some 300 ∧ (closing.setTime 300).brk.closeMemo = some ⟨.automatic, 0⟩ ∧
      300 ≤ elapsed (closing.setTime 300).time 0 ∧ MonitorConsistent (closing.setTime 300) ∧
      (closing.setTime 300).seq.state = .closing) ∧
    ((withBrk (fun b => { b with prevPos := some (false, true) }) (opening .protection true)).brk.prevPos =
        some (false, true) ∧
      (opening .protection true).brk.accepted ≠ .opened ∧ (opening .protection true).brk.tripMemo.isSome = true) := by
  decide +kernel

theorem witness_DeadTimeEnds :
    ((deadTime 0).seq.state = .deadTime ∧ (deadTime 0).seq.held = false ∧ (deadTime 0).seq.remaining = some 0 ∧
      (deadTime 0).seq.shots < (deadTime 0).settings.shotLimit ∧ (deadTime 0).brk.tripOut = false ∧
      (deadTime 0).mon.hard = [] ∧ (deadTime 0).brk.accepted = .opened ∧ (deadTime 0).brk.closeOut = false) ∧
    (withSeq (fun q => { q with shots := 3 }) (deadTime 0)).settings.shotLimit ≤
      (withSeq (fun q => { q with shots := 3 }) (deadTime 0)).seq.shots ∧
    ((barred (deadTime 0)).seq.shots < (barred (deadTime 0)).settings.shotLimit ∧
      (barred (deadTime 0)).brk.tripOut = false ∧ (barred (deadTime 0)).mon.hard = [.liveLine]) := by decide +kernel

/-- R84, R85: a maximum hold of 1000 ms locks out at the 1001st held 1 ms event. -/
theorem test_hold_exceeded :
    (after .holdExceeded (after (.timeBaseEvent false true true) (heldDeadTime 1000))).seq.cause =
      some (.holdExceeded 1001 1000) ∧
    (after .holdExceeded (after (.timeBaseEvent false true true) (heldDeadTime 999))).seq.state = .deadTime := by
  decide +kernel

/-- Held in DEAD_TIME, the maximum hold exceeded at the last 1 ms event. -/
def overHeld : State := withDue (fun d => { d with holdOver := some 1000 }) (heldDeadTime 1001)

theorem witness_HoldAndReclaimEnd :
    (heldDeadTime 1001).due.holdOver = none ∧
    (overHeld.seq.state = .deadTime ∧ overHeld.due.holdOver = some 1000) ∧
    ((reclaiming 0).seq.state = .reclaim ∧ (reclaiming 0).seq.remaining = some 0) := by decide

/-- OPEN on the contacts at one scan. -/
def scanned (s : State) : State := withBrk (fun b => { b with prevPos := some (false, true) }) s

/-- In OPENING under a group without a maximum hold. -/
def noHold : State :=
  (opening .protection true).setRegime
    { atWork.regime with inForce := ⟨{ busyGroup with maxHold := 0 }, none, none⟩ }

theorem witness_OpenIsJudgedInOrder :
    ((opening .manual false).seq.state = .opening ∧
      (opening .manual false).seq.lastTrip = some ⟨.manual, false, 0, 7⟩) ∧
    (opening .protection false).seq.lastTrip = some ⟨.protection, false, 0, 7⟩ ∧
    ((opening .protection true).seq.state = .opening ∧
      (opening .protection true).seq.lastTrip = some ⟨.protection, true, 0, 7⟩ ∧
      (opening .protection true).seq.shots < (opening .protection true).settings.shotLimit ∧
      (opening .protection true).mon.hard = [] ∧ (opening .protection true).mon.hold = []) ∧
    (withSeq (fun q => { q with shots := 3 }) (opening .protection true)).settings.shotLimit ≤
      (withSeq (fun q => { q with shots := 3 }) (opening .protection true)).seq.shots ∧
    (barred (opening .protection true)).mon.hard = [.liveLine] ∧
    ((held (opening .protection true)).mon.hold = [.hostHold] ∧
      (held (opening .protection true)).settings.maxHold ≠ 0) ∧
    ((held noHold).mon.hold = [.hostHold] ∧ (held noHold).settings.maxHold = 0 ∧
      (held noHold).seq.shots < (held noHold).settings.shotLimit ∧ (held noHold).mon.hard = []) ∧
    ((scanned (opening .protection true)).seq.state = .opening ∧
      (scanned (opening .protection true)).seq.lastTrip = some ⟨.protection, true, 0, 7⟩ ∧
      (scanned (opening .protection true)).brk.prevPos = some (false, true) ∧
      (scanned (opening .protection true)).brk.accepted ≠ .opened ∧
      (scanned (opening .protection true)).brk.accepted ≠ .none ∧
      (scanned (opening .protection true)).mon.recs.breakerFail.active = false ∧
      ((scanned (opening .protection true)).brk.prevReady = some true →
        (scanned (opening .protection true)).brk.ready = readyOf true) ∧
      (scanned (opening .protection true)).adm.window = none) := by decide +kernel

/-- R81: the second scan of OPEN after an eligible trip begins the dead time. -/
theorem test_open_begins_the_dead_time :
    (after (.timeBaseEvent false true true) (scanned (opening .protection true))).seq.state = .deadTime ∧
    (after (.timeBaseEvent false true true) (scanned (opening .protection false))).seq.cause = some .notEligible := by
  decide +kernel

theorem witness_OwnerReportLatchesAndDerives :
    (atWork.mon.recs.get .hostHold).active = false ∧ (atWork.mon.recs.get .hostHold).active ≠ true ∧
    ((ownerReport .stationSilent true atWork).mon.hard = atWork.mon.hard ∧
      (ownerReport .stationSilent true atWork).mon.hold = atWork.mon.hold) ∧
    (MonitorConsistent (deadTime 1) ∧ ((deadTime 1).mon.recs.get .liveLine).active = false ∧
      ((deadTime 1).mon.recs.get .liveLine).inForce = false ∧
      ((deadTime 1).mon.recs.get .liveLine).actions.blockHard = true ∧ (deadTime 1).seq.state = .deadTime) ∧
    (MonitorConsistent closing ∧ (closing.mon.recs.get .liveLine).active = false ∧
      (closing.mon.recs.get .liveLine).inForce = false ∧ (closing.mon.recs.get .liveLine).actions.blockHard = true ∧
      closing.seq.state = .closing) := by decide +kernel

/-! ## Hypotheses met: settings store and regime unit -/

/-- A check of HUNT in progress at a scan event, its working copy good or with a wrong CRC. -/
def scanning (crc : Word16) : State :=
  withDue (fun d => { d with scan := true })
    (updateImage .hunt (fun x => { x with storedCrc := crc })
      (atWork.setStore { atWork.store with checking := some .hunt, scanPos := .drives }))

theorem witness_ChecksOfWorkingCopies :
    ((scanning 0).due.scan = true ∧ (scanning 0).store.checking = some .hunt ∧
      ((scanning 0).store.images.get .hunt).present = true ∧ ((scanning 0).store.images.get .hunt).valid = true ∧
      crc16 ((scanning 0).store.images.get .hunt).working ≠ ((scanning 0).store.images.get .hunt).storedCrc) ∧
    ((withDue (fun d => { d with scan := true }) atWork).due.scan = true ∧
      (withDue (fun d => { d with scan := true }) atWork).store.checking = none) ∧
    (HeadIs .checkImages (cmd .checkImages []) [] (headed .checkImages [] atWork) ∧
      (cmd .checkImages []).payload = []) := by decide +kernel

/-- A LOAD_IMAGE of a content with its CRC. -/
def loading (content : List Byte) (s : State) : State := headed .loadImage (content ++ byte2 (crc16 content).toNat) s

/-- A STATIONS image with no entry. -/
def noStations : List Byte := [2, 0, 0, 1, 0]

/-- A STATIONS image that lists an address above 15. -/
def badStations : List Byte := [2, 0, 0, 3, 1, 16, 0]

theorem witness_LoadImageIsJudged :
    (HeadIs .loadImage (cmd .loadImage (noStations ++ [0x66, 0xBE])) [] (loading noStations State.reset) ∧
      crc16 noStations = word16 0x66 0xBE ∧ rangeFailure noStations = none ∧
      crossFailure (loading noStations State.reset).store.images noStations = none ∧
      (loading noStations State.reset).store.write = none ∧
      ImageId.ofKindIndex (u8 noStations 0) (u8 noStations 1) = some .stations) ∧
    crc16 noStations ≠ word16 0 0 ∧
    rangeFailure badStations = some 2 ∧
    (rangeFailure noStations = none ∧ crossFailure atWork.store.images noStations = some (255, some 5)) ∧
    (crossFailure State.reset.store.images noStations = none ∧ writing.store.write.isSome = true) := by
  decide +kernel

theorem witness_BackingWriteCompletes :
    writing.store.write = some ⟨.hunt, [5, 0, 0, 1, 0], 0, 0⟩ ∧ atWork.store.write = none := by decide

/-- A PLANT image whose season flag is OFF. -/
def seasonOff (s : State) : State :=
  s.setStore
    { s.store with
      images :=
        s.store.images.set .plant (image (plantBytes { plantDefaults with season := false, regimeMap := [0, 0, 0, 0, 0, 0] })) }

theorem witness_EffectiveLevelFollowsTheTable :
    (Raises (filled 31 0 atWork) ∧ (filled 31 0 atWork).plant.season = true ∧
      (filled 31 0 atWork).regime.fire.level = none) ∧
    (Raises (filled 31 0 (seasonOff atWork)) ∧ (filled 31 0 (seasonOff atWork)).plant.season = false) ∧
    (atWork.setRegime { atWork.regime with fire := { atWork.regime.fire with level := some 3 } }).regime.fire.level =
      some 3 ∧
    commandRestartDue restarting = true ∧
    ((∀ nbits frame, Instr.trip ≠ .sampleSetArrival nbits frame) ∧
      (∀ cause baud1 baud0, Instr.trip ≠ .fullRestart cause baud1 baud0) ∧
      (∀ baud1 baud0, Instr.trip ≠ .fullRestartByCommand baud1 baud0)) := by
  refine ⟨by decide +kernel, by decide +kernel, rfl, rfl, ?_, ?_, ?_⟩ <;> simp

/-- A stored fire level of a validity in minutes, set at time 0, at a time. -/
def fireLevel (validity : Nat) (now : Time) : State :=
  (atWork.setTime now).setRegime
    { atWork.regime with fire := { atWork.regime.fire with level := some 3, validity := validity } }

theorem witness_FireLevelIsStoredAndExpires :
    (HeadIs .setFireLevel (cmd .setFireLevel [3, 5, 160]) [] (headed .setFireLevel [3, 5, 160] atWork) ∧
      (5 : Byte).toNat * 256 + (160 : Byte).toNat ≤ 1440) ∧
    (HeadIs .setFireLevel (cmd .setFireLevel [3, 5, 161]) [] (headed .setFireLevel [3, 5, 161] atWork) ∧
      1440 < (5 : Byte).toNat * 256 + (161 : Byte).toNat) ∧
    ((fireLevel 1 60000).regime.fire.level = some 3 ∧ (fireLevel 1 60000).regime.fire.expired = false ∧
      (fireLevel 1 60000).regime.fire.validity * 60000 ≤
        elapsed (fireLevel 1 60000).time (fireLevel 1 60000).regime.fire.setTime) ∧
    elapsed (fireLevel 1 59999).time (fireLevel 1 59999).regime.fire.setTime <
      (fireLevel 1 59999).regime.fire.validity * 60000 := by decide

/-- A stored group 1 of a rank, with no inverse-time element enabled. -/
def withGroup1 (rank : Byte) : State :=
  updateImage .group1 (fun _ => image ([4, 1, 0, 68, 0, 1, rank] ++ List.replicate 65 0)) atWork

theorem witness_SelectGroupIsJudged :
    (HeadIs .selectGroup (cmd .selectGroup [1]) [] (headed .selectGroup [1] (withGroup1 5)) ∧ (1 : Byte).toNat ≤ 3 ∧
      unfitness (withGroup1 5).store.images (withGroup1 5).regime.fire.effective 1 = none) ∧
    unfitness (withGroup1 4).store.images (withGroup1 4).regime.fire.effective 1 = some .rankLow ∧
    unfitness atWork.store.images atWork.regime.fire.effective 3 = some .notPresent ∧
    (HeadIs .selectGroup (cmd .selectGroup [4]) [] (headed .selectGroup [4] atWork) ∧ 3 < (4 : Byte).toNat ∧
      (4 : Byte).toNat ≠ 255 ∧ 3 < (254 : Byte).toNat ∧ (254 : Byte).toNat ≠ 255) ∧
    HeadIs .selectGroup (cmd .selectGroup [255]) [] (headed .selectGroup [255] atWork) ∧
    (ImageId.ofGroup 0 = some .group0 ∧ ImageId.ofGroup 3 = some .group3) := by decide +kernel

/-! ## Hypotheses met: pilot bus -/

/-- An up half made of its first 24 bits and their check. -/
def upHalf (fields : BitVec 24) : BitVec 32 := fields ++ crc8 (bitsMsb fields)

/-- No bid, down-TAKE active with phase 0. -/
def echo0 : BitVec 32 := upHalf 0xF00002

/-- No bid, down-TAKE idle. -/
def noTake : BitVec 32 := upHalf 0xF00000

/-- A bid of station 1, and one of station 2. -/
def bid1 : BitVec 32 := upHalf 0x180000

/-- A bid of station 2, which is not listed. -/
def bid2 : BitVec 32 := upHalf 0x280000

/-- At a slot event, with a message on offer. -/
def offering (m : DownMessage) (cell echoLooks idleLooks : Nat) (echoSeen : Bool) : State :=
  withDue (fun d => { d with slot := true })
    (withDown
      (fun d =>
        { d with
          stage := .offering, msg := some m, cell := cell, echoLooks := echoLooks, idleLooks := idleLooks,
          echoSeen := echoSeen, slotsOffered := 49, loadedTake := 50 }) atWork)

theorem witness_SlotEventSettlesTheDownHalf :
    ((offering (query 1) 1 0 0 false).due.slot = true ∧ (offering (query 1) 1 0 0 false).pilot.down.stage = .offering ∧
      (offering (query 1) 1 0 0 false).pilot.down.msg = some (query 1)) ∧
    (withDue (fun d => { d with slot := true }) (delivering 1 9 1 atWork)).pilot.up.stage = .holding ∧
    (withDue (fun d => { d with slot := true }) (delivering 1 9 1 atWork)).pilot.up.lastPhase = some true ∧
    atWork.pilot.up.stage = .openToContest ∧ atWork.pilot.down.stage ≠ .offering ∧
    State.reset.pilot.up.stage = .closed ∧
    (withUp refuseUp atWork).pilot.up.stage = .refusing := by decide

theorem witness_UpHalvesDecideTheCell :
    (upHalfValid 0x00000001 = false ∧ upHalfValid 0xFFFFFFFF = false) ∧
    ((offering (query 1) 1 1 0 true).due.slot = true ∧
      (offering (query 1) 1 1 0 true).pilot.half = some ⟨true, 0, false, false, 0, false, false⟩ ∧
      (offering (query 1) 1 1 0 true).pilot.down.stage = .offering ∧
      (offering (query 1) 1 1 0 true).pilot.down.msg = some (query 1) ∧
      (offering (query 1) 1 1 0 true).pilot.down.slotsOffered <
        (offering (query 1) 1 1 0 true).pilot.down.loadedTake ∧
      readUpHalf echo0 = some ⟨15, false, false, 0, true, false⟩ ∧
      (offering (query 1) 1 1 0 true).pilot.down.phase = false ∧
      (offering (query 1) 1 1 0 true).pilot.down.echoLooks = 1 ∧ (query 1).cells.length ≤ 1) ∧
    ((offering (grantMessage 4 1 6000) 2 1 0 true).pilot.down.msg = some (grantMessage 4 1 6000) ∧
      (offering (grantMessage 4 1 6000) 2 1 0 true).pilot.down.cell < (grantMessage 4 1 6000).cells.length) ∧
    (readUpHalf noTake = some ⟨15, false, false, 0, false, false⟩ ∧
      (offering (query 1) 1 0 1 true).pilot.down.echoSeen = true ∧
      (offering (query 1) 1 0 1 true).pilot.down.idleLooks = 1) := by decide +kernel

/-- A slot event in OPEN_TO_CONTEST, the cool-down naming station 1 with an amount of slots left. -/
def contested (left : Nat) : State :=
  withDue (fun d => { d with slot := true }) (withUp (fun u => { u with coolDown := some ⟨1, left⟩ }) atWork)

/-- Two messages waiting: a QUERY that joined first, and an OPEN of the hunt. -/
def twoWaiting : State :=
  withDue (fun d => { d with slot := true })
    (atWork.setPilot
      { atWork.pilot with queue := [⟨query 1, false⟩] ++ huntEntry .openSwitch 1 :: [⟨query 4, false⟩] })

/-- At a slot event, one message waiting. -/
def onlyWaiting (m : DownMessage) (s : State) : State :=
  withDue (fun d => { d with slot := true }) (s.setPilot { s.pilot with queue := [⟨m, false⟩] })

theorem witness_SlotEventChoosesHolderAndMessage :
    ((contested 0).due.slot = true ∧ (contested 0).pilot.half = some ⟨true, 0, false, false, 0, false, false⟩ ∧
      (contested 0).pilot.up.stage = .openToContest ∧ readUpHalf bid1 = some ⟨1, true, false, 0, false, false⟩ ∧
      (∃ x ∈ (contested 0).pilot.stations, x.address = 1) ∧ (contested 0).pilot.up.coolDown = some ⟨1, 0⟩) ∧
    (readUpHalf bid2 = some ⟨2, true, false, 0, false, false⟩ ∧ ∀ x ∈ (contested 0).pilot.stations, x.address ≠ 2) ∧
    (contested 1).pilot.up.coolDown = some ⟨1, 1⟩ ∧
    (twoWaiting.due.slot = true ∧ twoWaiting.pilot.down.stage = .freeChannel ∧
      twoWaiting.pilot.queue = [⟨query 1, false⟩] ++ huntEntry .openSwitch 1 :: [⟨query 4, false⟩] ∧
      (∀ x ∈ [(⟨query 1, false⟩ : QueueEntry)], (huntEntry .openSwitch 1).msg.cls.order < x.msg.cls.order) ∧
      ∀ x ∈ [(⟨query 4, false⟩ : QueueEntry)], (huntEntry .openSwitch 1).msg.cls.order ≤ x.msg.cls.order) ∧
    (query 1).cls = .poll ∧ (queryMessage .host 1).cls = .host ∧ (grantMessage 4 1 5000).cls = .admission ∧
    (huntEntry .openSwitch 1).msg.cls = .hunt ∧
    (∀ m ∈ [query 1, queryMessage .host 1, grantMessage 4 1 5000],
      (onlyWaiting m atWork).due.slot = true ∧ (onlyWaiting m atWork).pilot.down.stage = .freeChannel ∧
      (onlyWaiting m atWork).pilot.queue = [] ++ ⟨m, false⟩ :: []) := by decide +kernel

/-- Station 1 holds the up channel, without progress for a number of slots. -/
def holding (noProgress : Nat) : State :=
  withUp (fun u => { u with stage := .holding, holder := some 1, noProgress := noProgress }) atWork

/-- The last refusing slot has passed. -/
def refused : State := withUp (fun u => { u with stage := .refusing, holder := some 1, refusalShown := true }) atWork

theorem witness_PilotTimeoutsAndEnds :
    ((withDown (fun d => { d with slotsOffered := 50 }) (offering (query 1) 1 0 0 false)).pilot.down.stage = .offering ∧
      (withDown (fun d => { d with slotsOffered := 50 }) (offering (query 1) 1 0 0 false)).pilot.down.loadedTake ≤
        (withDown (fun d => { d with slotsOffered := 50 }) (offering (query 1) 1 0 0 false)).pilot.down.slotsOffered) ∧
    ((holding 250).pilot.up.stage = .holding ∧ (holding 250).pilot.up.complete = false ∧
      250 ≤ (holding 250).pilot.up.noProgress ∧ (holding 250).pilot.up.holder = some 1) ∧
    (refused.pilot.up.stage = .refusing ∧ refused.pilot.up.refusalShown = true ∧ refused.pilot.up.refusingLeft = 0) ∧
    ((contested 0).pilot.up.coolDown = some ⟨1, 0⟩ ∧ (contested 1).pilot.up.coolDown = some ⟨1, 1⟩ ∧ 1 ≠ 0) := by
  decide

/-- The second idle slot of a message has passed, with its outcome. -/
def ended (m : Option DownMessage) (o : Option DownOutcome) (s : State) : State :=
  withDown (fun d => { d with stage := .ending, endingLeft := 0, msg := m, outcome := o }) s

/-- Station 1's QUERY in flight. -/
def queried : State := updateStation 1 (fun x => { x with answer := .inFlight }) atWork

/-- The hunt's OPEN in flight. -/
def huntSent : State :=
  hunting fun h => { h with state := .opening, phase := some .sent, outstanding := some ⟨.openSwitch, 1, true, false⟩ }

/-- The ENDING of a message of a class with two idle slots passed, and its outcome. -/
abbrev Ends (c : DownClass) (o : DownOutcome) (s : State) : Prop :=
  s.pilot.down.stage = .ending ∧ s.pilot.down.endingLeft = 0 ∧ (∃ m ∈ s.pilot.down.msg, m.cls = c) ∧
  s.pilot.down.outcome = some o

/-- A message of the hunt, or of the admission unit, at its end with an outcome. -/
def huntEnded (o : DownOutcome) (s : State) : State := ended (some (huntMessage .openSwitch 1)) (some o) s

/-- The GRANT or RELEASE of drive 1 at its end with an outcome. -/
def startEnded (k : DownKind) (stale : Bool) (o : DownOutcome) (s : State) : State :=
  ended (some (if k = .grant then grantMessage 4 1 5000 else releaseMessage 4 1)) (some o)
    (withAdm (fun a => { a with outstanding := some ⟨if k = .grant then .grant else .release, 1, 4, true, stale⟩ }) s)

/-- A RELEASE due for drive 1. -/
def dueRelease (s : State) : State := withAdm (fun a => { a with releaseDue := some ⟨1, 4⟩ }) s

/-- The hunt's message in flight has become STALE, in a state and phase of the next step. -/
def huntStale (state : HuntState) (phase : Option StepPhase) : State :=
  hunting fun h => { h with state := state, phase := phase, outstanding := some ⟨.openSwitch, 1, true, true⟩ }

/-- The hunt's CLOSE in flight. -/
def huntClosing : State :=
  hunting fun h =>
    { h with
      state := .restoring, phase := some .sent, openStation := some 1, outstanding := some ⟨.closeSwitch, 1, true, false⟩ }

/-- The slot event that ended the message is current. -/
def inSlot (s : State) : State := withDue (fun d => { d with inSlot := true }) s

theorem witness_DownMessageEnd_query :
    (Ends .poll .delivered (ended (some (query 1)) (some .delivered) queried) ∧
      findStation (ended (some (query 1)) (some .delivered) queried) 1 =
        some { station 1 .sectionaliser with answer := .inFlight }) ∧
    (Ends .poll .noTake (ended (some (query 1)) (some .noTake) queried) ∧ DownOutcome.noTake ≠ .delivered) ∧
    (Ends .host .refused (ended (some (queryMessage .host 4)) (some .refused) queried) ∧
      findStation (ended (some (queryMessage .host 4)) (some .refused) queried) 4 = some (station 4 .drivePanel) ∧
      (station 4 .drivePanel).answer = .none) ∧
    findStation (updateStation 1 (fun x => { x with answer := .answered }) atWork) 1 =
      some { station 1 .sectionaliser with answer := .answered } := by decide +kernel

theorem witness_DownMessageEnd_hunt :
    (Ends .hunt .noTake (huntEnded .noTake (huntStale .settling none)) ∧
      (huntStale .settling none).hunt.phase ≠ some .held) ∧
    ((huntStale .opening (some .held)).hunt.phase = some .held ∧
      keptFree (huntStale .opening (some .held)).pilot.queue .hunt = true ∧
      (huntStale .restoring (some .held)).hunt.state = .restoring) ∧
    (Ends .hunt .delivered (huntEnded .delivered huntSent) ∧
      huntSent.hunt.outstanding = some ⟨.openSwitch, 1, true, false⟩ ∧ huntSent.hunt.phase = some .sent ∧
      huntSent.hunt.state = .opening) ∧
    (Ends .hunt .refused (huntEnded .refused huntSent) ∧
      (huntSent.hunt.plan.getD []).drop huntSent.hunt.step = ⟨1, 1000⟩ :: [] ∧ stationAnswers huntSent 1 = true ∧
      keptFree huntSent.pilot.queue .hunt = true) ∧
    ((withHunt (fun h => { h with step := 2 }) huntSent).hunt.plan.getD []).drop 2 = [] ∧
    (huntClosing.hunt.outstanding = some ⟨.closeSwitch, 1, true, false⟩ ∧ huntClosing.hunt.phase = some .sent ∧
      huntClosing.hunt.state = .restoring) := by decide +kernel

theorem witness_DownMessageEnd_admission :
    (Ends .admission .delivered (startEnded .grant false .delivered (windowed 1 4 .inFlight 9 atWork)) ∧
      (startEnded .grant false .delivered (windowed 1 4 .inFlight 9 atWork)).adm.outstanding =
        some ⟨.grant, 1, 4, true, false⟩ ∧
      (windowed 1 4 .inFlight 9 atWork).adm.releaseDue = none) ∧
    (Ends .admission .noTake (startEnded .grant false .noTake (windowed 1 4 .inFlight 9 atWork)) ∧
      (windowed 1 4 .inFlight 9 atWork).adm.window = some (windowOf 1 4 .inFlight 9)) ∧
    (Ends .admission .delivered (startEnded .grant true .delivered (dueRelease atWork)) ∧
      (dueRelease atWork).adm.releaseDue = some ⟨1, 4⟩ ∧ keptFree (dueRelease atWork).pilot.queue .admission = true) ∧
    (Ends .admission .refused (startEnded .grant true .refused (dueRelease atWork)) ∧
      ∀ w ∈ (dueRelease atWork).adm.window, w.grant ≠ .held) ∧
    (windowed 0 4 .held 9 atWork).adm.window = some (windowOf 0 4 .held 9) ∧
    (Ends .admission .delivered (startEnded .release false .delivered atWork) ∧
      (startEnded .release false .delivered atWork).adm.outstanding = some ⟨.release, 1, 4, true, false⟩) ∧
    Ends .admission .noTake (startEnded .release false .noTake atWork) := by decide +kernel

theorem witness_DownMessageEndHandsItsOutcome :
    ((ended none none atWork).pilot.down.stage = .ending ∧ (ended none none atWork).pilot.down.endingLeft = 0 ∧
      (ended none none atWork).pilot.down.msg = none ∧ (ended none none atWork).due.inSlot = false) ∧
    ((inSlot (huntEnded .delivered huntSent)).due.inSlot = true ∧
      (endMessage (inSlot (huntEnded .delivered huntSent))).pilot.queue = []) ∧
    ((inSlot (ended none none twoWaiting)).due.inSlot = true ∧
      (endMessage (inSlot (ended none none twoWaiting))).pilot.queue =
        [⟨query 1, false⟩] ++ huntEntry .openSwitch 1 :: [⟨query 4, false⟩]) := by decide +kernel

/-- An outcome that itself hands the next message to the queue, in the slot event: the next OPEN of a hunt, a RELEASE
due, and a GRANT held back. -/
theorem witness_DownMessageEnd_next :
    ((inSlot (huntEnded .noTake huntSent)).due.inSlot = true ∧ Ends .hunt .noTake (inSlot (huntEnded .noTake huntSent)) ∧
      (endMessage (inSlot (huntEnded .noTake huntSent))).pilot.queue = [] ++ huntEntry .openSwitch 1 :: []) ∧
    (Ends .admission .delivered (inSlot (startEnded .grant true .delivered (dueRelease atWork))) ∧
      (endMessage (inSlot (startEnded .grant true .delivered (dueRelease atWork)))).pilot.queue =
        [] ++ ⟨releaseMessage 4 1, true⟩ :: []) ∧
    (Ends .admission .delivered (inSlot (startEnded .release false .delivered (windowed 0 4 .held 9 atWork))) ∧
      (endMessage (inSlot (startEnded .release false .delivered (windowed 0 4 .held 9 atWork)))).pilot.queue =
        [] ++ ⟨grantMessage 4 0 5000, true⟩ :: []) ∧
    (∀ c ∈ [DownClass.poll, .host],
      (endMessage (inSlot (ended (some (query 1)) (some .delivered)
        (queried.setPilot { queried.pilot with queue := [⟨queryMessage c 4, false⟩] })))).pilot.queue =
          [] ++ ⟨queryMessage c 4, false⟩ :: []) := by decide +kernel

/-- R119, R144: a step whose OPEN found no taker hands on in the same slot event to the next step, whose OPEN is put in
flight. -/
theorem test_next_open_goes_into_flight :
    (after .downMessageEnd (inSlot (huntEnded .noTake huntSent))).pilot.down.stage = .offering ∧
    (after .downMessageEnd (inSlot (huntEnded .noTake huntSent))).hunt.outstanding =
      some ⟨.openSwitch, 1, true, false⟩ := by decide +kernel

theorem witness_StatusUpdatesItsStation :
    (dueMessage (delivering 1 9 0x32 atWork) = some (.status, 1, 0x32) ∧
      findStation (delivering 1 9 0x32 atWork) 1 = some (station 1 .sectionaliser)) ∧
    (dueMessage (delivering 1 9 0x32 queried) = some (.status, 1, 0x32) ∧
      findStation (delivering 1 9 0x32 queried) 1 = some { station 1 .sectionaliser with answer := .inFlight }) := by
  decide +kernel

theorem witness_SwitchDoneEntersDwell :
    dueMessage (delivering 1 10 0 (huntWaiting [⟨1, 1000⟩])) = some (.switchDone, 1, 0) ∧
    findStation (delivering 1 10 0 (huntWaiting [⟨1, 1000⟩])) 1 = some (station 1 .sectionaliser) ∧
    (0 : Word16).extractLsb' 0 2 = 0 ∧ (huntWaiting [⟨1, 1000⟩]).hunt.state = .opening ∧
    (huntWaiting [⟨1, 1000⟩]).hunt.phase = some .answerWait ∧
    (currentStep (huntWaiting [⟨1, 1000⟩])).station = 1 ∧
    (∀ x ∈ (huntWaiting [⟨1, 1000⟩]).pilot.stations, x.presence ≠ .silent) ∧
    (huntWaiting [⟨1, 1000⟩]).mon.recs.stationSilent.active = false := by decide +kernel

/-- The poll timer run out, the cursor at an address. -/
def polling (cursor : Option Nat) : State :=
  atWork.setPilot { atWork.pilot with pollRemaining := 0, cursor := cursor }

/-- Six QUERYs in the open places. -/
def fullQueue (s : State) : State :=
  s.setPilot { s.pilot with queue := List.replicate 6 ⟨query 4, false⟩ }

/-- STATIONS not valid, a holding cut off by it still REFUSING. -/
def stationsLost (s : State) : State := withUp refuseUp (updateImage .stations (fun x => { x with valid := false }) s)

/-- R52, R137: an invalid STATIONS stops polling also in the refusing slots. -/
theorem test_no_poll_while_stations_unfit :
    (after .pollTimerExpiry (stationsLost (polling none))).pilot.queue = [] ∧
    (after .pollTimerExpiry (polling none)).pilot.queue = [⟨query 1, false⟩] := by decide +kernel

theorem witness_QueriesJoinTheQueue :
    ((stationsLost (polling none)).pilot.pollRemaining = 0 ∧
      usable (stationsLost (polling none)).store.images.stations = false ∧
      (stationsLost (polling none)).pilot.up.stage ≠ .closed) ∧
    ((polling (some 4)).pilot.pollRemaining = 0 ∧ (polling (some 4)).pilot.up.stage ≠ .closed ∧
      usable (polling (some 4)).store.images.stations = true ∧
      nextPolled (polling (some 4)).pilot.stations (some 4) = some 1 ∧
      queryWaiting (polling (some 4)) 1 = false ∧ queryInFlight (polling (some 4)) 1 = false ∧
      ((polling (some 4)).pilot.queue.filter fun e => !e.kept).length < 6) ∧
    nextPolled (polling none).pilot.stations none = some 1 ∧
    nextPolled (polling (some 1)).pilot.stations (some 1) = some 4 ∧
    queryWaiting (fullQueue (polling (some 1))) 4 = true ∧
    (HeadIs .pilotQuery (cmd .pilotQuery [1]) [] (headed .pilotQuery [1] State.reset) ∧
      State.reset.pilot.up.stage = .closed) ∧
    (HeadIs .pilotQuery (cmd .pilotQuery [1]) [] (headed .pilotQuery [1] atWork) ∧ atWork.pilot.up.stage ≠ .closed ∧
      usable atWork.store.images.stations = true ∧
      (∃ x ∈ atWork.pilot.stations, x.address = (1 : Byte).toNat) ∧ queryWaiting atWork 1 = false ∧
      queryInFlight atWork 1 = false ∧ (atWork.pilot.queue.filter fun e => !e.kept).length < 6) ∧
    (queryWaiting (fullQueue atWork) 1 = false ∧ queryInFlight (fullQueue atWork) 1 = false ∧
      6 ≤ ((fullQueue atWork).pilot.queue.filter fun e => !e.kept).length) := by decide +kernel

/-- Station 1 waited for until a deadline, with a number of missed answers. -/
def waitedFor (deadline : Time) (missed : Nat) : State :=
  updateStation 1 (fun x => { x with answer := .waiting deadline, missed := missed }) (atWork.setTime 5000)

theorem witness_MissedAnswerIsCounted :
    (findStation (waitedFor 5000 2) 1 =
        some { station 1 .sectionaliser with answer := .waiting 5000, missed := 2 } ∧
      elapsed (waitedFor 5000 2).time 5000 < 2 ^ 31 ∧ (waitedFor 5000 2).plant.silentCount ≤ min 10 (2 + 1)) ∧
    (findStation (waitedFor 4999 0) 1 = some { station 1 .sectionaliser with answer := .waiting 4999 } ∧
      elapsed (waitedFor 4999 0).time 4999 < 2 ^ 31) := by decide +kernel

/-! ## Hypotheses met: hunt controller -/

/-- The tests of Table 8.5 pass. -/
abbrev MayHunt (s : State) : Prop :=
  HeadIs .startHunt (cmd .startHunt []) [] s ∧ (cmd .startHunt []).payload = [] ∧ MonitorConsistent s ∧
  (s.mon.recs.get .huntActive).actions.barHunt = false ∧ s.hunt.state = .idle ∧ s.settings.huntEnabled = true ∧
  usable s.store.images.hunt = true ∧ s.pilot.up.stage ≠ .closed ∧ usable s.store.images.stations = true ∧
  s.mon.huntBar = false ∧ s.seq.state = .ready ∧ s.brk.accepted = .closed

/-- STATION_SILENT in force, a hunt bar. -/
def silenced : State := withCond .stationSilent (activeRecord ⟨false, false, false, true, false⟩) atWork

/-- Table 8.4: a hunt not started for the hunt bar names the bar conditions, and one for another reason none. -/
theorem test_bars_of_a_hunt_not_started :
    (huntRequestSef silenced).hunt.last.map (fun l => (l.cause, l.bars)) =
      some (some (.notStarted .huntBar), some [.stationSilent]) ∧
    (huntRequestSef (reclaiming 1)).hunt.last.map (fun l => (l.cause, l.bars)) =
      some (some (.notStarted .sequencerNotReady), none) := by decide +kernel

theorem witness_StartHuntIsJudged :
    (MayHunt (headed .startHunt [] atWork) ∧ atWork.adm.window = none ∧ atWork.hunt.outstanding = none ∧
      parseHunt atWork.store.images.hunt.working = ⟨1, 1000⟩ :: [⟨1, 1000⟩] ∧ stationAnswers atWork 1 = true ∧
      keptFree atWork.pilot.queue .hunt = true) ∧
    (MayHunt (headed .startHunt [] (windowed 0 0 .hostDrive 1 atWork)) ∧
      (windowed 0 0 .hostDrive 1 atWork).adm.window.isSome = true) ∧
    huntDwelt.hunt.state ≠ .idle ∧ State.reset.settings.huntEnabled = false ∧
    usable (updateImage .hunt (fun x => { x with valid := false }) atWork).store.images.hunt = false ∧
    (withUp (fun u => { u with stage := .closed }) atWork).pilot.up.stage = .closed ∧
    usable (stationsLost atWork).store.images.stations = false ∧ silenced.mon.huntBar = true ∧
    (reclaiming 1).seq.state ≠ .ready ∧
    (withBrk (fun b => { b with accepted := .travel }) atWork).brk.accepted ≠ .closed := by decide +kernel

theorem witness_StopHuntAndSettlingEnd :
    (HeadIs .stopHunt (cmd .stopHunt []) [] (headed .stopHunt [] huntDwelt) ∧ huntDwelt.hunt.state = .dwell) ∧
    (huntWaiting []).hunt.state = .opening ∧ huntRestoring.hunt.state = .restoring ∧
    (HeadIs .stopHunt (cmd .stopHunt []) [] (headed .stopHunt [] atWork) ∧ atWork.hunt.state = .idle) ∧
    ((withSeq (enterLockout .manualTrip) (withDue (fun d => { d with settle := true })
        (hunting fun h => { h with state := .settling }))).due.settle = true ∧
      (withSeq (enterLockout .manualTrip) (hunting fun h => { h with state := .settling })).seq.state = .lockout) ∧
    (hunting fun h => { h with state := .settling }).seq.state ≠ .lockout := by decide +kernel

theorem witness_SwitchWaitRunsOut :
    ((huntWaiting [⟨1, 1000⟩]).hunt.switchTimer = some ⟨10000, 0⟩ ∧
      (huntWaiting [⟨1, 1000⟩]).hunt.plan = some [⟨1, 1000⟩] ∧ (huntWaiting [⟨1, 1000⟩]).hunt.state = .opening ∧
      [(⟨1, 1000⟩ : HuntStep)].drop (huntWaiting [⟨1, 1000⟩]).hunt.step = []) ∧
    ((huntWaiting [⟨1, 1000⟩, ⟨1, 500⟩]).hunt.plan = some [⟨1, 1000⟩, ⟨1, 500⟩] ∧
      [(⟨1, 1000⟩ : HuntStep), ⟨1, 500⟩].drop (huntWaiting [⟨1, 1000⟩, ⟨1, 500⟩]).hunt.step = ⟨1, 500⟩ :: [] ∧
      stationAnswers (huntWaiting [⟨1, 1000⟩, ⟨1, 500⟩]) 1 = true ∧
      (huntWaiting [⟨1, 1000⟩, ⟨1, 500⟩]).hunt.outstanding = none ∧
      keptFree (huntWaiting [⟨1, 1000⟩, ⟨1, 500⟩]).pilot.queue .hunt = true) ∧
    (huntRestoring.hunt.switchTimer = some ⟨10000, 0⟩ ∧ huntRestoring.hunt.state = .restoring) := by decide +kernel

theorem witness_DwellIsJudged :
    (huntDwelt.hunt.dwellTimer = some ⟨1000, 0⟩ ∧ huntDwelt.hunt.state = .dwell ∧ huntDwelt.brk.accepted = .closed ∧
      huntDwelt.hunt.outstanding = none ∧ keptFree huntDwelt.pilot.queue .hunt = true ∧
      huntDwelt.meas.latest.present = false) ∧
    (withBrk (fun b => { b with accepted := .travel }) huntDwelt).brk.accepted ≠ .closed ∧
    ((evaluated (some 255) (huntDwelt.setTime 1000)).meas.latest.present = true ∧
      elapsed (huntDwelt.setTime 1000).time 0 ≤ (currentStep huntDwelt).dwell ∧
      (evaluated (some 255) (huntDwelt.setTime 1000)).meas.latest.q.huntClear = some 255 ∧ 255 < 256) ∧
    (∃ q, (evaluated (some 256) huntDwelt).meas.latest.q.huntClear = some q ∧ 256 ≤ q) ∧
    (currentStep huntDwelt).dwell < elapsed (huntDwelt.setTime 1001).time 0 ∧
    (evaluated none huntDwelt).meas.latest.q.huntClear = none := by
  refine ⟨by decide +kernel, by decide +kernel, by decide +kernel, ⟨256, by decide +kernel⟩, by decide +kernel, by decide +kernel⟩

/-! ## Hypotheses met: start admission -/

/-- A whole-second boundary with a quiet counter. -/
def boundary (quiet : Nat) (s : State) : State :=
  withDue (fun d => { d with second := true }) (withAdm (fun a => { a with quiet := quiet, second := .quiet }) s)

theorem witness_BoundaryCountsAndAdmits :
    ((boundary 255 atWork).due.second = true ∧
      admittedDrive (afterRestoration ((boundary 255 atWork).setDue
        { (boundary 255 atWork).due with second := false })) = none ∧
      255 = min 255 ((boundary 255 atWork).adm.quiet + 1)) ∧
    (admittedDrive (withAdm (fun a => { a with quiet := 10 }) (asked 0 atWork))).isSome = true ∧
    ((boundary 9 (asked 0 atWork)).due.second = true ∧
      admittedDrive (afterRestoration ((boundary 9 (asked 0 atWork)).setDue
        { (boundary 9 (asked 0 atWork)).due with second := false })) =
          some { newDrive ⟨0, 0, .essential, 5000, 60⟩ with request := .pending 0 60000 } ∧
      (boundary 9 (asked 0 atWork)).adm.outstanding = none ∧
      keptFree (boundary 9 (asked 0 atWork)).pilot.queue .admission = true) ∧
    admittedDrive (afterRestoration ((boundary 8 (asked 0 atWork)).setDue
      { (boundary 8 (asked 0 atWork)).due with second := false })) = none ∧
    (admittedDrive (afterRestoration ((boundary 19 (asked 1 atWork)).setDue
        { (boundary 19 (asked 1 atWork)).due with second := false })) =
          some { newDrive ⟨1, 4, .production, 6000, 60⟩ with request := .pending 0 60000 } ∧
      (newDrive ⟨1, 4, .production, 6000, 60⟩).station ≠ 0) := by decide +kernel

theorem witness_StartRequestBecomesPending :
    (dueMessage (delivering 4 11 1 atWork) = some (.startRequest, 4, 1) ∧
      usable (delivering 4 11 1 atWork).store.images.drives = true ∧
      findDrive (delivering 4 11 1 atWork) (driveOfCell 1) = some (newDrive ⟨1, 4, .production, 6000, 60⟩) ∧
      (newDrive ⟨1, 4, .production, 6000, 60⟩).request = .none) ∧
    (findDrive (delivering 4 11 1 (asked 1 atWork)) (driveOfCell 1) =
        some { newDrive ⟨1, 4, .production, 6000, 60⟩ with request := .pending 0 60000 } ∧
      DriveRequest.pending 0 60000 ≠ .none) := by decide +kernel

theorem witness_StationEndsTheWindow :
    ((delivering 4 12 1 (windowed 1 4 .delivered 1 atWork)).adm.window = some (windowOf 1 4 .delivered 1) ∧
      dueMessage (delivering 4 12 1 (windowed 1 4 .delivered 1 atWork)) = some (.startDone, 4, 1) ∧
      (windowOf 1 4 .delivered 1).station = 4 ∧ (windowOf 1 4 .delivered 1).drive = driveOfCell 1) ∧
    (dueMessage (delivering 1 12 1 (windowed 1 4 .delivered 1 atWork)) = some (.startDone, 1, 1) ∧
      (windowOf 1 4 .delivered 1).station ≠ 1) ∧
    (dueMessage (delivering 4 12 0 (windowed 1 4 .delivered 1 atWork)) = some (.startDone, 4, 0) ∧
      (windowOf 1 4 .delivered 1).drive ≠ driveOfCell 0) ∧
    dueMessage (delivering 4 13 1 (windowed 1 4 .delivered 1 atWork)) = some (.startAbandon, 4, 1) := by decide +kernel

theorem witness_WindowAndLifetimeExpire :
    ((windowed 0 0 .hostDrive 0 atWork).adm.window = some (windowOf 0 0 .hostDrive 0) ∧
      (windowOf 0 0 .hostDrive 0).remaining = 0) ∧
    ((windowed 1 4 .delivered 0 atWork).adm.window = some (windowOf 1 4 .delivered 0) ∧
      (windowed 1 4 .delivered 0 atWork).adm.outstanding = none ∧
      keptFree (windowed 1 4 .delivered 0 atWork).pilot.queue .admission = true ∧
      (windowed 1 4 .delivered 0 atWork).hunt.state ≠ .deferred) ∧
    (findDrive ((asked 1 atWork).setTime 60000) 1 =
        some { newDrive ⟨1, 4, .production, 6000, 60⟩ with request := .pending 0 60000 } ∧
      elapsed 60000 0 ≤ elapsed ((asked 1 atWork).setTime 60000).time 0) ∧
    elapsed ((asked 1 atWork).setTime 59999).time 0 < elapsed 60000 0 := by decide +kernel

theorem witness_HostRequestsAndCancels :
    (HeadIs .requestStart (cmd .requestStart [0]) [] (headed .requestStart [0] atWork) ∧ (0 : Byte).toNat ≤ 7 ∧
      findDrive (headed .requestStart [0] atWork) 0 = some (newDrive ⟨0, 0, .essential, 5000, 60⟩) ∧
      usable atWork.store.images.drives = true ∧ (newDrive ⟨0, 0, .essential, 5000, 60⟩).request = .none) ∧
    (HeadIs .cancelStart (cmd .cancelStart [0]) [] (headed .cancelStart [0] (asked 0 atWork)) ∧
      findDrive (headed .cancelStart [0] (asked 0 atWork)) 0 =
        some { newDrive ⟨0, 0, .essential, 5000, 60⟩ with request := .pending 0 60000 }) ∧
    (DriveRequest.pending 0 60000 ≠ .none ∧ DriveRequest.window ≠ .none) ∧
    (HeadIs .cancelStart (cmd .cancelStart [1]) []
        (headed .cancelStart [1] (windowed 1 4 .delivered 9 atWork)) ∧
      findDrive (windowed 1 4 .delivered 9 atWork) 1 =
        some { newDrive ⟨1, 4, .production, 6000, 60⟩ with request := .window } ∧
      (windowed 1 4 .delivered 9 atWork).adm.window = some (windowOf 1 4 .delivered 9) ∧
      (windowed 1 4 .delivered 9 atWork).adm.outstanding = none ∧
      keptFree (windowed 1 4 .delivered 9 atWork).pilot.queue .admission = true ∧
      (windowed 1 4 .delivered 9 atWork).hunt.state ≠ .deferred) ∧
    (windowOf 0 0 .hostDrive 9).grant ≠ .delivered ∧
    (HeadIs .cancelStart (cmd .cancelStart [0]) [] (headed .cancelStart [0] atWork)) := by decide +kernel

/-! ## Hypotheses met: manual operations, permits, record interface -/

theorem witness_TripCommandOpens :
    (HeadIs .trip (cmd .trip []) [] (headed .trip [] atWork) ∧ atWork.brk.accepted ≠ .opened ∧
      atWork.brk.tripOut = false ∧ atWork.seq.state = .ready) ∧
    (reclaiming 1).seq.state = .reclaim ∧
    ((withBrk (fun b => { b with accepted := .travel }) closing).brk.accepted ≠ .opened ∧
      closing.brk.tripOut = false ∧ closing.seq.state = .closing) := by decide +kernel

/-- OPEN, in LOCKOUT. -/
def lockedOut : State := opened fun q => enterLockout .manualTrip q

theorem witness_CloseCommandIsJudged :
    (HeadIs .close (cmd .close []) [] (headed .close [] lockedOut) ∧
      MonitorConsistent (headed .close [] lockedOut) ∧ lockedOut.seq.state = .lockout ∧
      lockedOut.brk.accepted = .opened ∧ lockedOut.mon.hard = [] ∧ lockedOut.mon.hold = [] ∧
      lockedOut.brk.ready = .active ∧ lockedOut.brk.tripOut = false ∧ lockedOut.brk.closeOut = false ∧
      lockedOut.adm.window = none) ∧
    ((reclaiming 1).seq.state ≠ .ready ∧ (reclaiming 1).seq.state ≠ .lockout) ∧
    (atWork.seq.state = .ready ∧ atWork.brk.accepted ≠ .opened) ∧
    (barred lockedOut).mon.hard = [.liveLine] ∧
    ((held lockedOut).mon.hard = [] ∧ (held lockedOut).mon.hold = [.hostHold]) ∧
    (withBrk (fun b => { b with ready := .inactive }) lockedOut).brk.ready ≠ .active := by decide +kernel

/-- In LOCKOUT with CLOSE_FAIL active in a mode. -/
def closeFailed (mode : Mode) : State :=
  withCond .closeFail ⟨true, mode == .sticky, mode, ⟨true, false, false, false, false⟩⟩ lockedOut

/-- R74, R97: RESET_LOCKOUT clears CLOSE_FAIL first; in STICKY mode its latch still refuses. -/
theorem test_reset_lockout_after_close_fail :
    (after .resetLockout (headed .resetLockout [] (closeFailed .live))).seq.state = .ready ∧
    firstReply (after .resetLockout (headed .resetLockout [] (closeFailed .sticky))) =
      some (refusedBy .hardBlock .closeFail (.lockoutReset .lockout [.closeFail])) := by decide +kernel

theorem witness_ResetLockoutIsJudged :
    (MonitorConsistent (closeFailed .live) ∧ (closeFailed .live).mon.recs.closeFail.active = true ∧
      (closeFailed .live).mon.recs.closeFail.mode = .live ∧ (closeFailed .live).seq.state = .lockout ∧
      (closeFailed .live).seq.posAwaited = false ∧
      (after .resetLockout (headed .resetLockout [] (closeFailed .live))).mon.hard = []) ∧
    ((closeFailed .sticky).mon.recs.closeFail.mode = .sticky ∧
      (closeFailed .sticky).mon.recs.closeFail.latched = true ∧
      (after .resetLockout (headed .resetLockout [] (closeFailed .sticky))).mon.hard = [.closeFail]) ∧
    (withCond .closeFail ⟨true, false, .live, ⟨true, false, false, false, false⟩⟩ State.reset).seq.posAwaited = true ∧
    (withCond .closeFail ⟨true, false, .live, ⟨true, false, false, false, false⟩⟩ atWork).seq.state ≠ .lockout ∧
    (HeadIs .resetLockout (cmd .resetLockout []) [] (headed .resetLockout [] lockedOut) ∧
      lockedOut.mon.recs.closeFail.active = false ∧ lockedOut.seq.state = .lockout ∧
      lockedOut.seq.posAwaited = false ∧ lockedOut.mon.hard = []) ∧
    atWork.seq.state ≠ .lockout ∧
    (State.reset.seq.state = .lockout ∧ State.reset.seq.posAwaited = true ∧
      State.reset.mon.recs.closeFail.active = false) ∧
    (barred lockedOut).mon.hard = [.liveLine] := by decide +kernel

theorem witness_SetPermitSetsItsCondition :
    HeadIs .setPermit (cmd .setPermit [1, 1]) [] (headed .setPermit [1, 1] atWork) ∧
    (HeadIs .setPermit (cmd .setPermit [2, 0]) [] (headed .setPermit [2, 0] atWork) ∧
      (atWork.mon.recs.get .hostHold).active = decide ((0 : Byte) = 1)) ∧
    (HeadIs .setPermit (cmd .setPermit [0, 0]) [] (headed .setPermit [0, 0] atWork) ∧ (0 : Byte) ≠ 1 ∧
      (0 : Byte) ≠ 2 ∧ (3 : Byte) ≠ 1 ∧ (3 : Byte) ≠ 2) ∧
    (HeadIs .setPermit (cmd .setPermit [1, 2]) [] (headed .setPermit [1, 2] atWork) ∧ 1 < (2 : Byte).toNat) := by
  decide

theorem witness_AcknowledgementClearsLatches :
    (HeadIs .ackConditions (cmd .ackConditions [15, 255]) [] (headed .ackConditions [15, 255] atWork) ∧
      4095 = (15 : Byte).toNat * 256 + (255 : Byte).toNat ∧ 4095 < 4096 ∧
      MonitorConsistent (headed .ackConditions [15, 255] atWork)) ∧
    (HeadIs .ackConditions (cmd .ackConditions [16, 0]) [] (headed .ackConditions [16, 0] atWork) ∧
      4096 = (16 : Byte).toNat * 256 + (0 : Byte).toNat ∧ 4096 ≤ 4096) := by decide +kernel

theorem witness_ReadingCommandsOnlyReply :
    HeadIs .echo (cmd .echo [1]) [] (headed .echo [1] atWork) ∧
    (HeadIs .readMeasure (cmd .readMeasure []) [] (headed .readMeasure [] atWork)) ∧
    (HeadIs .readStatus (cmd .readStatus [6]) [] (headed .readStatus [6] atWork) ∧
      (6 : Byte) = 6 ∧ ReplyBody.admission (admissionStatus (headed .readStatus [6] atWork)) =
        .admission (admissionStatus (headed .readStatus [6] atWork))) ∧
    (HeadIs .readStatus (cmd .readStatus [7]) [] (headed .readStatus [7] atWork) ∧ 6 < (7 : Byte).toNat) ∧
    (HeadIs .readStatus (cmd .readStatus [0]) [] (headed .readStatus [0] atWork) ∧ (0 : Byte) = 0) ∧
    (HeadIs .readImage (cmd .readImage [5, 0]) [] (headed .readImage [5, 0] atWork) ∧
      ImageId.ofKindIndex (5 : Byte).toNat (0 : Byte).toNat = some .hunt ∧ ImageId.hunt ≠ .plant) := by decide +kernel

/-- The report queue full. -/
def fullReports : State := withHost (fun h => { h with reports := List.replicate 32 (.image 0 (.stored .plant)) }) atWork

theorem witness_ReportsAreMaskedAndPlaced :
    (HeadIs .setReportMask (cmd .setReportMask [0xF8, 0]) [] (headed .setReportMask [0xF8, 0] atWork) ∧
      (0x0401 : Word16) = ((0xF8 : Byte) ++ (0 : Byte) : BitVec 16) &&& 0x07FF ||| 0x0401) ∧
    ((withHost (fun h => { h with mask := 0x0401 }) atWork).host.mask.getLsbD
      (reportBit (.image 0 (.stored .plant))) = false) ∧
    (atWork.host.mask.getLsbD (reportBit (.image 0 (.stored .plant))) = true ∧ atWork.host.reports.length < 32) ∧
    32 ≤ fullReports.host.reports.length := by decide

theorem witness_CommandsAreExecutedInTurn :
    (HeadIs .trip (cmd .trip [0]) [] (headed .trip [0] atWork) ∧
      payloadLengthOk .trip (cmd .trip [0]).payload.length = false) ∧
    (HeadIs .loadImage (cmd .loadImage [0]) [] (headed .loadImage [0] atWork) ∧
      payloadLengthOk .loadImage (cmd .loadImage [0]).payload.length = false) ∧
    ((headed .trip [] atWork).host.commands = [cmd .trip []] ∧ (cmd .trip []).kind.toNat ≠ commandCode .close) ∧
    (HeadIs .restart (cmd .restart [1]) [] (headed .restart [1] atWork) ∧
      (cmd .restart [1]).payload = [1]) ∧
    ((cmd .restart [2]).payload = [2] ∧ atWork.brk.tripOut = false ∧ atWork.brk.closeOut = false ∧
      closing.brk.closeOut = true) := by decide

/-- The parser in a stage. -/
def parsing (stage : ParserStage) (s : State) : State :=
  withHost (fun h => { h with parser := { h.parser with stage := stage } }) s

theorem witness_BytesAssembleARecord :
    (atWork.host.parser.stage = .syncWait ∧ (List.replicate 248 (0 : Byte)).length ≤ 248 ∧ ([] : List Byte).length ≤ 248) ∧
    (0xC2 : Byte) ≠ 0xC3 ∧
    ((parsing .length atWork).host.parser.stage = .length ∧ 248 < (249 : Byte).toNat) ∧
    ((parsing .check (atWork.setTime 3)).host.parser.stage ≠ .syncWait ∧
      3 ≤ elapsed (parsing .check (atWork.setTime 3)).time (parsing .check (atWork.setTime 3)).host.parser.lastByte) ∧
    elapsed (parsing .check (atWork.setTime 2)).time (parsing .check (atWork.setTime 2)).host.parser.lastByte < 3 := by
  decide

/-- A record arrived: a kind with an empty payload, and a CHECK. -/
def arrived (kind : Byte) (check : Word16) (s : State) : State :=
  withHost (fun h => { h with arrived := [⟨0, kind, 7, [], check⟩] }) s

/-- The CHECK of such a record. -/
def checkOf (kind : Byte) : Word16 := crc16 [0, kind, 7]

/-- A number of commands waiting and reply places taken. -/
def queued (commands places : Nat) (s : State) : State :=
  withHost
    (fun h =>
      { h with
        commands := List.replicate commands (cmd .trip [])
        replies := List.replicate places ⟨0x49, 7, none, none⟩ }) s

theorem witness_RecordsAreJudgedInOrder :
    ((arrived 9 0 (queued 4 8 atWork)).host.arrived = ⟨0, 9, 7, [], 0⟩ :: [] ∧
      8 ≤ (arrived 9 0 (queued 4 8 atWork)).host.replies.length) ∧
    ((arrived 9 0 (queued 0 7 atWork)).host.replies.length < 8 ∧ (0 : Word16) ≠ crc16 (0 :: 9 :: 7 :: [])) ∧
    ((0 : Byte) = 0 ∧ checkOf 0 = crc16 (0 :: 0 :: 7 :: []) ∧ 0x14 < (0x15 : Byte).toNat ∧
      checkOf 0x15 = crc16 (0 :: 0x15 :: 7 :: [])) ∧
    (1 ≤ (1 : Byte).toNat ∧ (0x14 : Byte).toNat ≤ 0x14 ∧ checkOf 0x14 = crc16 (0 :: 0x14 :: 7 :: []) ∧
      4 ≤ (arrived 0x14 (checkOf 0x14) (queued 4 7 atWork)).host.commands.length) ∧
    (arrived 1 (checkOf 1) (queued 3 7 atWork)).host.commands.length < 4 := by decide +kernel

/-- A filled reply place, the OK of a restart command or of another. -/
def okPlace (r : Option RestartKind) : ReplyPlace := ⟨0x54, 7, some (okReply .empty), r⟩

/-- The reply of a place in transmission. -/
def sending (r : Option RestartKind) : State :=
  withHost (fun h => { h with tx := .reply (okPlace r), replies := [okPlace r] }) atWork

theorem witness_TransmitterSendsInOrder :
    (atWork.host.tx = .idle ∧ (queued 1 1 atWork).host.replies = ⟨0x49, 7, none, none⟩ :: [] ∧
      (⟨0x49, 7, none, none⟩ : ReplyPlace).reply = none) ∧
    ((withHost (fun h => { h with replies := [okPlace none] }) atWork).host.replies = okPlace none :: [] ∧
      (okPlace none).reply.isSome = true) ∧
    (fullReports.host.tx = .idle ∧ fullReports.host.replies = [] ∧
      fullReports.host.reports = .image 0 (.stored .plant) :: List.replicate 31 (.image 0 (.stored .plant)) ∧
      fullReports.host.overrun = false) ∧
    (withHost (fun h => { h with overrun := true }) fullReports).host.overrun = true ∧
    ((withHost (fun h => { h with reports := [] }) atWork).host.replies = [] ∧
      (withHost (fun h => { h with reports := [] }) atWork).host.reports = []) ∧
    (withHost (fun h => { h with tx := .report (.image 0 (.stored .plant)) }) atWork).host.tx =
      .report (.image 0 (.stored .plant)) ∧
    ((sending none).host.tx = .reply (okPlace none) ∧ (sending none).host.replies = okPlace none :: [] ∧
      (okPlace none).restart = none ∧ (okPlace (some .full)).restart = some .full ∧
      (okPlace (some .link)).restart = some .link) := by decide

/-! ## States that meet the invariants and step on -/

/-- One command waiting. -/
def waiting (c : Instr) (s : State) : State := s.setPending [c]

/-- A 1 ms event on the reset state, contacts CLOSED and ready. -/
def fromReset : State := waiting (.timeBaseEvent true false true) State.reset

theorem witness_StepKeepsMeasurementAndProtection :
    (MeasurementExact (waiting .lossDeclared (filled 32 9 atWork)) ∧
      ∃ t, step (waiting .lossDeclared (filled 32 9 atWork)) = .next t) ∧
    ProtectionBounded (waiting .lossDeclared aboutToTrip) ∧
      ∃ t, step (waiting .lossDeclared aboutToTrip) = .next t :=
  ⟨⟨by decide +kernel, _, rfl⟩, by decide +kernel, _, rfl⟩

theorem witness_StepKeepsTheRegimeCurrent :
    (RankCovers fromReset ∧ CandidateCurrent fromReset) ∧ ∃ t, step fromReset = .next t :=
  ⟨by decide +kernel, _, rfl⟩

theorem witness_StepKeepsTheCoilInterlock :
    (MonitorConsistent (waiting .closeTimerExpiry closing) ∧ CoilInterlock (waiting .closeTimerExpiry closing)) ∧
    ∃ t, step (waiting .closeTimerExpiry closing) = .next t :=
  ⟨by decide +kernel, _, rfl⟩

theorem witness_StepKeepsConditionsWithOwners : OwnersHold fromReset ∧ ∃ t, step fromReset = .next t :=
  ⟨by decide +kernel, _, rfl⟩

theorem witness_StepKeepsSequencerAndWindow :
    (SequencerShape (waiting .deadTimerExpiry (deadTime 0)) ∧
      ∃ t, step (waiting .deadTimerExpiry (deadTime 0)) = .next t) ∧
    WindowGuarded (waiting .startWindowExpiry (windowed 1 4 .delivered 0 atWork)) ∧
      ∃ t, step (waiting .startWindowExpiry (windowed 1 4 .delivered 0 atWork)) = .next t :=
  ⟨⟨by decide +kernel, _, rfl⟩, by decide +kernel, _, rfl⟩

/-- The hunt's OPEN at the end of its transfer, DELIVERED. -/
def huntOpened : State := ended (some (huntMessage .openSwitch 1)) (some .delivered) huntSent

theorem witness_StepKeepsOneHuntMessage :
    HuntMessageTracked (waiting .downMessageEnd huntOpened) ∧
    ∃ t, step (waiting .downMessageEnd huntOpened) = .next t := ⟨by decide +kernel, _, rfl⟩

theorem witness_StepKeepsAdmissionInAgreement :
    AdmissionAgrees (waiting .startWindowExpiry (windowed 1 4 .delivered 0 atWork)) ∧
    ∃ t, step (waiting .startWindowExpiry (windowed 1 4 .delivered 0 atWork)) = .next t :=
  ⟨by decide +kernel, _, rfl⟩

theorem witness_StepKeepsTheQueuesInAgreement :
    QueuesAgree (waiting .transmissionEnd (sending (some .link))) ∧
    ∃ t, step (waiting .transmissionEnd (sending (some .link))) = .next t :=
  ⟨⟨by decide, by decide, by decide, by decide, by intro p h; cases h; decide⟩, _, rfl⟩

end Sys2Proof.Tests
end

/-! PROOFS. What every command leaves of the measurement unit and of the protection unit. All but six rows of the table
leave both alone; the rows that move them are named one by one in `SignalChange`. -/

namespace Sys2Proof.Machine

/-- A property of the state that an outcome ends in; a fault and a refusal end in none. -/
def Ends (o : Host.Outcome State Fault Refusal) (P : State → Prop) : Prop := ∀ t, o = .next t → P t

@[simp] theorem ends_next (t : State) (P : State → Prop) : Ends (.next t) P ↔ P t :=
  ⟨fun h => h t rfl, fun h _ e => by cases e; exact h⟩

/-- The measurement unit and the protection unit are the same in both states. -/
@[simp] def SignalsKept (s t : State) : Prop := t.meas = s.meas ∧ t.prot = s.prot

/-! ## Host commands -/

@[simp] theorem popCommand_signals (s : State) :
    (popCommand s).meas = s.meas ∧ (popCommand s).prot = s.prot := by simp [popCommand]

/-- A command's row keeps the two units when the command's owner does (R170). -/
theorem runCommand_signals (k : CommandKind) {own : List Byte → State → Reply × State}
    (hown : ∀ p u, SignalsKept u (own p u).2) (s : State) : SignalsKept s (runCommand k own s) := by
  unfold runCommand
  split
  · next c _ =>
    obtain ⟨hm, hp⟩ := hown c.payload (popCommand s)
    unfold execute
    split <;> simp [hm, hp]
  · exact ⟨rfl, rfl⟩

theorem runRestart_signals (other : List Byte) (s : State) : SignalsKept s (runRestart other s) := by
  unfold runRestart executeRestart linkRestartTaken fullRestartTaken
  repeat' split
  all_goals simp

theorem ownReadStatus_signals (p : List Byte) (s : State) : SignalsKept s (ownReadStatus p s).2 := by
  unfold ownReadStatus
  dsimp only
  repeat' split
  all_goals exact ⟨rfl, rfl⟩

theorem ownReadImage_signals (p : List Byte) (s : State) : SignalsKept s (ownReadImage p s).2 := by
  unfold ownReadImage
  split <;> exact ⟨rfl, rfl⟩

theorem ownLoadImage_signals (p : List Byte) (s : State) : SignalsKept s (ownLoadImage p s).2 := by
  unfold ownLoadImage
  dsimp only
  repeat' split
  all_goals simp

theorem ownCheckImages_signals (s : State) : SignalsKept s (ownCheckImages s).2 := by simp [ownCheckImages]

theorem ownSetFireLevel_signals (p : List Byte) (s : State) : SignalsKept s (ownSetFireLevel p s).2 := by
  unfold ownSetFireLevel
  dsimp only
  split <;> simp

theorem ownSelectGroup_signals (p : List Byte) (s : State) : SignalsKept s (ownSelectGroup p s).2 := by
  unfold ownSelectGroup
  dsimp only
  repeat' split
  all_goals simp

theorem ownTrip_signals (s : State) : SignalsKept s (ownTrip s).2 := by simp [ownTrip]

theorem ownClose_signals (s : State) : SignalsKept s (ownClose s).2 := by
  unfold ownClose
  repeat' split
  all_goals simp

theorem ownResetLockout_signals (s : State) : SignalsKept s (ownResetLockout s).2 := by
  unfold ownResetLockout judgeReset
  repeat' split
  all_goals simp

theorem ownSetPermit_signals (p : List Byte) (s : State) : SignalsKept s (ownSetPermit p s).2 := by
  unfold ownSetPermit
  repeat' split
  all_goals simp

theorem ownAckConditions_signals (p : List Byte) (s : State) : SignalsKept s (ownAckConditions p s).2 := by
  unfold ownAckConditions
  dsimp only
  split <;> simp [acknowledge]

theorem ownStartHunt_signals (p : List Byte) (s : State) : SignalsKept s (ownStartHunt p s).2 := by
  unfold ownStartHunt
  split <;> simp

theorem ownStopHunt_signals (p : List Byte) (s : State) : SignalsKept s (ownStopHunt p s).2 := by
  unfold ownStopHunt
  split <;> simp

theorem ownRequestStart_signals (p : List Byte) (s : State) : SignalsKept s (ownRequestStart p s).2 := by
  unfold ownRequestStart
  dsimp only
  repeat' split
  all_goals simp

theorem ownCancelStart_signals (p : List Byte) (s : State) : SignalsKept s (ownCancelStart p s).2 := by
  unfold ownCancelStart
  dsimp only
  repeat' split
  all_goals simp

theorem ownPilotQuery_signals (p : List Byte) (s : State) : SignalsKept s (ownPilotQuery p s).2 := by
  unfold ownPilotQuery
  dsimp only
  split
  · simp
  · split
    · simp
    · split
      · simp
      · split
        · have hq := joinQueue_frame ‹_›
          simp [hq]
        · simp

theorem ownSetReportMask_signals (p : List Byte) (s : State) : SignalsKept s (ownSetReportMask p s).2 := by
  simp [ownSetReportMask]


/-! ## Rows that act on the other blocks alone -/

theorem execSwitchWaitExpiry_signals (s : State) : Ends (execSwitchWaitExpiry s) (SignalsKept s) := by
  unfold execSwitchWaitExpiry
  repeat' split
  all_goals simp

theorem execDwellExpiry_signals (s : State) : Ends (execDwellExpiry s) (SignalsKept s) := by
  unfold execDwellExpiry
  split <;> simp

theorem execSettlingEnd_signals (s : State) : Ends (execSettlingEnd s) (SignalsKept s) := by
  unfold execSettlingEnd
  split <;> simp

theorem execWholeSecondBoundary_signals (s : State) : Ends (execWholeSecondBoundary s) (SignalsKept s) := by
  unfold execWholeSecondBoundary
  dsimp only
  repeat' split
  all_goals simp

theorem execRequestLifetimeExpiry_signals (n : Nat) (s : State) :
    Ends (execRequestLifetimeExpiry n s) (SignalsKept s) := by
  unfold execRequestLifetimeExpiry
  repeat' split
  all_goals simp

theorem execStartWindowExpiry_signals (s : State) : Ends (execStartWindowExpiry s) (SignalsKept s) := by
  unfold execStartWindowExpiry
  split <;> simp

theorem execDeadTimerExpiry_signals (s : State) : Ends (execDeadTimerExpiry s) (SignalsKept s) := by
  unfold execDeadTimerExpiry
  split <;> simp

theorem execHoldExceeded_signals (s : State) : Ends (execHoldExceeded s) (SignalsKept s) := by
  unfold execHoldExceeded
  split <;> simp

theorem execReclaimTimerExpiry_signals (s : State) : Ends (execReclaimTimerExpiry s) (SignalsKept s) := by
  unfold execReclaimTimerExpiry
  split <;> simp

theorem execCloseTimerExpiry_signals (s : State) : Ends (execCloseTimerExpiry s) (SignalsKept s) := by
  unfold execCloseTimerExpiry
  split <;> simp

theorem execFireLevelExpiry_signals (s : State) : Ends (execFireLevelExpiry s) (SignalsKept s) := by
  unfold execFireLevelExpiry
  split <;> simp

theorem execScanEvent_signals (s : State) : Ends (execScanEvent s) (SignalsKept s) := by
  unfold execScanEvent
  split <;> simp

theorem execBackingWriteCompletion_signals (b : Bool) (s : State) :
    Ends (execBackingWriteCompletion b s) (SignalsKept s) := by
  unfold execBackingWriteCompletion
  dsimp only
  repeat' split
  all_goals simp

theorem execSlotEvent_signals (up : BitVec 32) (s : State) : Ends (execSlotEvent up s) (SignalsKept s) := by
  unfold execSlotEvent
  split <;> simp

theorem execTakeTimeout_signals (s : State) : Ends (execTakeTimeout s) (SignalsKept s) := by
  unfold execTakeTimeout
  split <;> simp

theorem execDownMessageEnd_signals (s : State) : Ends (execDownMessageEnd s) (SignalsKept s) := by
  unfold execDownMessageEnd
  dsimp only
  repeat' split
  all_goals simp

theorem execHoldingTimeout_signals (s : State) : Ends (execHoldingTimeout s) (SignalsKept s) := by
  unfold execHoldingTimeout
  split <;> simp

theorem execRefusingEnd_signals (s : State) : Ends (execRefusingEnd s) (SignalsKept s) := by
  unfold execRefusingEnd
  split <;> simp

theorem execCoolDownEnd_signals (s : State) : Ends (execCoolDownEnd s) (SignalsKept s) := by
  unfold execCoolDownEnd
  split <;> simp

theorem execStatus_signals (s : State) : Ends (execStatus s) (SignalsKept s) := by
  unfold execStatus
  split <;> simp

theorem execSwitchDone_signals (s : State) : Ends (execSwitchDone s) (SignalsKept s) := by
  unfold execSwitchDone
  split <;> simp

theorem execStartRequest_signals (s : State) : Ends (execStartRequest s) (SignalsKept s) := by
  unfold execStartRequest
  split <;> simp

theorem execStartDone_signals (s : State) : Ends (execStartDone s) (SignalsKept s) := by
  unfold execStartDone
  split <;> simp

theorem execStartAbandon_signals (s : State) : Ends (execStartAbandon s) (SignalsKept s) := by
  unfold execStartAbandon
  split <;> simp

theorem execPollTimerExpiry_signals (s : State) : Ends (execPollTimerExpiry s) (SignalsKept s) := by
  unfold execPollTimerExpiry
  dsimp only
  repeat' split
  all_goals simp

theorem execReplyWaitExpiry_signals (a : Nat) (s : State) : Ends (execReplyWaitExpiry a s) (SignalsKept s) := by
  unfold execReplyWaitExpiry
  repeat' split
  all_goals simp

theorem execHostByteReceived_signals (b : Byte) (s : State) :
    Ends (execHostByteReceived b s) (SignalsKept s) := by
  simp [execHostByteReceived]

theorem execReceiveTimeout_signals (s : State) : Ends (execReceiveTimeout s) (SignalsKept s) := by
  unfold execReceiveTimeout
  split <;> simp

theorem execHostRecordArrival_signals (s : State) : Ends (execHostRecordArrival s) (SignalsKept s) := by
  unfold execHostRecordArrival
  split <;> simp

theorem execTransmissionStart_signals (s : State) : Ends (execTransmissionStart s) (SignalsKept s) := by
  unfold execTransmissionStart
  split <;> simp

theorem execTransmissionEnd_signals (s : State) : Ends (execTransmissionEnd s) (SignalsKept s) := by
  unfold execTransmissionEnd
  split <;> simp

/-! ## Rows that end suspension -/

/-- The measurement unit is the same in both states, and the protection unit but for its suspension (R35, R70). -/
@[simp] def OnlySuspensionMoved (s t : State) : Prop :=
  t.meas = s.meas ∧ t.prot = { s.prot with suspended := t.prot.suspended }

theorem SignalsKept.onlySuspension {s t : State} (h : SignalsKept s t) : OnlySuspensionMoved s t := by
  obtain ⟨hm, hp⟩ := h
  exact ⟨hm, by rw [hp]⟩

theorem SignalsKept.trans_suspension {s u t : State} (h : SignalsKept s u) (h' : OnlySuspensionMoved u t) :
    OnlySuspensionMoved s t := by
  obtain ⟨hm, hp⟩ := h
  obtain ⟨hm', hp'⟩ := h'
  exact ⟨hm'.trans hm, by rw [← hp]; exact hp'⟩

theorem endSuspension_prot (s : State) : (endSuspension s).prot = { s.prot with suspended := false } := rfl

theorem ownOutputs_suspension (n : BreakerPos) (s : State) : OnlySuspensionMoved s (ownOutputs n s) := by
  cases n <;> simp [ownOutputs, endSuspension_prot]

theorem acceptPosition_suspension (n : BreakerPos) (s : State) : OnlySuspensionMoved s (acceptPosition n s) := by
  refine SignalsKept.trans_suspension ?_ (ownOutputs_suspension n _)
  split <;> simp

theorem scanPosition_suspension (a b : Bool) (s : State) : OnlySuspensionMoved s (scanPosition a b s) := by
  unfold scanPosition
  dsimp only
  split
  · exact acceptPosition_suspension _ _
  · simp

theorem execTimeBaseEvent_suspension (a b r : Bool) (s : State) :
    Ends (execTimeBaseEvent a b r s) (OnlySuspensionMoved s) := by
  have h := scanPosition_suspension a b (paceTimers (advanceTime s))
  simpa [execTimeBaseEvent, paceTimers, advanceTime] using h

theorem execTripTimerExpiry_suspension (s : State) : Ends (execTripTimerExpiry s) (OnlySuspensionMoved s) := by
  unfold execTripTimerExpiry tripTimeout
  repeat' split
  all_goals simp [endSuspension_prot]

end Sys2Proof.Machine

/-! PROOFS. The sample port, the measurement unit and the protection unit: what a set, an evaluation point and a loss make
of their records. -/

namespace Sys2Proof.Machine

/-! ## The protection unit at a point and at a loss -/

theorem issueTrip_prot (t : Trip) (s : State) :
    (issueTrip t s).prot = { zeroValues s.prot with suspended := s.brk.accepted != .opened } := by
  simp [issueTrip]

theorem sefStage_prot (s : State) :
    (sefStage s).prot = { s.prot with sefOperated := sefFlag s.settings s.prot.sef s.prot.sefOperated } := by
  unfold sefStage
  dsimp only
  split <;> simp

/-- No standing flag goes with a count of 0 (R27). -/
@[simp] theorem sefFlag_zero (g : GroupSettings) (old : Bool) : sefFlag g 0 old = false := by simp [sefFlag]

/-- A point at which no trip element operates leaves the values of stage 3 to stage 6 (R17). -/
theorem protPoint_of_no_entry {q : Multiples} {b : Bool} {s : State}
    (h : tripEntries s.settings q (stepValues s.regime.inForce q s.prot) = []) :
    protPoint q b s = sefStage (s.setProt (stepValues s.regime.inForce q s.prot)) := by
  simp only [protPoint, State.setProt_prot, h, List.isEmpty_nil, if_true]

/-- A point at which a trip element operates issues its trip before stage 6 (R17, R31). -/
theorem protPoint_of_entry {q : Multiples} {b : Bool} {s : State}
    (h : tripEntries s.settings q (stepValues s.regime.inForce q s.prot) ≠ []) :
    ∃ trip, protPoint q b s = sefStage (issueTrip trip (s.setProt (stepValues s.regime.inForce q s.prot))) := by
  exact ⟨_, congrArg sefStage (if_neg (by simpa using h))⟩

theorem protPoint_prot_of_no_entry {q : Multiples} {b : Bool} {s : State}
    (h : tripEntries s.settings q (stepValues s.regime.inForce q s.prot) = []) :
    (protPoint q b s).prot =
      { stepValues s.regime.inForce q s.prot with
        sefOperated :=
          sefFlag s.settings (stepValues s.regime.inForce q s.prot).sef s.prot.sefOperated } := by
  rw [protPoint_of_no_entry h, sefStage_prot]
  rfl

theorem protPoint_prot_of_entry {q : Multiples} {b : Bool} {s : State}
    (h : tripEntries s.settings q (stepValues s.regime.inForce q s.prot) ≠ []) :
    (protPoint q b s).prot = ⟨⟨0, 0, 0⟩, 0, ⟨0, 0, 0⟩, 0, 0, false, s.brk.accepted != .opened⟩ := by
  obtain ⟨trip, e⟩ := protPoint_of_entry h
  rw [e, sefStage_prot]
  simp [issueTrip_prot, zeroValues]

theorem protLoss_prot (s : State) : (protLoss s).prot = { zeroValues s.prot with sefOperated := false } := by
  simp [protLoss]

/-! ## The measurement unit at a point -/

theorem storeRecord_meas (s : State) : (storeRecord s).meas = { s.meas with latest := recordOf s } := rfl

theorem evaluationPoint_meas (s : State) :
    (evaluationPoint s).meas = { s.meas with latest := recordOf (groupWork s) } := by
  simp [evaluationPoint, storeRecord_meas]

/-- The measurement unit that takes a set in: flushed first by an out-of-order one (R5, R8). -/
def measBefore (set : SampleSet) (s : State) : Measurement :=
  if revealsGap s.port set.seq then flush s.meas else s.meas

/-- The state in which a set stands in the port and in the windows, before any point (R4, R6). -/
def takenIn (set : SampleSet) (s : State) : State :=
  (s.setPort (acceptedPort set.seq s.time)).setMeas (takeIn set (measBefore set s))

theorem acceptSet_of_no_point {set : SampleSet} {s : State} (h : raisesPoint (measBefore set s) = false) :
    acceptSet set s = takenIn set s := if_neg (Bool.eq_false_iff.mp h)

theorem acceptSet_of_point {set : SampleSet} {s : State} (h : raisesPoint (measBefore set s) = true) :
    acceptSet set s = evaluationPoint (takenIn set s) := if_pos h

/-- Every set leaves the windows, sums, fill and phase that `takeIn` gives; the record aside (R6, R7, R8). -/
theorem acceptSet_meas (set : SampleSet) (s : State) :
    ∃ r, (acceptSet set s).meas = { takeIn set (measBefore set s) with latest := r } := by
  cases h : raisesPoint (measBefore set s)
  · rw [acceptSet_of_no_point h]
    exact ⟨_, rfl⟩
  · rw [acceptSet_of_point h, evaluationPoint_meas]
    exact ⟨_, rfl⟩

/-- The protection unit after a point is that of `protPoint` from the values before it (R17). -/
theorem evaluationPoint_prot (s : State) :
    ∃ q b u, (evaluationPoint s).prot = (protPoint q b u).prot ∧ u.prot = s.prot := by
  refine ⟨_, _, _, rfl, ?_⟩
  simp

theorem acceptSet_prot (set : SampleSet) (s : State) :
    (acceptSet set s).prot = s.prot ∨
      ∃ q b u, (acceptSet set s).prot = (protPoint q b u).prot ∧ u.prot = s.prot := by
  cases h : raisesPoint (measBefore set s)
  · rw [acceptSet_of_no_point h]
    exact .inl rfl
  · rw [acceptSet_of_point h]
    exact .inr (evaluationPoint_prot _)

theorem lossDeclared_signals {s : State} (h : lossDue s = true) :
    Ends (execLossDeclared s) fun t =>
      t.meas = flush s.meas ∧ t.prot = { zeroValues s.prot with sefOperated := false } := by
  simp [execLossDeclared, h, protLoss_prot]

/-! ## The six rows that move the two units -/

/-- What one command can make of the measurement unit and of the protection unit. -/
inductive SignalChange (s t : State) : Prop
  /-- Every other row: nothing but the end of suspension. -/
  | kept (h : OnlySuspensionMoved s t)
  /-- A well-formed set has been accepted (R4 to R15). -/
  | set (x : SampleSet) (h : t = acceptSet x s)
  /-- A loss has been declared (R3, R8, R36). -/
  | loss (hm : t.meas = flush s.meas) (hp : t.prot = { zeroValues s.prot with sefOperated := false })
  /-- A full restart (R16). -/
  | restart (g : Nat) (hm : t.meas = measAtRestart g)
      (hp : t.prot = ⟨⟨0, 0, 0⟩, 0, ⟨0, 0, 0⟩, 0, 0, false, false⟩)

theorem SignalChange.refl (s : State) : SignalChange s s := .kept ⟨rfl, rfl⟩

/-- A row that keeps the two units is a change of the first kind. -/
theorem SignalChange.of_kept {o : Host.Outcome State Fault Refusal} {s t : State} (h : Ends o (SignalsKept s))
    (e : o = .next t) : SignalChange s t := .kept (h t e).onlySuspension

theorem SignalChange.of_suspension {o : Host.Outcome State Fault Refusal} {s t : State}
    (h : Ends o (OnlySuspensionMoved s)) (e : o = .next t) : SignalChange s t := .kept (h t e)

/-- A host command's row keeps the two units when the command's owner does (R170). -/
theorem SignalChange.of_owner {k : CommandKind} {own : List Byte → State → Reply × State} {s t : State}
    (hown : ∀ p u, SignalsKept u (own p u).2)
    (e : .next (runCommand k own s) = (.next t : Host.Outcome State Fault Refusal)) : SignalChange s t := by
  cases e
  exact .kept (runCommand_signals k hown s).onlySuspension

theorem execSampleSetArrival_change (n f : Nat) (s : State) : Ends (execSampleSetArrival n f s) (SignalChange s) := by
  unfold execSampleSetArrival
  rw [ends_next]
  split
  · exact .set _ rfl
  · exact .refl s

theorem execLossDeclared_change (s : State) : Ends (execLossDeclared s) (SignalChange s) := by
  cases h : lossDue s
  · simpa [execLossDeclared, h] using SignalChange.refl s
  · intro t e
    obtain ⟨hm, hp⟩ := lossDeclared_signals h t e
    exact .loss hm hp

theorem execFullRestart_change (c : PowerCause) (b1 b0 : Bool) (s : State) :
    Ends (execFullRestart c b1 b0 s) (SignalChange s) := by
  intro t e
  cases e
  exact .restart _ rfl rfl

theorem execFullRestartByCommand_change (b1 b0 : Bool) (s : State) :
    Ends (execFullRestartByCommand b1 b0 s) (SignalChange s) := by
  unfold execFullRestartByCommand
  rw [ends_next]
  split
  · exact .restart _ rfl rfl
  · exact .refl s

/-- What a command can do to the two units, for every row of the table. -/
theorem exec_change (c : Instr) (s t : State) (e : exec c s = .next t) : SignalChange s t := by
  cases c with
  | fullRestart c b1 b0 => exact execFullRestart_change c b1 b0 s t e
  | fullRestartByCommand b1 b0 => exact execFullRestartByCommand_change b1 b0 s t e
  | sampleSetArrival n f => exact execSampleSetArrival_change n f s t e
  | lossDeclared => exact execLossDeclared_change s t e
  | timeBaseEvent a b r => exact .of_suspension (execTimeBaseEvent_suspension a b r s) e
  | tripTimerExpiry => exact .of_suspension (execTripTimerExpiry_suspension s) e
  | closeTimerExpiry => exact .of_kept (execCloseTimerExpiry_signals s) e
  | deadTimerExpiry => exact .of_kept (execDeadTimerExpiry_signals s) e
  | holdExceeded => exact .of_kept (execHoldExceeded_signals s) e
  | reclaimTimerExpiry => exact .of_kept (execReclaimTimerExpiry_signals s) e
  | scanEvent => exact .of_kept (execScanEvent_signals s) e
  | backingWriteCompletion b => exact .of_kept (execBackingWriteCompletion_signals b s) e
  | fireLevelExpiry => exact .of_kept (execFireLevelExpiry_signals s) e
  | slotEvent up => exact .of_kept (execSlotEvent_signals up s) e
  | takeTimeout => exact .of_kept (execTakeTimeout_signals s) e
  | downMessageEnd => exact .of_kept (execDownMessageEnd_signals s) e
  | holdingTimeout => exact .of_kept (execHoldingTimeout_signals s) e
  | refusingEnd => exact .of_kept (execRefusingEnd_signals s) e
  | coolDownEnd => exact .of_kept (execCoolDownEnd_signals s) e
  | status => exact .of_kept (execStatus_signals s) e
  | switchDone => exact .of_kept (execSwitchDone_signals s) e
  | startRequest => exact .of_kept (execStartRequest_signals s) e
  | startDone => exact .of_kept (execStartDone_signals s) e
  | startAbandon => exact .of_kept (execStartAbandon_signals s) e
  | pollTimerExpiry => exact .of_kept (execPollTimerExpiry_signals s) e
  | replyWaitExpiry a => exact .of_kept (execReplyWaitExpiry_signals a s) e
  | switchWaitExpiry => exact .of_kept (execSwitchWaitExpiry_signals s) e
  | dwellExpiry => exact .of_kept (execDwellExpiry_signals s) e
  | settlingEnd => exact .of_kept (execSettlingEnd_signals s) e
  | wholeSecondBoundary => exact .of_kept (execWholeSecondBoundary_signals s) e
  | requestLifetimeExpiry n => exact .of_kept (execRequestLifetimeExpiry_signals n s) e
  | startWindowExpiry => exact .of_kept (execStartWindowExpiry_signals s) e
  | hostByteReceived b => exact .of_kept (execHostByteReceived_signals b s) e
  | hostRecordArrival => exact .of_kept (execHostRecordArrival_signals s) e
  | receiveTimeout => exact .of_kept (execReceiveTimeout_signals s) e
  | transmissionStart => exact .of_kept (execTransmissionStart_signals s) e
  | transmissionEnd => exact .of_kept (execTransmissionEnd_signals s) e
  | echo => exact .of_owner (fun _ _ => ⟨rfl, rfl⟩) e
  | readStatus => exact .of_owner ownReadStatus_signals e
  | readMeasure => exact .of_owner (fun _ _ => ⟨rfl, rfl⟩) e
  | readImage => exact .of_owner ownReadImage_signals e
  | loadImage => exact .of_owner ownLoadImage_signals e
  | checkImages => exact .of_owner (fun _ => ownCheckImages_signals) e
  | setFireLevel => exact .of_owner ownSetFireLevel_signals e
  | selectGroup => exact .of_owner ownSelectGroup_signals e
  | trip => exact .of_owner (fun _ => ownTrip_signals) e
  | close => exact .of_owner (fun _ => ownClose_signals) e
  | resetLockout => exact .of_owner (fun _ => ownResetLockout_signals) e
  | setPermit => exact .of_owner ownSetPermit_signals e
  | ackConditions => exact .of_owner ownAckConditions_signals e
  | startHunt => exact .of_owner ownStartHunt_signals e
  | stopHunt => exact .of_owner ownStopHunt_signals e
  | requestStart => exact .of_owner ownRequestStart_signals e
  | cancelStart => exact .of_owner ownCancelStart_signals e
  | pilotQuery => exact .of_owner ownPilotQuery_signals e
  | setReportMask => exact .of_owner ownSetReportMask_signals e
  | restartLink => cases e; exact .kept (runRestart_signals _ s).onlySuspension
  | restartFull => cases e; exact .kept (runRestart_signals _ s).onlySuspension

/-- What a step can do to the two units: what a command can, or nothing on an empty queue. -/
theorem step_change {s t : State} (e : step s = .next t) : ∃ u, SignalsKept s u ∧ SignalChange u t := by
  unfold step at e
  split at e
  · cases e
    exact ⟨s, ⟨rfl, rfl⟩, .refl s⟩
  · next c rest _ => exact ⟨s.setPending rest, ⟨rfl, rfl⟩, exec_change c _ t e⟩

end Sys2Proof.Machine

/-! PROOFS. The invariants of the measurement unit (R6, R7) and of the protection unit (R20, R23), kept by every step. -/

namespace Sys2Proof.Machine

/-! ## Windows and sums -/

/-- A window holds the fill count of entries and its sum is exact (R6). -/
structure WindowExact (fill : Nat) (w : List Sample) (sum : Nat) : Prop where
  length : w.length = fill
  exact : SumExact w sum

/-- `MeasurementExact`, of the measurement unit alone (R6, R7). -/
structure MeasExact (m : Measurement) : Prop where
  fill_le : m.fill ≤ 32
  phase_le : m.phase ≤ 15
  filling : m.fill < 32 → m.phase = 0
  ia : WindowExact m.fill m.windows.ia m.sums.ia
  ib : WindowExact m.fill m.windows.ib m.sums.ib
  ic : WindowExact m.fill m.windows.ic m.sums.ic
  inn : WindowExact m.fill m.windows.inn m.sums.inn
  vn : WindowExact m.fill m.windows.vn m.sums.vn

theorem measurementExact_iff (s : State) : MeasurementExact s ↔ MeasExact s.meas := by
  constructor
  · rintro ⟨hf, hp, h0, ⟨la, lb, lc, ln, lv⟩, ea, eb, ec, en, ev⟩
    exact ⟨hf, hp, h0, ⟨la, ea⟩, ⟨lb, eb⟩, ⟨lc, ec⟩, ⟨ln, en⟩, ⟨lv, ev⟩⟩
  · rintro ⟨hf, hp, h0, ⟨la, ea⟩, ⟨lb, eb⟩, ⟨lc, ec⟩, ⟨ln, en⟩, ⟨lv, ev⟩⟩
    exact ⟨hf, hp, h0, ⟨la, lb, lc, ln, lv⟩, ea, eb, ec, en, ev⟩

/-- The record stands outside the invariant. -/
theorem MeasExact.withRecord {m : Measurement} (h : MeasExact m) (r : EvalRecord) :
    MeasExact { m with latest := r } := by
  obtain ⟨hf, hp, h0, ha, hb, hc, hn, hv⟩ := h
  exact ⟨hf, hp, h0, ha, hb, hc, hn, hv⟩

theorem windowExact_empty : WindowExact 0 [] 0 := ⟨rfl, rfl⟩

/-- A flushed unit is exact (R8). -/
theorem measExact_empty (r : EvalRecord) :
    MeasExact { windows := ⟨[], [], [], [], []⟩, sums := ⟨0, 0, 0, 0, 0⟩, fill := 0, phase := 0, latest := r } :=
  ⟨Nat.zero_le _, Nat.zero_le _, fun _ => rfl, windowExact_empty, windowExact_empty, windowExact_empty,
    windowExact_empty, windowExact_empty⟩

/-- A filling window takes one entry more, and its square more (R6). -/
theorem WindowExact.push {fill sum : Nat} {w : List Sample} (h : WindowExact fill w sum) (x : Sample) :
    WindowExact (fill + 1) (slide false w x) (slideSum false w sum x) where
  length := by simp [slide, h.length]
  exact := by simp [SumExact, slide, slideSum, h.exact]

/-- A full window gives its oldest entry and that one's square for the newest (R6). -/
theorem WindowExact.shift {fill sum : Nat} {w : List Sample} (h : WindowExact fill w sum) (hf : 0 < fill)
    (x : Sample) : WindowExact fill (slide true w x) (slideSum true w sum x) := by
  obtain ⟨hl, he⟩ := h
  cases w with
  | nil => simp at hl; omega
  | cons y w =>
    simp only [SumExact, List.map_cons, List.sum_cons] at he
    exact ⟨by simpa [slide] using hl, by simp [SumExact, slide, slideSum]; omega⟩

theorem WindowExact.next {fill sum : Nat} {w : List Sample} (h : WindowExact fill w sum) (x : Sample) :
    WindowExact (if fill < 32 then fill + 1 else fill) (slide (!decide (fill < 32)) w x)
      (slideSum (!decide (fill < 32)) w sum x) := by
  by_cases hf : fill < 32
  · simpa [hf] using h.push x
  · simpa [hf] using h.shift (by omega) x

theorem takeIn_fill (set : SampleSet) (m : Measurement) :
    (takeIn set m).fill = if m.fill < 32 then m.fill + 1 else m.fill := rfl

/-- The phase counts the sets since the last point, and stands while the windows fill (R7). -/
theorem takeIn_phase (set : SampleSet) (m : Measurement) :
    (takeIn set m).phase =
      if m.fill < 32 then if m.fill = 31 then 0 else m.phase else if m.phase = 15 then 0 else m.phase + 1 := by
  by_cases h : m.fill < 32 <;> simp [takeIn, raisesPoint, h]

/-- A set taken in keeps windows, sums, fill and phase exact (R6, R7). -/
theorem MeasExact.afterSet {m : Measurement} (h : MeasExact m) (set : SampleSet) : MeasExact (takeIn set m) := by
  obtain ⟨hf, hp, h0, ha, hb, hc, hn, hv⟩ := h
  refine ⟨?fill, ?phase, ?filling, ha.next _, hb.next _, hc.next _, hn.next _, hv.next _⟩
  case fill =>
    rw [takeIn_fill]
    split_ifs <;> omega
  case phase =>
    rw [takeIn_phase]
    split_ifs <;> omega
  case filling =>
    rw [takeIn_fill, takeIn_phase]
    split_ifs <;> omega

/-- A restart, a loss and a set keep the unit exact (R3, R6, R7, R8, R16). -/
theorem SignalChange.measExact {s t : State} (h : SignalChange s t) (hs : MeasExact s.meas) : MeasExact t.meas := by
  cases h with
  | kept h => rw [h.1]; exact hs
  | set x h =>
    have hb : MeasExact (measBefore x s) := by
      unfold measBefore
      split
      · exact measExact_empty _
      · exact hs
    obtain ⟨r, e⟩ := acceptSet_meas x s
    rw [h, e]
    exact (hb.afterSet x).withRecord r
  | loss hm _ => rw [hm]; exact measExact_empty _
  | restart g hm _ => rw [hm]; exact measExact_empty _

/-! ## Accumulators and counts -/

theorem accStep_le (c : Option Curve) (tms : Nat) (q : Option Nat) {a : Nat} (h : a ≤ accFull) :
    accStep c tms q a ≤ accFull := by
  unfold accStep
  split
  · split
    · exact Nat.min_le_left ..
    · exact h
    · unfold resetAcc
      split <;> omega
  · exact Nat.zero_le _

theorem countStep_le (q : Option Nat) {n : Nat} (h : n ≤ 65535) : countStep q n ≤ 65535 := by
  unfold countStep
  split
  · split
    · exact Nat.min_le_left ..
    · exact h
    · exact Nat.zero_le _
  · exact Nat.zero_le _

theorem heldBy_le {b : Bool} {v n : Nat} (h : v ≤ n) : heldBy b v ≤ n := by
  unfold heldBy
  split
  · exact Nat.zero_le _
  · exact h

/-- `ProtectionBounded`, of the protection unit alone (R20, R23). -/
structure ValuesBounded (p : Protection) : Prop where
  phTime : p.phTime.a ≤ accFull ∧ p.phTime.b ≤ accFull ∧ p.phTime.c ≤ accFull
  efTime : p.efTime ≤ accFull
  phHigh : p.phHigh.a ≤ 65535 ∧ p.phHigh.b ≤ 65535 ∧ p.phHigh.c ≤ 65535
  efHigh : p.efHigh ≤ 65535
  sef : p.sef ≤ 65535

theorem protectionBounded_iff (s : State) : ProtectionBounded s ↔ ValuesBounded s.prot :=
  ⟨fun ⟨h1, h2, h3, h4, h5⟩ => ⟨h1, h2, h3, h4, h5⟩, fun ⟨h1, h2, h3, h4, h5⟩ => ⟨h1, h2, h3, h4, h5⟩⟩

/-- The two flags stand outside the invariant. -/
theorem ValuesBounded.withFlags {p : Protection} (h : ValuesBounded p) (operated suspended : Bool) :
    ValuesBounded { p with sefOperated := operated, suspended := suspended } := by
  obtain ⟨h1, h2, h3, h4, h5⟩ := h
  exact ⟨h1, h2, h3, h4, h5⟩

theorem valuesBounded_zero (operated suspended : Bool) :
    ValuesBounded ⟨⟨0, 0, 0⟩, 0, ⟨0, 0, 0⟩, 0, 0, operated, suspended⟩ := by
  constructor <;> simp

/-- Stage 3 keeps every value in its range (R20, R21, R23, R34). -/
theorem ValuesBounded.afterStage3 {p : Protection} (h : ValuesBounded p) (f : InForce) (q : Multiples) :
    ValuesBounded (stepValues f q p) := by
  obtain ⟨⟨ta, tb, tc⟩, et, ⟨ha, hb, hc⟩, eh, hs⟩ := h
  exact
    { phTime := ⟨heldBy_le (accStep_le _ _ _ ta), heldBy_le (accStep_le _ _ _ tb), heldBy_le (accStep_le _ _ _ tc)⟩
      efTime := heldBy_le (accStep_le _ _ _ et)
      phHigh := ⟨heldBy_le (countStep_le _ ha), heldBy_le (countStep_le _ hb), heldBy_le (countStep_le _ hc)⟩
      efHigh := heldBy_le (countStep_le _ eh)
      sef := heldBy_le (countStep_le _ hs) }

/-- A point keeps every value in its range, with and without a trip (R17, R33). -/
theorem protPoint_bounded (q : Multiples) (b : Bool) {s : State} (h : ValuesBounded s.prot) :
    ValuesBounded (protPoint q b s).prot := by
  by_cases he : tripEntries s.settings q (stepValues s.regime.inForce q s.prot) = []
  · rw [protPoint_prot_of_no_entry he]
    exact (h.afterStage3 _ q).withFlags _ _
  · rw [protPoint_prot_of_entry he]
    exact valuesBounded_zero _ _

theorem SignalChange.valuesBounded {s t : State} (h : SignalChange s t) (hs : ValuesBounded s.prot) :
    ValuesBounded t.prot := by
  cases h with
  | kept h => rw [h.2]; exact hs.withFlags _ _
  | set x h =>
    rw [h]
    rcases acceptSet_prot x s with e | ⟨q, b, u, e, hu⟩
    · rw [e]; exact hs
    · rw [e]; exact protPoint_bounded q b (hu ▸ hs)
  | loss _ hp => rw [hp]; exact valuesBounded_zero _ _
  | restart _ _ hp => rw [hp]; exact valuesBounded_zero _ _

/-! ## Every step -/

/-- Settles O53: every row is one of the changes of `SignalChange`, each of which keeps both invariants. -/
theorem stepKeepsMeasurementAndProtection : Obligations.StepKeepsMeasurementAndProtection := by
  refine ⟨fun s t hs e => ?_, fun s t hs e => ?_⟩
  · obtain ⟨u, ⟨hm, _⟩, hc⟩ := step_change e
    rw [measurementExact_iff] at hs ⊢
    exact hc.measExact (hm ▸ hs)
  · obtain ⟨u, ⟨_, hp⟩, hc⟩ := step_change e
    rw [protectionBounded_iff] at hs ⊢
    exact hc.valuesBounded (hp ▸ hs)

end Sys2Proof.Machine

/-! PROOFS. Sampling: the squared multiple (R10), the acceptance of a set (R1 to R8), and the loss (R3). -/

namespace Sys2Proof.Machine

/-! ## The squared multiple -/

theorem squaredMultiple_eq (e p : Nat) : squaredMultiple e p = min 65535 (e * 256 / p ^ 2) := by
  rw [squaredMultiple, Nat.pow_two]

/-- A multiple is picked up exactly at or above its pickup (R10, R18). -/
theorem le_squaredMultiple_iff (e : Nat) {p : Nat} (h : 0 < p) : 256 ≤ squaredMultiple e p ↔ p ^ 2 ≤ e := by
  have hdiv : 256 ≤ e * 256 / p ^ 2 ↔ 256 * p ^ 2 ≤ e * 256 := Nat.le_div_iff_mul_le (Nat.pow_pos h)
  rw [squaredMultiple_eq]
  omega

/-- Settles O8, by the arithmetic of the floor. -/
theorem squaredMultipleOfAPickup : Obligations.SquaredMultipleOfAPickup := by
  intro e p
  refine ⟨fun hp _ => ⟨?_, le_squaredMultiple_iff e (by omega)⟩, fun he => ?_, fun he => ?_, rfl⟩
  · rw [← squaredMultiple_eq]
    rfl
  · rw [squaredMultiple_eq]
    omega
  · rw [squaredMultiple_eq]
    omega

/-! ## The acceptance of a set -/

theorem frameWellFormed_iff (nbits frame : Nat) :
    frameWellFormed nbits frame = true ↔
      nbits = 96 ∧ (frameWord frame 5).extractLsb' 8 8 = 0xA5 ∧ (frameWord frame 5).extractLsb' 5 3 = 0 := by
  simp [frameWellFormed, and_assoc]

theorem exec_sampleSetArrival_of_malformed {nbits frame : Nat} (s : State) (h : ¬ frameWellFormed nbits frame = true) :
    exec (.sampleSetArrival nbits frame) s = .next s :=
  congrArg Host.Outcome.next (if_neg h)

theorem exec_sampleSetArrival_of_wellFormed {nbits frame : Nat} (s : State) (h : frameWellFormed nbits frame = true) :
    exec (.sampleSetArrival nbits frame) s = .next (acceptSet (sampleSetOf frame) s) :=
  congrArg Host.Outcome.next (if_pos h)

theorem revealsGap_iff (p : SamplePort) (seq : BitVec 4) :
    revealsGap p seq = true ↔ p.state = .tracking ∧ p.lastSeq ≠ some (seq - 1) := by
  simp [revealsGap]

theorem measBefore_eq (set : SampleSet) (s : State) :
    measBefore set s =
      if s.port.state = .tracking ∧ s.port.lastSeq ≠ some (set.seq - 1) then flush s.meas else s.meas := by
  simp only [measBefore, revealsGap_iff]

theorem square_eq (x : Int) : square x = x.natAbs ^ 2 := (Nat.pow_two _).symm

/-- No point is raised before the 32nd set of a fill, nor before the 16th after a point (R7). -/
theorem raisesPoint_eq_false {m : Measurement} (h : m.fill < 31 ∨ 32 ≤ m.fill ∧ m.phase < 15) :
    raisesPoint m = false := by
  unfold raisesPoint
  split <;> simp <;> omega

/-- A point is raised by the 32nd set of a fill and by each 16th after a point (R7). -/
theorem raisesPoint_eq_true {m : Measurement} (h : m.fill = 31 ∨ 32 ≤ m.fill ∧ m.phase = 15) :
    raisesPoint m = true := by
  unfold raisesPoint
  split <;> simp <;> omega

theorem slide_eq (n : Nat) (w : List Sample) (x : Sample) :
    slide (!decide (n < 32)) w x = (if n < 32 then w else w.drop 1) ++ [x] := by
  by_cases h : n < 32 <;> simp [slide, h]

theorem slideSum_eq (n : Nat) (w : List Sample) (sum : Nat) (x : Sample) :
    slideSum (!decide (n < 32)) w sum x =
      if n < 32 then sum + x.value.natAbs ^ 2
      else sum + x.value.natAbs ^ 2 - (w.headD ⟨0, false⟩).value.natAbs ^ 2 := by
  by_cases h : n < 32 <;> simp [slideSum, square_eq, h]

/-- The measurement unit after a set that raises no point (R6, R7). -/
theorem takeIn_of_no_point {set : SampleSet} {m : Measurement} (h : raisesPoint m = false) :
    takeIn set m =
      { m with
        windows :=
          m.windows.zip (fun w x => (if m.fill < 32 then w else w.drop 1) ++ [x])
            (set.values.map fun v => { value := v, clip := v == -32768 || v == 32767 || set.overload })
        sums :=
          (m.windows.zip Prod.mk (m.sums.zip Prod.mk set.values)).map fun p =>
            if m.fill < 32 then p.2.1 + p.2.2.natAbs ^ 2
            else p.2.1 + p.2.2.natAbs ^ 2 - (p.1.headD ⟨0, false⟩).value.natAbs ^ 2
        fill := if m.fill < 32 then m.fill + 1 else m.fill
        phase := if m.fill < 32 then m.phase else m.phase + 1 } := by
  simp only [takeIn, h, slideSums, slideSum_eq, entriesOf, fullScale, Five.zip, Five.map, slide_eq]
  rfl

/-- Settles O6: a malformed frame is not accepted, and a set that raises no point ends in `takenIn`. -/
theorem framesAreDiscardedOrTaken : Obligations.FramesAreDiscardedOrTaken := by
  refine ⟨fun nbits frame s h => ?_, fun frame s m hmark hzero hm hpoint => ?_⟩
  · refine exec_sampleSetArrival_of_malformed s fun hw => ?_
    obtain ⟨h96, hmark, hzero⟩ := (frameWellFormed_iff _ _).mp hw
    rcases h with h | h | h
    · exact h h96
    · exact h hmark
    · exact h hzero
  · obtain rfl : m = measBefore (sampleSetOf frame) s := by rw [hm, measBefore_eq]; rfl
    have hquiet := raisesPoint_eq_false hpoint
    rw [exec_sampleSetArrival_of_wellFormed s ((frameWellFormed_iff _ _).mpr ⟨rfl, hmark, hzero⟩),
      acceptSet_of_no_point hquiet, takenIn, takeIn_of_no_point hquiet]
    rfl

/-! ## The loss -/

theorem lossDue_iff (s : State) :
    lossDue s = true ↔ s.port.state ≠ .lost ∧ 2 ≤ elapsed s.time s.port.lastArrival := by
  simp [lossDue]

theorem protLoss_mon_active (s : State) : (protLoss s).mon.recs.earthFaultStanding.active = false :=
  setCondition_active (c := .earthFaultStanding) (by decide) false _

theorem protLoss_mon_other {d : Cond} (h : d ≠ .earthFaultStanding) (h' : d ≠ .huntActive) (s : State) :
    (protLoss s).mon.recs.get d = s.mon.recs.get d :=
  setCondition_other h h' false _

/-- The state that a declared loss hands to the protection unit: LOST, flushed, SAMPLE_LOSS active (R3, R8). -/
def lossMarked (s : State) : State :=
  setCondition .sampleLoss true ((s.setPort { s.port with state := .lost, lastSeq := none }).setMeas (flush s.meas))

@[simp] theorem lossMarked_frame (s : State) :
    (lossMarked s).time = s.time ∧ (lossMarked s).due = s.due ∧
    (lossMarked s).port = { s.port with state := .lost, lastSeq := none } ∧ (lossMarked s).meas = flush s.meas ∧
    (lossMarked s).prot = s.prot ∧ (lossMarked s).store = s.store ∧ (lossMarked s).regime = s.regime ∧
    (lossMarked s).adm = s.adm ∧ (lossMarked s).resetLow = s.resetLow ∧ (lossMarked s).freeIx = s.freeIx ∧
    (lossMarked s).pending = s.pending := by
  simp [lossMarked]

theorem lossMarked_line (s : State) : SameLine s (lossMarked s) := by simp [SameLine, lossMarked]

theorem exec_lossDeclared (s : State) :
    exec .lossDeclared s = .next (if lossDue s then protLoss (lossMarked s) else s) := rfl

theorem protLoss_lossMarked_sampleLoss (s : State) :
    (protLoss (lossMarked s)).mon.recs.sampleLoss.active = true := by
  have h := protLoss_mon_other (d := .sampleLoss) (by decide) (by decide) (lossMarked s)
  exact (congrArg CondRec.active h).trans (setCondition_active (c := .sampleLoss) (by decide) true _)

/-- Settles O9: a due loss ends in `protLoss` of `lossMarked`, and one that is not due changes nothing. -/
theorem lossFlushesAndZeroes : Obligations.LossFlushesAndZeroes := by
  refine ⟨fun s hstate hage => ?_, fun s h => ?_⟩
  · have hdue : lossDue s = true := (lossDue_iff s).mpr ⟨hstate, hage⟩
    refine ⟨protLoss (lossMarked s), by rw [exec_lossDeclared, if_pos hdue], ?_⟩
    simp [SameSettings, SameLine, lossMarked_line, protLoss_prot, protLoss_mon_active,
      protLoss_lossMarked_sampleLoss, zeroValues, flush]
  · have hdue : ¬ lossDue s = true := fun hd => by
      obtain ⟨hstate, hage⟩ := (lossDue_iff s).mp hd
      rcases h with h | h
      · exact hstate h
      · omega
    rw [exec_lossDeclared, if_neg hdue]

end Sys2Proof.Machine

/-! PROOFS. What the hand-offs of an evaluation point leave alone: the accepted position and READY, which the quiet test
reads; the start admission unit's quiet time; and every condition but the two that a point can move. -/

namespace Sys2Proof.Machine

/-! ## The accepted position and READY, up to the hand-off of a point -/

theorem seqTo_seq (r : Sequencer) (e : SeqEvent) (o : Option ChangeOrigin) (s : State) :
    (seqTo r e o s).seq = r := by
  unfold seqTo
  split <;> simp

@[simp] theorem releaseClose_accepted (s : State) : (releaseClose s).brk.accepted = s.brk.accepted := by
  simp [releaseClose]

@[simp] theorem seqWithdrawn_state (s : State) : (seqWithdrawn s).seq.state = s.seq.state := by
  unfold seqWithdrawn
  split <;> simp

@[simp] theorem breakerHardChange_ready (oh : List Cond) (s : State) :
    (breakerHardChange oh s).brk.accepted = s.brk.accepted ∧
    (breakerHardChange oh s).seq.state = s.seq.state := by
  unfold breakerHardChange
  split <;> simp

/-- A change of the block set moves DEAD_TIME and CLOSING alone, and neither of them to READY (R84 to R86, R89). -/
@[simp] theorem seqBlockChange_ready (oh oo : List Cond) (s : State) :
    ((seqBlockChange oh oo s).seq.state = .ready ↔ s.seq.state = .ready) := by
  cases h : s.seq.state with
  | deadTime =>
    simp only [seqBlockChange, h, seqHold]
    repeat' split
    all_goals simp [seqTo_seq, enterLockout, h]
  | closing =>
    simp only [seqBlockChange, h]
    split <;> simp [seqTo_seq, enterLockout, h]
  | ready => simp [seqBlockChange, h]
  | opening => simp [seqBlockChange, h]
  | reclaim => simp [seqBlockChange, h]
  | lockout => simp [seqBlockChange, h]

@[simp] theorem adoptRecords_ready (t : CondTable CondRec) (s : State) :
    (adoptRecords t s).brk.accepted = s.brk.accepted ∧
    ((adoptRecords t s).seq.state = .ready ↔ s.seq.state = .ready) := by
  unfold adoptRecords
  split <;> simp

@[simp] theorem ownerReport_ready (c : Cond) (a : Bool) (s : State) :
    (ownerReport c a s).brk.accepted = s.brk.accepted ∧
    ((ownerReport c a s).seq.state = .ready ↔ s.seq.state = .ready) := by
  unfold ownerReport
  split <;> simp

@[simp] theorem finishHunt_ready (r : LastResult) (l : List StepRecord) (n : HuntState) (s : State) :
    (finishHunt r l n s).brk.accepted = s.brk.accepted ∧
    ((finishHunt r l n s).seq.state = .ready ↔ s.seq.state = .ready) := by
  simp [finishHunt]

@[simp] theorem huntAbort_ready (k : AbortCause) (s : State) :
    (huntAbort k s).brk.accepted = s.brk.accepted ∧
    ((huntAbort k s).seq.state = .ready ↔ s.seq.state = .ready) := by
  unfold huntAbort
  dsimp only
  split <;> simp [endHunt]

@[simp] theorem huntBarArrival_ready (b s : State) :
    (huntBarArrival b s).brk.accepted = s.brk.accepted ∧
    ((huntBarArrival b s).seq.state = .ready ↔ s.seq.state = .ready) := by
  unfold huntBarArrival
  split <;> simp

@[simp] theorem setCondition_ready (c : Cond) (a : Bool) (s : State) :
    (setCondition c a s).brk.accepted = s.brk.accepted ∧
    ((setCondition c a s).seq.state = .ready ↔ s.seq.state = .ready) := by
  simp [setCondition]

@[simp] theorem huntGroupChange_ready (s : State) :
    (huntGroupChange s).brk.accepted = s.brk.accepted ∧
    ((huntGroupChange s).seq.state = .ready ↔ s.seq.state = .ready) := by
  unfold huntGroupChange
  split <;> simp

/-- A move of the sequencer that does not leave READY ends no start window (R99, R165). -/
theorem seqMove_of_not_ready {s : State} (h : s.seq.state ≠ .ready) (r : Sequencer) (e : SeqEvent)
    (o : Option ChangeOrigin) : seqMove r e o s = seqTo r e o s :=
  if_neg fun h' => h h'.1

/-- A group change moves DEAD_TIME alone, to LOCKOUT, so it ends no start window (R94). -/
@[simp] theorem seqGroupChange_ready (s : State) :
    (seqGroupChange s).brk.accepted = s.brk.accepted ∧
    ((seqGroupChange s).seq.state = .ready ↔ s.seq.state = .ready) ∧ (seqGroupChange s).adm = s.adm := by
  by_cases h : s.seq.state = .deadTime
  · have hr : s.seq.state ≠ .ready := by rw [h]; decide
    simp only [seqGroupChange, if_pos h, seqMove_of_not_ready hr]
    repeat' split
    all_goals simp [seqTo_seq, enterLockout, hr]
  · simp [seqGroupChange, h]

@[simp] theorem takeIntoForce_ready (g : Nat) (s : State) :
    (takeIntoForce g s).brk.accepted = s.brk.accepted ∧
    ((takeIntoForce g s).seq.state = .ready ↔ s.seq.state = .ready) ∧ (takeIntoForce g s).adm = s.adm := by
  unfold takeIntoForce judgeFireRegime
  dsimp only
  split <;> simp

@[simp] theorem groupWork_ready (s : State) :
    (groupWork s).brk.accepted = s.brk.accepted ∧
    ((groupWork s).seq.state = .ready ↔ s.seq.state = .ready) ∧ (groupWork s).adm = s.adm := by
  unfold groupWork
  dsimp only
  split <;> simp

/-! ## Quiet time at a trip -/

@[simp] theorem queueRelease_quiet (d a : Nat) (s : State) :
    (queueRelease d a s).adm.quiet = s.adm.quiet ∧ (queueRelease d a s).adm.second = s.adm.second := by
  unfold queueRelease
  split
  · simp
  · split
    · have hq := joinQueue_frame ‹_›
      simp [hq]
    · simp

@[simp] theorem settleGrant_quiet (w : StartWindow) (b : Bool) (s : State) :
    (settleGrant w b s).adm.quiet = s.adm.quiet ∧ (settleGrant w b s).adm.second = s.adm.second := by
  unfold settleGrant
  repeat' split
  all_goals simp

@[simp] theorem endWindow_quiet (c : StartCause) (s : State) :
    (endWindow c s).adm.quiet = s.adm.quiet ∧ (endWindow c s).adm.second = s.adm.second := by
  unfold endWindow
  split
  · simp
  · simp [updateDrive]

@[simp] theorem seqMove_quiet (r : Sequencer) (e : SeqEvent) (o : Option ChangeOrigin) (s : State) :
    (seqMove r e o s).adm.quiet = s.adm.quiet ∧ (seqMove r e o s).adm.second = s.adm.second := by
  unfold seqMove
  split <;> simp

@[simp] theorem seqTrip_quiet (t : LastTrip) (s : State) :
    (seqTrip t s).adm.quiet = s.adm.quiet ∧ (seqTrip t s).adm.second = s.adm.second := by
  unfold seqTrip tripFromClosed
  repeat' split
  all_goals simp

@[simp] theorem issueTrip_quiet (t : Trip) (s : State) :
    (issueTrip t s).adm.quiet = s.adm.quiet ∧ (issueTrip t s).adm.second = s.adm.second := by
  simp [issueTrip, handTrip]

/-- The protection unit's work at a point leaves quiet time to the admission unit (R14, R160). -/
theorem protPoint_quiet (q : Multiples) (b : Bool) (s : State) :
    (protPoint q b s).adm.quiet = s.adm.quiet ∧ (protPoint q b s).adm.second = s.adm.second := by
  by_cases h : tripEntries s.settings q (stepValues s.regime.inForce q s.prot) = []
  · simp [protPoint_of_no_entry h]
  · obtain ⟨trip, e⟩ := protPoint_of_entry h
    rw [e]
    simp

/-! ## Conditions at a trip -/

section Conditions

variable {d : Cond} (h : d ≠ .huntActive)
include h

theorem finishHunt_other (r : LastResult) (l : List StepRecord) (n : HuntState) (s : State) :
    (finishHunt r l n s).mon.recs.get d = s.mon.recs.get d := by
  simp [finishHunt, ownerReport_other h]

theorem beginSteps_other (u : Option Nat) (l : List HuntStep) (s : State) :
    (beginSteps u l s).mon.recs.get d = s.mon.recs.get d := by
  induction l generalizing s with
  | nil => simp [beginSteps, endHunt, finishHunt_other h]
  | cons st rest ih =>
    unfold beginSteps
    dsimp only
    split
    · split
      · have hq := sendHunt_frame ‹_›
        simp [hq]
      · simp [ih]
    · simp [ih]

theorem startHuntNow_other (o : Option HuntOrigin) (s : State) :
    (startHuntNow o s).mon.recs.get d = s.mon.recs.get d := by
  simp [startHuntNow, huntBarArrival_other h, beginSteps_other h, ownerReport_other h]

theorem huntNotStarted_other (r : NotStarted) (o : Option HuntOrigin) (s : State) :
    (huntNotStarted r o s).mon.recs.get d = s.mon.recs.get d := finishHunt_other h _ _ _ _

theorem admitHunt_other (o : HuntOrigin) (s : State) :
    (admitHunt o s).mon.recs.get d = s.mon.recs.get d := by
  unfold admitHunt
  split
  · simp [huntBarArrival_other h, ownerReport_other h]
  · exact startHuntNow_other h _ _

theorem huntRequestSef_other (s : State) : (huntRequestSef s).mon.recs.get d = s.mon.recs.get d := by
  unfold huntRequestSef
  split
  · exact admitHunt_other h _ _
  · simp
  · exact huntNotStarted_other h _ _ _

theorem huntWindowClosed_other (s : State) : (huntWindowClosed s).mon.recs.get d = s.mon.recs.get d := by
  unfold huntWindowClosed
  split
  · split
    · exact startHuntNow_other h _ _
    · exact huntNotStarted_other h _ _ _
  · rfl

theorem endWindow_other (c : StartCause) (s : State) : (endWindow c s).mon.recs.get d = s.mon.recs.get d := by
  unfold endWindow
  split
  · rfl
  · simp [huntWindowClosed_other h]

theorem seqMove_other (r : Sequencer) (e : SeqEvent) (o : Option ChangeOrigin) (s : State) :
    (seqMove r e o s).mon.recs.get d = s.mon.recs.get d := by
  unfold seqMove
  split <;> simp [endWindow_other h]

theorem seqTrip_other (t : LastTrip) (s : State) : (seqTrip t s).mon.recs.get d = s.mon.recs.get d := by
  unfold seqTrip tripFromClosed
  repeat' split
  all_goals simp [seqMove_other h]

/-- A trip moves no condition but HUNT_ACTIVE (R32, R150, R165). -/
theorem issueTrip_other (t : Trip) (s : State) : (issueTrip t s).mon.recs.get d = s.mon.recs.get d := by
  simp [issueTrip, handTrip, seqTrip_other h, endWindow_other h, huntAbort_other h]

theorem sefStage_other (h' : d ≠ .earthFaultStanding) (s : State) :
    (sefStage s).mon.recs.get d = s.mon.recs.get d := by
  unfold sefStage
  dsimp only
  split <;> simp [huntRequestSef_other h, setCondition_other h' h]

/-- A point moves no condition but EARTH_FAULT_STANDING and HUNT_ACTIVE at the protection unit (R17, R27, R28). -/
theorem protPoint_other (h' : d ≠ .earthFaultStanding) (q : Multiples) (b : Bool) (s : State) :
    (protPoint q b s).mon.recs.get d = s.mon.recs.get d := by
  by_cases he : tripEntries s.settings q (stepValues s.regime.inForce q s.prot) = []
  · simp [protPoint_of_no_entry he, sefStage_other h h']
  · obtain ⟨trip, e⟩ := protPoint_of_entry he
    rw [e, sefStage_other h h', issueTrip_other h]
    rfl

end Conditions

end Sys2Proof.Machine

/-! PROOFS. The evaluation point: the record that replaces the latest one, and its hand-off to the admission unit and to
the protection unit (R7 to R17, R160). -/

namespace Sys2Proof.Machine

/-- The state that an evaluation point hands on: the group work done, the record replaced and SAMPLE_LOSS cleared
(R13, R15, R62). -/
def pointReady (s : State) : State := setCondition .sampleLoss false (storeRecord (groupWork s))

theorem evaluationPoint_eq (s : State) : evaluationPoint s = handPoint (pointReady s) := rfl

@[simp] theorem pointReady_frame (s : State) :
    (pointReady s).time = s.time ∧ (pointReady s).due = s.due ∧
    (pointReady s).meas = { s.meas with latest := recordOf (groupWork s) } ∧ (pointReady s).prot = s.prot ∧
    (pointReady s).store = s.store ∧ (pointReady s).regime = (groupWork s).regime ∧ (pointReady s).adm = s.adm ∧
    (pointReady s).brk.accepted = s.brk.accepted ∧
    ((pointReady s).seq.state = .ready ↔ s.seq.state = .ready) ∧ (pointReady s).resetLow = s.resetLow ∧
    (pointReady s).freeIx = s.freeIx := by
  simp [pointReady, storeRecord_meas]

theorem pointReady_line (s : State) : SameLine s (pointReady s) := by simp [SameLine, pointReady, storeRecord]

theorem pointReady_sampleLoss (s : State) : (pointReady s).mon.recs.sampleLoss.active = false :=
  setCondition_active (c := .sampleLoss) (by decide) false _

/-- The hand-off of a point leaves SAMPLE_LOSS as it stands (R14). -/
theorem handPoint_sampleLoss (s : State) : (handPoint s).mon.recs.sampleLoss = s.mon.recs.sampleLoss := by
  have hadm : (admPoint s.meas.latest.q s).mon = s.mon := by simp
  have h := protPoint_other (d := .sampleLoss) (by decide) (by decide) s.meas.latest.q s.meas.latest.startPickups
    (admPoint s.meas.latest.q s)
  rw [hadm] at h
  exact h

theorem sefFlag_eq (g : GroupSettings) (count : Nat) (old : Bool) :
    sefFlag g count old =
      if g.sef.mode = .trip ∨ count = 0 then false else if g.sef.delay ≤ count then true else old := by
  by_cases hm : g.sef.mode = .trip <;> simp [sefFlag, sefTrips, hm]

/-- What the protection unit makes of a point is `PointMoved` (R17, R27, R31 to R34, R38). -/
theorem protPoint_moved (q : Multiples) (b : Bool) {s u : State} (hp : u.prot = s.prot)
    (ha : u.brk.accepted = s.brk.accepted) : PointMoved u.regime.inForce q s (protPoint q b u).prot := by
  unfold PointMoved
  rw [← hp, ← ha]
  refine ⟨fun h => ?_, fun h => protPoint_prot_of_entry h⟩
  rw [protPoint_prot_of_no_entry h, sefFlag_eq]
  rfl

theorem quietValue_iff (v : Option Nat) : quietValue v = true ↔ ∃ n, v = some n ∧ n < 256 := by
  cases v <;> simp [quietValue]

/-- A quiet point: no window, READY, CLOSED, and the three phases below their quiet levels (R160). -/
theorem pointIsQuiet_iff (q : Multiples) (s : State) :
    pointIsQuiet q s = true ↔
      s.adm.window = none ∧ s.seq.state = .ready ∧ s.brk.accepted = .closed ∧ quietValue q.quiet.a = true ∧
        quietValue q.quiet.b = true ∧ quietValue q.quiet.c = true := by
  simp [pointIsQuiet, and_assoc]

/-- The quiet test of `pointIsQuiet` is that of `QuietTested`, on a state with the same window, position and READY
(R160). -/
theorem admPoint_tested (q : Multiples) {s u : State} (hadm : u.adm = s.adm)
    (ha : u.brk.accepted = s.brk.accepted) (hr : u.seq.state = .ready ↔ s.seq.state = .ready) :
    QuietTested q s (admPoint q u).adm.quiet (admPoint q u).adm.second := by
  have hiff := pointIsQuiet_iff q u
  rw [hadm, ha, hr] at hiff
  constructor
  · intro a b c hw hs hb hq la lb lc
    have hquiet : pointIsQuiet q u = true := by
      rw [hiff, hq]
      simp [quietValue, hw, hs, hb, la, lb, lc]
    simp [admPoint, hquiet, hadm]
  · intro h
    have hloud : ¬ pointIsQuiet q u = true := by
      rw [hiff]
      rintro ⟨hw, hs, hb, qa, qb, qc⟩
      rcases h with h | h | h | ⟨v, hv, h⟩
      · simp [hw] at h
      · exact h hs
      · exact h hb
      · have hlow : quietValue v = true := by
          simp only [List.mem_cons, List.not_mem_nil, or_false] at hv
          rcases hv with rfl | rfl | rfl <;> assumption
        obtain ⟨n, rfl, hn⟩ := (quietValue_iff v).mp hlow
        simp at h
        omega
    simp [admPoint, hloud]

/-- What the hand-off of a point leaves in the two units that it reaches, on a state that has kept their records, the
position and READY (R14, R17, R160). -/
theorem handPoint_moved {s u : State} (hprot : u.prot = s.prot) (hadm : u.adm = s.adm)
    (ha : u.brk.accepted = s.brk.accepted) (hr : u.seq.state = .ready ↔ s.seq.state = .ready) :
    PointMoved u.regime.inForce u.meas.latest.q s (handPoint u).prot ∧
    QuietTested u.meas.latest.q s (handPoint u).adm.quiet (handPoint u).adm.second := by
  obtain ⟨hq, h2⟩ := protPoint_quiet u.meas.latest.q u.meas.latest.startPickups (admPoint u.meas.latest.q u)
  have hmoved := protPoint_moved u.meas.latest.q u.meas.latest.startPickups (s := s)
    (u := admPoint u.meas.latest.q u) (by simp [hprot]) (by simp [ha])
  have htested := admPoint_tested u.meas.latest.q hadm ha hr
  rw [← hq, ← h2] at htested
  simp only [admPoint_frame] at hmoved
  exact ⟨hmoved, htested⟩

/-! ## The set that raises the point -/

@[simp] theorem takenIn_frame (set : SampleSet) (s : State) :
    (takenIn set s).time = s.time ∧ (takenIn set s).due = s.due ∧
    (takenIn set s).meas = takeIn set (measBefore set s) ∧ (takenIn set s).prot = s.prot ∧
    (takenIn set s).store = s.store ∧ (takenIn set s).brk = s.brk ∧ (takenIn set s).seq = s.seq ∧
    (takenIn set s).adm = s.adm ∧ (takenIn set s).host = s.host ∧ (takenIn set s).resetLow = s.resetLow ∧
    (takenIn set s).freeIx = s.freeIx := by
  simp [takenIn]

theorem takeIn_phase_of_point {set : SampleSet} {m : Measurement} (h : raisesPoint m = true) :
    (takeIn set m).phase = 0 := if_pos h

/-- A set in order, or outside TRACKING, flushes nothing (R5). -/
theorem measBefore_of_in_order {set : SampleSet} {s : State}
    (h : s.port.state ≠ .tracking ∨ s.port.lastSeq = some (set.seq - 1)) : measBefore set s = s.meas := by
  rw [measBefore_eq, if_neg]
  rintro ⟨ht, hl⟩
  exact h.elim (· ht) hl

/-- Settles O7: the set ends in the hand-off of `pointReady`, whose record, position and READY the lemmas above give. -/
theorem evaluationPointReplacesTheRecord : Obligations.EvaluationPointReplacesTheRecord := by
  intro frame s hw horder hpoint
  have hm : measBefore (sampleSetOf frame) s = s.meas := measBefore_of_in_order horder
  have hraise : raisesPoint s.meas = true := raisesPoint_eq_true hpoint
  have hexec : exec (.sampleSetArrival 96 frame) s =
      .next (handPoint (pointReady (takenIn (sampleSetOf frame) s))) := by
    rw [exec_sampleSetArrival_of_wellFormed s hw, acceptSet_of_point (by rw [hm]; exact hraise), evaluationPoint_eq]
  obtain ⟨hmoved, htested⟩ := handPoint_moved (s := s) (u := pointReady (takenIn (sampleSetOf frame) s))
    (by simp) (by simp) (by simp) (by simp)
  refine ⟨_, hexec, ?_, ?_, ?_, ?_, ?_, ?_, ?_, ?_, ?_, ?_, ?_, ⟨_, rfl, ?_⟩, ?_, ?_, ?_⟩
  · simp [takeIn_phase_of_point, hm, hraise]
  · simp [hm]
  · simp [hm]
  · simp [recordOf]
  · simp [recordOf]
  · simp [recordOf]
  · simp [recordOf]
  · simp [recordOf, meanSquares]
  · simp [recordOf]; rfl
  · simp [recordOf, State.settings]
  · rw [handPoint_sampleLoss]; exact pointReady_sampleLoss _
  · simp [pointReady_sampleLoss]
  · simpa using hmoved
  · simpa using htested
  · simp [SameLine, pointReady_line]

end Sys2Proof.Machine

/-! PROOFS. Each owned condition with the state of its owner: what the shared operations keep of the agreement. -/

namespace Sys2Proof.Machine

/-! ## The agreement of one condition with its owner -/

/-- What the state of a condition's owner says of the condition (R3, R27, R50, R56, R63, R67, R134, R140). A condition that
no block's state decides gets no word. -/
def ownerSays (s : State) : Cond → Bool
  | .sampleLoss => s.port.state == .lost
  | .integrity => anyInvalid s.store.images
  | .breakerNotReady => s.brk.ready != .active
  | .fireStale => fireStaleNow s
  | .fireRegime => decide (s.plant.alarmRank ≤ s.settings.rank)
  | .huntActive => s.hunt.state != .idle
  | .earthFaultStanding => s.prot.sefOperated
  | .stationSilent => s.pilot.stations.any fun st => st.presence == .silent
  | .breakerFail | .closeFail | .liveLine | .hostHold => false

/-- One part of `OwnersHold`: the condition is active as its owner's state says; SAMPLE_LOSS is bound while the port is
LOST alone, and four conditions are not bound at all. -/
def Owned (c : Cond) (s : State) : Prop :=
  match c with
  | .sampleLoss => ownerSays s .sampleLoss = true → (s.mon.recs.get .sampleLoss).active = true
  | .breakerFail | .closeFail | .liveLine | .hostHold => True
  | c => (s.mon.recs.get c).active = ownerSays s c

theorem ownersHold_iff (s : State) : OwnersHold s ↔ ∀ c, Owned c s := by
  constructor
  · rintro ⟨h1, h2, h3, h4, h5, h6, h7, h8⟩ c
    cases c <;> simp [Owned, ownerSays] <;> assumption
  · intro h
    refine ⟨?_, h .integrity, h .breakerNotReady, h .fireStale, h .fireRegime, h .huntActive,
      h .earthFaultStanding, h .stationSilent⟩
    simpa [Owned, ownerSays, CondTable.get] using h .sampleLoss

/-- The agreement reads the condition's active field and its owner's word, and nothing else. -/
theorem Owned.congr {c : Cond} {s t : State} (h : Owned c s)
    (hactive : (t.mon.recs.get c).active = (s.mon.recs.get c).active) (hsays : ownerSays t c = ownerSays s c) :
    Owned c t := by
  cases c <;> simp_all [Owned]

theorem Owned.of_active {c : Cond} {s : State} (h : (s.mon.recs.get c).active = ownerSays s c) : Owned c s := by
  cases c <;> simp_all [Owned]

/-- Everything that an owner's word is read from is the same in both states. -/
@[simp] def SameOwners (s t : State) : Prop :=
  t.port = s.port ∧ t.prot.sefOperated = s.prot.sefOperated ∧ t.store.images = s.store.images ∧
  t.regime = s.regime ∧ t.brk.ready = s.brk.ready ∧ t.hunt.state = s.hunt.state ∧
  t.pilot.stations = s.pilot.stations

theorem ownerSays_eq {s t : State} (h : SameOwners s t) (c : Cond) : ownerSays t c = ownerSays s c := by
  obtain ⟨hport, hprot, himages, hregime, hready, hhunt, hstations⟩ := h
  have hplant : t.plant = s.plant := congrArg plantOf himages
  have hsettings : t.settings = s.settings := by simp only [State.settings, hregime]
  cases c <;> simp [ownerSays, fireStaleNow, *]

theorem Owned.of_same {c : Cond} {s t : State} (h : Owned c s) (hmon : t.mon = s.mon) (hsame : SameOwners s t) :
    Owned c t := h.congr (by rw [hmon]) (ownerSays_eq hsame c)

/-! ## Updates of single blocks -/

section Blocks

variable {c : Cond} {s : State} (h : Owned c s)
include h

theorem Owned.setTime (v : Time) : Owned c (s.setTime v) := h.of_same rfl (by simp)
theorem Owned.setDue (v : Due) : Owned c (s.setDue v) := h.of_same rfl (by simp)
theorem Owned.setMeas (v : Measurement) : Owned c (s.setMeas v) := h.of_same rfl (by simp)
theorem Owned.setSeq (v : Sequencer) : Owned c (s.setSeq v) := h.of_same rfl (by simp)
theorem Owned.setAdm (v : Admission) : Owned c (s.setAdm v) := h.of_same rfl (by simp)
theorem Owned.setHost (v : HostIf) : Owned c (s.setHost v) := h.of_same rfl (by simp)
theorem Owned.setFreeIx (v : Nat) : Owned c (s.setFreeIx v) := h.of_same rfl (by simp)
theorem Owned.setPending (v : List Instr) : Owned c (s.setPending v) := h.of_same rfl (by simp)

theorem Owned.setBrk {v : Breaker} (hv : v.ready = s.brk.ready) : Owned c (s.setBrk v) := h.of_same rfl (by simp [hv])

theorem Owned.setProt {v : Protection} (hv : v.sefOperated = s.prot.sefOperated) : Owned c (s.setProt v) :=
  h.of_same rfl (by simp [hv])

/-- The pilot bus controller's owned condition reads the presences alone (R134). -/
theorem Owned.setPilot {v : Pilot} (hv : v.stations.map (·.presence) = s.pilot.stations.map (·.presence)) :
    Owned c (s.setPilot v) := by
  refine h.congr rfl ?_
  cases c <;> try rfl
  have hany := congrArg (List.any · (· == Presence.silent)) hv
  simpa [ownerSays, List.any_map, Function.comp_def] using hany

/-- The hunt controller's owned condition reads whether the state is IDLE (R140). -/
theorem Owned.setHunt {v : Hunt} (hv : v.state = .idle ↔ s.hunt.state = .idle) : Owned c (s.setHunt v) := by
  refine h.congr rfl ?_
  cases c <;> try rfl
  rw [Bool.eq_iff_iff]
  simp [ownerSays, hv]

/-- The regime unit's two owned conditions read the stored fire level and the rank in force (R56, R63). -/
theorem Owned.setRegime {v : Regime}
    (hfire : c = .fireStale → v.fire.level = s.regime.fire.level ∧ v.fire.expired = s.regime.fire.expired)
    (hforce : c = .fireRegime → v.inForce = s.regime.inForce) : Owned c (s.setRegime v) := by
  refine h.congr rfl ?_
  cases c <;> try rfl
  · simp [ownerSays, fireStaleNow, State.plant, hfire rfl]
  · have hsettings : (s.setRegime v).settings = s.settings := congrArg InForce.settings (hforce rfl)
    have hplant : (s.setRegime v).plant = s.plant := rfl
    simp [ownerSays, hplant, hsettings]

/-- The settings store is read for its invalid images by INTEGRITY, and for PLANT by the regime unit's two conditions (R50,
R53). -/
theorem Owned.setStore {v : Store} (hinvalid : c = .integrity → anyInvalid v.images = anyInvalid s.store.images)
    (hplant : c = .fireStale ∨ c = .fireRegime → plantOf v.images = plantOf s.store.images) :
    Owned c (s.setStore v) := by
  refine h.congr rfl ?_
  cases c <;> try rfl
  · exact hinvalid rfl
  · have hp : (s.setStore v).plant = s.plant := hplant (.inl rfl)
    simp [ownerSays, fireStaleNow, hp]
  · have hp : (s.setStore v).plant = s.plant := hplant (.inr rfl)
    have hsettings : (s.setStore v).settings = s.settings := rfl
    simp [ownerSays, hp, hsettings]

/-- The port is read for LOST, which SAMPLE_LOSS alone follows (R3). -/
theorem Owned.setPort {v : SamplePort} (hv : c = .sampleLoss → v.state ≠ .lost) : Owned c (s.setPort v) := by
  by_cases hc : c = .sampleLoss
  · subst hc
    simp [Owned, ownerSays, hv]
  · refine h.congr rfl ?_
    cases c <;> first | rfl | exact absurd rfl hc

end Blocks

/-! ## Reports, the down queue, the sequencer's own moves -/

section Shared

variable {c : Cond} {s : State} (h : Owned c s)
include h

theorem addReport_owned (r : Report) : Owned c (addReport r s) := h.of_same (by simp) (by simp)

theorem reportStation_owned (st : Station) (q : Option QueryResult) : Owned c (reportStation st q s) :=
  h.of_same (by simp) (by simp)

theorem withdrawWaiting_owned (k : DownClass) : Owned c (withdrawWaiting k s) := h.of_same (by simp) (by simp)

theorem joinQueue_owned {m : DownMessage} {t : State} (hj : joinQueue m s = some t) : Owned c t := by
  have hf := joinQueue_frame hj
  have hp := joinQueue_pilot hj
  exact h.of_same (by simp [hf]) (by simp [hf, hp])

/-- A station record may change in all but its presence (R134). -/
theorem updateStation_owned (a : Nat) {f : Station → Station} (hf : ∀ st, (f st).presence = st.presence) :
    Owned c (updateStation a f s) := by
  refine h.setPilot ?_
  rw [List.map_map]
  refine List.map_congr_left fun st _ => ?_
  simp only [Function.comp_apply]
  split
  · exact hf st
  · rfl

theorem updateStations_owned {f : Station → Station} (hf : ∀ st, (f st).presence = st.presence) :
    Owned c (updateStations f s) :=
  h.setPilot (by simp [hf])

theorem updateDrive_owned (n : Nat) (f : Drive → Drive) : Owned c (updateDrive n f s) := h.setAdm _

theorem seqTo_owned (r : Sequencer) (e : SeqEvent) (o : Option ChangeOrigin) : Owned c (seqTo r e o s) :=
  h.of_same (by simp) (by simp)

end Shared

@[simp] theorem breakerHardChange_readyState (oh : List Cond) (s : State) :
    (breakerHardChange oh s).brk.ready = s.brk.ready := by
  unfold breakerHardChange
  split <;> simp [releaseClose]

/-! ## The condition monitor -/

theorem adoptRecords_sameOwners (t : CondTable CondRec) (s : State) : SameOwners s (adoptRecords t s) := by
  unfold adoptRecords
  split <;> simp

theorem ownerReport_sameOwners (d : Cond) (a : Bool) (s : State) : SameOwners s (ownerReport d a s) := by
  unfold ownerReport
  split
  · simp
  · simpa [reportCondition] using adoptRecords_sameOwners _ s

theorem replaceRecords_mon (k : CondCause) (t : CondTable CondRec) (s : State) :
    (replaceRecords k t s).mon = monitorOf t := by
  simp [replaceRecords, adoptRecords_mon]

theorem replaceRecords_sameOwners (k : CondCause) (t : CondTable CondRec) (s : State) :
    SameOwners s (replaceRecords k t s) := by
  simpa [replaceRecords] using adoptRecords_sameOwners t s

/-- New records with the old active fields keep the agreement (R105, R110). -/
theorem replaceRecords_owned {c : Cond} {s : State} (h : Owned c s) (k : CondCause) {t : CondTable CondRec}
    (ht : (t.get c).active = (s.mon.recs.get c).active) : Owned c (replaceRecords k t s) :=
  h.congr (by rw [replaceRecords_mon]; exact ht) (ownerSays_eq (replaceRecords_sameOwners k t s) c)

/-- An owner's report of its own word brings its condition into agreement and leaves every other one alone (R102). -/
theorem ownerReport_owned {c d : Cond} {a : Bool} {s : State} (ha : c = d → a = ownerSays s d)
    (h : c ≠ d → Owned c s) : Owned c (ownerReport d a s) := by
  have hsays := ownerSays_eq (ownerReport_sameOwners d a s) c
  by_cases hc : c = d
  · subst hc
    exact .of_active (by rw [hsays, ownerReport_active, ha rfl])
  · exact (h hc).congr (by rw [ownerReport_other hc]) hsays

/-! ## The hunt controller: ends and aborts -/

theorem dropOutstanding_owned {c : Cond} {s : State} (h : Owned c s) : Owned c (dropOutstanding s) := by
  unfold dropOutstanding
  split
  · exact h
  · split
    · exact h.setHunt .rfl
    · exact withdrawWaiting_owned (h.setHunt (by exact .rfl)) _

theorem endStep_state (r : StepResult) (s : State) : (endStep r s).hunt.state = s.hunt.state := by simp [endStep]

theorem endStep_owned {c : Cond} {s : State} (h : Owned c s) (r : StepResult) : Owned c (endStep r s) :=
  h.of_same (by simp) (by simp [endStep_state])

/-- A hunt's end reports HUNT_ACTIVE by the state it goes to (R140, R149). -/
theorem finishHunt_owned {c : Cond} {s : State} (h : c ≠ .huntActive → Owned c s) (r : LastResult)
    (l : List StepRecord) (n : HuntState) : Owned c (finishHunt r l n s) := by
  refine ownerReport_owned (fun _ => ?_) (fun hc => addReport_owned ?_ _)
  · simp [ownerSays]
  · refine (h hc).congr rfl ?_
    cases c <;> first | rfl | exact absurd rfl hc

theorem endHunt_owned {c : Cond} {s : State} (h : c ≠ .huntActive → Owned c s) (o : HuntOutcome)
    (k : Option AbortCause) (b : Option (List Cond)) (u : Option Nat) (n : HuntState) :
    Owned c (endHunt o k b u n s) := finishHunt_owned h _ _ _

theorem huntAbort_owned {c : Cond} {s : State} (h : Owned c s) (k : AbortCause) : Owned c (huntAbort k s) := by
  unfold huntAbort
  dsimp only
  split
  · exact h
  · exact h
  · exact finishHunt_owned (fun _ => h) _ _ _
  all_goals exact endHunt_owned (fun _ => endStep_owned (dropOutstanding_owned h) _) _ _ _ _ _

theorem huntBarArrival_owned {c : Cond} {s : State} (h : Owned c s) (b : State) :
    Owned c (huntBarArrival b s) := by
  unfold huntBarArrival
  split
  · exact huntAbort_owned h _
  · exact h

/-- `ownerReport_owned`, with the hand-on of the hunt bar (R102, R108). -/
theorem setCondition_owned {c d : Cond} {a : Bool} {s : State} (ha : c = d → a = ownerSays s d)
    (h : c ≠ d → Owned c s) : Owned c (setCondition d a s) :=
  huntBarArrival_owned (ownerReport_owned ha h) s

/-- The report of a condition that no block's state decides keeps every agreement. -/
theorem setCondition_owned_of_unbound {c d : Cond} {s : State} (h : Owned c s)
    (hd : d = .breakerFail ∨ d = .closeFail ∨ d = .liveLine ∨ d = .hostHold) (a : Bool) :
    Owned c (setCondition d a s) := by
  by_cases hc : c = d
  · rcases hd with hd | hd | hd | hd <;> subst hd <;> subst hc <;> trivial
  · exact setCondition_owned (fun e => absurd e hc) (fun _ => h)

theorem applyTable_owned {c : Cond} {s : State} (h : Owned c s) : Owned c (applyTable s) :=
  huntBarArrival_owned (replaceRecords_owned h _ (by simp [retabled, CondRec.retable])) s

/-! ## The hunt controller: steps -/

theorem sendHunt_state {k : DownKind} {a : Nat} {s t : State} (hs : sendHunt k a s = some t) :
    t.hunt.state = s.hunt.state := by
  unfold sendHunt at hs
  split at hs
  · cases hs
    rfl
  · rw [Option.map_eq_some_iff] at hs
    obtain ⟨u, hj, rfl⟩ := hs
    have hf := joinQueue_frame hj
    simp [hf]

theorem sendHunt_owned {c : Cond} {s t : State} (h : Owned c s) {k : DownKind} {a : Nat}
    (hs : sendHunt k a s = some t) : Owned c t := by
  have hf := sendHunt_frame hs
  have hp := sendHunt_pilot hs
  exact h.of_same (by simp [hf]) (by simp [hf, hp, sendHunt_state hs])

/-- A hunt goes on from a running state; each step's state is a running one again (R144, R147). -/
theorem beginSteps_owned {c : Cond} {s : State} (h : Owned c s) (hr : s.hunt.state ≠ .idle) (u : Option Nat)
    (l : List HuntStep) : Owned c (beginSteps u l s) := by
  induction l generalizing s with
  | nil => exact endHunt_owned (fun _ => h) _ _ _ _ _
  | cons st rest ih =>
    have hopen : Owned c (s.setHunt { s.hunt with step := s.hunt.step + 1, state := .opening }) :=
      h.setHunt (by simp [hr])
    have hnext := ih (endStep_owned hopen .noResponse) (by simp [endStep_state])
    unfold beginSteps
    dsimp only
    split
    · split
      · next hs => exact sendHunt_owned hopen hs
      · exact hnext
    · exact hnext

theorem stepOver_owned {c : Cond} {s : State} (h : Owned c s) (hr : s.hunt.state ≠ .idle) (r : StepResult)
    (u : Option Nat) : Owned c (stepOver r u s) :=
  beginSteps_owned (endStep_owned h r) (by simpa [endStep_state] using hr) _ _

theorem restoreFailed_owned {c : Cond} {s : State} (h : Owned c s) (u : Option Nat) : Owned c (restoreFailed u s) :=
  endHunt_owned (fun _ => endStep_owned h _) _ _ _ _ _

/-! ## The hunt controller: starts -/

/-- A change of the hunt controller's record that HUNT_ACTIVE's report follows (R140, R142). -/
theorem setHunt_reported_owned {c : Cond} {s : State} (h : c ≠ .huntActive → Owned c s) {v : Hunt} {a : Bool}
    (ha : a = (v.state != .idle)) : Owned c (ownerReport .huntActive a (s.setHunt v)) := by
  refine ownerReport_owned (fun _ => by simp [ownerSays, ha]) (fun hc => ?_)
  refine (h hc).congr rfl ?_
  cases c <;> first | rfl | exact absurd rfl hc

@[simp] theorem ownerReport_huntState (d : Cond) (a : Bool) (s : State) :
    (ownerReport d a s).hunt.state = s.hunt.state := by simp

theorem startHuntNow_owned {c : Cond} {s : State} (h : Owned c s) (o : Option HuntOrigin) :
    Owned c (startHuntNow o s) := by
  unfold startHuntNow
  dsimp only
  refine huntBarArrival_owned (beginSteps_owned (setHunt_reported_owned (fun _ => ?_) rfl) ?_ _ _) s
  · exact updateStations_owned h (fun _ => rfl)
  · simp

theorem admitHunt_owned {c : Cond} {s : State} (h : Owned c s) (o : HuntOrigin) : Owned c (admitHunt o s) := by
  unfold admitHunt
  split
  · exact huntBarArrival_owned (setHunt_reported_owned (fun _ => h) rfl) s
  · exact startHuntNow_owned h _

theorem huntNotStarted_owned {c : Cond} {s : State} (h : Owned c s) (r : NotStarted) (o : Option HuntOrigin) :
    Owned c (huntNotStarted r o s) := finishHunt_owned (fun _ => h) _ _ _

theorem huntRequestSef_owned {c : Cond} {s : State} (h : Owned c s) : Owned c (huntRequestSef s) := by
  unfold huntRequestSef
  split
  · exact admitHunt_owned h _
  · exact addReport_owned h _
  · exact huntNotStarted_owned h _ _

theorem huntWindowClosed_owned {c : Cond} {s : State} (h : Owned c s) : Owned c (huntWindowClosed s) := by
  unfold huntWindowClosed
  split
  · split
    · exact startHuntNow_owned h _
    · exact huntNotStarted_owned h _ _
  · exact h

theorem huntGroupChange_owned {c : Cond} {s : State} (h : Owned c s) : Owned c (huntGroupChange s) := by
  unfold huntGroupChange
  split
  · exact huntAbort_owned h _
  · exact h

/-! ## The hunt controller: outcomes, answers and expiries -/

theorem startSwitchWait_owned {c : Cond} {s : State} (h : Owned c s) : Owned c (startSwitchWait s) := h.setHunt .rfl

theorem sendHeldHunt_owned {c : Cond} {s : State} (h : Owned c s) : Owned c (sendHeldHunt s) := by
  unfold sendHeldHunt
  split
  · next hstate =>
    split
    · next hs => exact sendHunt_owned h hs
    · exact stepOver_owned h (by simp [hstate]) _ _
  · split
    · next hs => exact sendHunt_owned h hs
    · exact restoreFailed_owned h _
  all_goals exact h

theorem huntOutcome_owned {c : Cond} {s : State} (h : Owned c s) (o : DownOutcome) : Owned c (huntOutcome o s) := by
  unfold huntOutcome
  split
  · exact h
  · have h1 : Owned c (s.setHunt { s.hunt with outstanding := none }) := h.setHunt .rfl
    dsimp only
    split
    · split
      · exact sendHeldHunt_owned h1
      · exact h1
    · split
      · split
        · next hstate =>
          split
          · exact startSwitchWait_owned h1
          · exact stepOver_owned h1 (by simp [hstate]) _ _
        · split
          · exact startSwitchWait_owned h1
          · exact restoreFailed_owned h1 _
        all_goals exact h1
      · exact h1

theorem huntSwitchDone_owned {c : Cond} {s : State} (h : Owned c s) (a : Nat) (r : SwitchResult) :
    Owned c (huntSwitchDone a r s) := by
  have hflag (b : Bool) : Owned c (updateStation a (fun st => { st with openedByHunt := b }) s) :=
    updateStation_owned h a fun _ => rfl
  unfold huntSwitchDone
  dsimp only
  split
  · split
    · next hstate =>
      split
      · exact (hflag true).setHunt (by simp [hstate])
      · exact stepOver_owned h (by simp [hstate]) _ _
    · next hstate =>
      split
      · refine stepOver_owned ((hflag false).setHunt ?_) ?_ _ _
        · exact .rfl
        · simp [hstate]
      · exact restoreFailed_owned h _
    all_goals exact h
  · exact h

theorem beginRestore_owned {c : Cond} {s : State} (h : Owned c s) (hr : s.hunt.state ≠ .idle) :
    Owned c (beginRestore s) := by
  have h1 : Owned c (s.setHunt { s.hunt with state := .restoring, phase := none, dwellTimer := none }) :=
    h.setHunt (by simp [hr])
  unfold beginRestore
  dsimp only
  split
  · next hs => exact sendHunt_owned h1 hs
  · exact restoreFailed_owned h1 _

theorem judgeDwell_owned {c : Cond} {s : State} (h : Owned c s) (hr : s.hunt.state ≠ .idle) :
    Owned c (judgeDwell s) := by
  unfold judgeDwell
  split
  · exact endHunt_owned (fun _ => endStep_owned h _) _ _ _ _ _
  · split
    · exact beginRestore_owned h hr
    · dsimp only
      split
      · refine endHunt_owned (fun _ => endStep_owned (h.setHunt ?_) _) _ _ _ _ _
        exact .rfl
      · refine beginRestore_owned (h.setHunt ?_) ?_
        · exact .rfl
        · exact hr

/-! ## The start admission unit -/

section Admission

variable {c : Cond} {s : State} (h : Owned c s)
include h

theorem startReport_owned (n : Nat) (e : StartEvent) (k : Option StartCause) (so : Option Nat)
    (w : Option (Nat × Nat)) : Owned c (startReport n e k so w s) := addReport_owned h _

theorem queueRelease_owned (n a : Nat) : Owned c (queueRelease n a s) := by
  unfold queueRelease
  split
  · exact h.setAdm _
  · split
    · next hj => exact (joinQueue_owned h hj).setAdm _
    · exact startReport_owned h _ _ _ _ _

theorem settleGrant_owned (w : StartWindow) (b : Bool) : Owned c (settleGrant w b s) := by
  unfold settleGrant
  split
  · exact h
  · exact h
  · exact withdrawWaiting_owned (h.setAdm _) _
  · exact h.setAdm _
  · split
    · exact queueRelease_owned h _ _
    · exact h

theorem endWindow_owned (k : StartCause) : Owned c (endWindow k s) := by
  unfold endWindow
  split
  · exact h
  · exact startReport_owned (huntWindowClosed_owned ((settleGrant_owned (updateDrive_owned h _ _) _ _).setAdm _))
      _ _ _ _ _

theorem queueGrant_owned (w : StartWindow) : Owned c (queueGrant w s) := by
  unfold queueGrant
  split
  · exact h.setAdm _
  · split
    · next hj => exact (joinQueue_owned h hj).setAdm _
    · exact endWindow_owned (h.setAdm _) _

theorem sendReleaseDue_owned : Owned c (sendReleaseDue s) := by
  unfold sendReleaseDue
  split
  · exact queueRelease_owned (h.setAdm _) _ _
  · exact h

theorem sendHeldGrant_owned : Owned c (sendHeldGrant s) := by
  unfold sendHeldGrant
  split
  · split
    · exact queueGrant_owned h _
    · exact h
  · exact h

theorem admOutcomeEffect_owned (m : StartMessage) (o : DownOutcome) : Owned c (admOutcomeEffect m o s) := by
  unfold admOutcomeEffect
  split
  · split
    · split
      · exact h
      · exact h.setAdm _
    · split
      · exact h.setAdm _
      · exact endWindow_owned h _
  · split
    · exact h
    · exact startReport_owned h _ _ _ _ _

theorem admOutcome_owned (o : DownOutcome) : Owned c (admOutcome o s) := by
  unfold admOutcome
  split
  · exact h
  · exact sendHeldGrant_owned (sendReleaseDue_owned (admOutcomeEffect_owned (h.setAdm _) _ _))

theorem makePending_owned (d : Drive) (n : Nat) : Owned c (makePending d n s) :=
  startReport_owned ((updateDrive_owned h _ _).setAdm _) _ _ _ _ _

theorem dropPending_owned (n : Nat) : Owned c (dropPending n s) := (updateDrive_owned h _ _).setAdm _

theorem withdrawRequest_owned (k : StartCause) (n : Nat) : Owned c (withdrawRequest k s n) :=
  startReport_owned (dropPending_owned h n) _ _ _ _ _

theorem foldl_withdrawRequest_owned (k : StartCause) (l : List Nat) : Owned c (l.foldl (withdrawRequest k) s) := by
  induction l generalizing s with
  | nil => exact h
  | cons n rest ih => exact ih (withdrawRequest_owned h k n)

theorem admStartRequest_owned (a n : Nat) : Owned c (admStartRequest a n s) := by
  unfold admStartRequest
  split
  · exact startReport_owned h _ _ _ _ _
  · split
    · exact startReport_owned h _ _ _ _ _
    · split
      · exact startReport_owned h _ _ _ _ _
      · split
        · exact h
        · exact makePending_owned h _ _

theorem admStartDone_owned (a n : Nat) : Owned c (admStartDone a n s) := by
  unfold admStartDone
  split
  · exact endWindow_owned h _
  · exact h

theorem admStartAbandon_owned (a n : Nat) : Owned c (admStartAbandon a n s) := by
  unfold admStartAbandon
  split
  · exact endWindow_owned h _
  · split
    · exact h
    · split
      · exact withdrawRequest_owned h _ _
      · exact h

theorem admPoint_owned (q : Multiples) : Owned c (admPoint q s) := by
  unfold admPoint
  split <;> exact h.setAdm _

theorem afterRestoration_owned : Owned c (afterRestoration s) := by
  unfold afterRestoration
  dsimp only
  split
  · exact (h.setAdm _).setAdm _
  · exact h.setAdm _

theorem openWindow_owned (d : Drive) : Owned c (openWindow d s) := by
  have h2 := ((updateDrive_owned h d.drive fun x => { x with request := .window }).setAdm)
  unfold openWindow
  dsimp only
  split
  · exact startReport_owned (h2 _) _ _ _ _ _
  · exact startReport_owned (queueGrant_owned (h2 _) _) _ _ _ _ _

theorem rebuildDrives_owned (l : List DriveEntry) : Owned c (rebuildDrives l s) := by
  unfold rebuildDrives
  dsimp only
  split
  · exact endWindow_owned (foldl_withdrawRequest_owned (h.setAdm _) _ _) _
  · exact foldl_withdrawRequest_owned (h.setAdm _) _ _

theorem drivesInvalid_owned : Owned c (drivesInvalid s) := foldl_withdrawRequest_owned h _ _

end Admission

/-! ## The coil outputs -/

section Coils

variable {c : Cond} {s : State} (h : Owned c s)
include h

theorem seqWithdrawn_owned : Owned c (seqWithdrawn s) := h.of_same (by simp) (by simp)

theorem releaseClose_owned : Owned c (releaseClose s) := h.setBrk rfl

theorem withdrawClose_owned : Owned c (withdrawClose s) := by
  unfold withdrawClose
  split
  · exact seqWithdrawn_owned (releaseClose_owned h)
  · exact h

theorem tripRequest_owned (o : TripOrigin) : Owned c (tripRequest o s) := by
  unfold tripRequest
  split
  · exact (withdrawClose_owned h).setBrk rfl
  · exact h

theorem closeRequest_owned (o : CloseOrigin) : Owned c (closeRequest o s) := by
  unfold closeRequest
  split
  · exact h.setBrk rfl
  · exact h

end Coils

/-! ## The reclose sequencer -/

section Sequencer

variable {c : Cond} {s : State} (h : Owned c s)
include h

theorem seqMove_owned (r : Sequencer) (e : SeqEvent) (o : Option ChangeOrigin) : Owned c (seqMove r e o s) := by
  unfold seqMove
  split
  · exact endWindow_owned (seqTo_owned h _ _ _) _
  · exact seqTo_owned h _ _ _

theorem seqHold_owned : Owned c (seqHold s) := h.of_same (by simp) (by simp)

theorem tripFromClosed_owned (t : LastTrip) : Owned c (tripFromClosed t s) := by
  unfold tripFromClosed
  split <;> exact seqMove_owned h _ _ _

theorem seqTrip_owned (t : LastTrip) : Owned c (seqTrip t s) := by
  unfold seqTrip
  split
  · exact tripFromClosed_owned h t
  · exact tripFromClosed_owned h t
  · exact tripFromClosed_owned h t
  · exact h.setSeq _
  · exact seqMove_owned h _ _ _
  · exact h.setSeq _

theorem openJudgement_owned (o : ChangeOrigin) : Owned c (openJudgement o s) := by
  unfold openJudgement
  split
  · exact seqMove_owned h _ _ _
  · dsimp only
    split
    · exact seqMove_owned h _ _ _
    · exact seqHold_owned (seqMove_owned h _ _ _)

theorem externalClosing_owned (o : ChangeOrigin) : Owned c (externalClosing o s) := seqMove_owned h _ _ _

theorem initialChange_owned (n : BreakerPos) : Owned c (initialChange n s) := by
  unfold initialChange
  dsimp only
  split
  · exact seqMove_owned h _ _ _
  · exact addReport_owned (h.setSeq _) _

theorem laterChange_owned (n : BreakerPos) (o : ChangeOrigin) (b : Bool) : Owned c (laterChange n o b s) := by
  unfold laterChange
  split
  · split
    · exact openJudgement_owned h o
    · exact h
  · split
    · exact seqMove_owned h _ _ _
    · split
      · exact externalClosing_owned h o
      · exact h
  · split
    · exact seqMove_owned h _ _ _
    · exact h
  · split
    · exact externalClosing_owned h o
    · exact h
  · split
    · exact externalClosing_owned h o
    · exact h
  · exact h

theorem seqBreakerChange_owned (n : BreakerPos) (o : ChangeOrigin) : Owned c (seqBreakerChange n o s) := by
  unfold seqBreakerChange
  dsimp only
  split
  · exact initialChange_owned (h.setSeq _) n
  · exact laterChange_owned (h.setSeq _) n o _

theorem seqClosedOk_owned : Owned c (seqClosedOk s) := by
  unfold seqClosedOk
  split
  · exact seqMove_owned h _ _ _
  · exact seqMove_owned h _ _ _
  all_goals exact h

theorem seqTimedOut_owned : Owned c (seqTimedOut s) := by
  unfold seqTimedOut
  split
  · exact seqMove_owned h _ _ _
  · exact h

theorem seqBreakerFail_owned : Owned c (seqBreakerFail s) := by
  unfold seqBreakerFail
  split
  · exact seqMove_owned h _ _ _
  · exact h

theorem seqGroupChange_owned : Owned c (seqGroupChange s) := by
  unfold seqGroupChange
  split
  · split
    · exact seqMove_owned h _ _ _
    · split
      · exact seqMove_owned h _ _ _
      · exact h
  · exact h

theorem deadTimeEnds_owned : Owned c (deadTimeEnds s) := by
  unfold deadTimeEnds
  dsimp only
  split
  · exact seqMove_owned h _ _ _
  · split
    · exact closeRequest_owned (seqMove_owned h _ _ _) _
    · exact seqMove_owned (seqMove_owned h _ _ _) _ _ _

end Sequencer

/-! ## The breaker interface -/

section Breaker

variable {c : Cond} {s : State} (h : Owned c s)
include h

theorem endSuspension_owned : Owned c (endSuspension s) := h.setProt rfl

theorem completeTrip_owned : Owned c (completeTrip s) := by
  refine setCondition_owned_of_unbound ?_ (.inl rfl) _
  split
  · exact h.setBrk rfl
  · exact h

theorem completeClose_owned : Owned c (completeClose s) := by
  unfold completeClose
  split
  · exact seqClosedOk_owned (releaseClose_owned h)
  · exact h

theorem ownOutputs_owned (n : BreakerPos) : Owned c (ownOutputs n s) := by
  cases n with
  | opened => exact completeTrip_owned (endSuspension_owned h)
  | closed => exact completeClose_owned h
  | travel => exact h
  | faulty => exact h
  | none => exact h

theorem acceptPosition_owned (n : BreakerPos) : Owned c (acceptPosition n s) := by
  have h1 : Owned c (s.setBrk { s.brk with accepted := n }) := h.setBrk rfl
  unfold acceptPosition
  dsimp only
  split
  · exact ownOutputs_owned (seqBreakerChange_owned h1 _ _) n
  · exact ownOutputs_owned (seqBreakerChange_owned (endWindow_owned h1 _) _ _) n

theorem scanPosition_owned (a b : Bool) : Owned c (scanPosition a b s) := by
  have h1 : Owned c (s.setBrk { s.brk with prevPos := some (a, b) }) := h.setBrk rfl
  unfold scanPosition
  dsimp only
  split
  · exact acceptPosition_owned h1 _
  · exact h1

/-- The ready scan reports BREAKER_NOT_READY by the state that it accepts (R67). -/
theorem scanReady_owned (b : Bool) : Owned c (scanReady b s) := by
  have h1 : Owned c (s.setBrk { s.brk with prevReady := some b }) := h.setBrk rfl
  unfold scanReady
  dsimp only
  split
  · refine setCondition_owned (fun _ => ?_) (fun hc => ?_)
    · cases b <;> rfl
    · refine h1.congr rfl ?_
      cases c <;> first | rfl | exact absurd rfl hc
  · exact h1

theorem tripTimeout_owned : Owned c (tripTimeout s) := by
  have h2 : Owned c (setCondition .breakerFail true (s.setBrk { s.brk with tripOut := false, tripTimer := none })) :=
    setCondition_owned_of_unbound (h.setBrk (by rfl)) (.inl rfl) _
  unfold tripTimeout
  dsimp only
  split
  · exact endSuspension_owned h2
  · exact endSuspension_owned (seqBreakerFail_owned h2)

end Breaker

/-! ## The regime unit -/

/-- FIRE_STALE judged again agrees with the fire level, whatever it said before (R56). -/
theorem judgeFireStale_owned {c : Cond} {s : State} (h : c ≠ .fireStale → Owned c s) : Owned c (judgeFireStale s) :=
  setCondition_owned (fun _ => rfl) h

/-- FIRE_REGIME judged again agrees with the rank in force, whatever it said before (R63). -/
theorem judgeFireRegime_owned {c : Cond} {s : State} (h : c ≠ .fireRegime → Owned c s) :
    Owned c (judgeFireRegime s) :=
  setCondition_owned (fun _ => rfl) h

section Regime

variable {c : Cond} {s : State} (h : Owned c s)
include h

theorem recompute_owned : Owned c (recompute s) := h.setRegime (fun _ => ⟨rfl, rfl⟩) (fun _ => rfl)

theorem withOverride_owned (o : Option Nat) : Owned c (withOverride o s) :=
  recompute_owned (h.setRegime (fun _ => ⟨rfl, rfl⟩) (fun _ => rfl))

theorem cancelOverride_owned : Owned c (cancelOverride s) := by
  unfold cancelOverride
  split
  · exact h
  · dsimp only
    split
    · exact addReport_owned (h.setRegime (by exact fun _ => ⟨rfl, rfl⟩) (by exact fun _ => rfl)) _
    · exact h

theorem takeIntoForce_owned (g : Nat) : Owned c (takeIntoForce g s) := by
  unfold takeIntoForce
  dsimp only
  refine judgeFireRegime_owned fun hc => ?_
  have h1 : Owned c (addReport (.group (takeReport g s)) (s.setRegime (takenRegime g s))) :=
    addReport_owned (h.setRegime (by exact fun _ => ⟨rfl, rfl⟩) (fun e => absurd e hc)) _
  split
  · exact h1
  · exact huntGroupChange_owned (seqGroupChange_owned h1)

theorem regimeStages_owned : Owned c (regimeStages s) :=
  recompute_owned (cancelOverride_owned (h.setRegime (fun _ => ⟨rfl, rfl⟩) (fun _ => rfl)))

theorem groupWork_owned : Owned c (groupWork s) := by
  unfold groupWork
  dsimp only
  split
  · exact takeIntoForce_owned (regimeStages_owned h) _
  · exact regimeStages_owned h

end Regime

/-! ## The protection unit, the measurement unit and the sample port -/

/-- EARTH_FAULT_STANDING reported with the flag that it follows, on any protection record (R27). -/
theorem earthFault_owned {c : Cond} {s : State} (h : Owned c s) (v : Protection) :
    Owned c (setCondition .earthFaultStanding v.sefOperated (s.setProt v)) := by
  refine setCondition_owned (fun _ => rfl) (fun hc => h.congr rfl ?_)
  cases c <;> first | rfl | exact absurd rfl hc

section Points

variable {c : Cond} {s : State} (h : Owned c s)
include h

theorem handTrip_owned (t : Trip) : Owned c (handTrip t s) :=
  seqTrip_owned (endWindow_owned (huntAbort_owned (tripRequest_owned (addReport_owned h _) _) _) _) _

theorem issueTrip_owned (t : Trip) : Owned c (issueTrip t s) := handTrip_owned (h.setProt (by rfl)) t

theorem sefStage_owned : Owned c (sefStage s) := by
  have h1 := earthFault_owned h
    { s.prot with sefOperated := sefFlag s.settings s.prot.sef s.prot.sefOperated }
  unfold sefStage
  dsimp only
  split
  · exact huntRequestSef_owned h1
  · exact h1

theorem protPoint_owned (q : Multiples) (b : Bool) : Owned c (protPoint q b s) := by
  have h1 : Owned c (s.setProt (stepValues s.regime.inForce q s.prot)) := h.setProt rfl
  unfold protPoint
  dsimp only
  refine sefStage_owned ?_
  split
  · exact h1
  · exact issueTrip_owned h1 _

theorem protLoss_owned : Owned c (protLoss s) :=
  earthFault_owned h { zeroValues s.prot with sefOperated := false }

/-- A point is taken with the port TRACKING, so SAMPLE_LOSS may be cleared (R15). -/
theorem evaluationPoint_owned (hport : s.port.state ≠ .lost) : Owned c (evaluationPoint s) := by
  have h1 : Owned c (storeRecord (groupWork s)) := (groupWork_owned h).setMeas _
  unfold evaluationPoint handPoint
  refine protPoint_owned (admPoint_owned (setCondition_owned (fun _ => ?_) (fun _ => h1)) _) _ _
  simpa [ownerSays, storeRecord] using hport

theorem acceptSet_owned (set : SampleSet) : Owned c (acceptSet set s) := by
  have h1 : Owned c (takenIn set s) := (h.setPort (fun _ => by simp [acceptedPort])).setMeas _
  cases hraise : raisesPoint (measBefore set s)
  · rw [acceptSet_of_no_point hraise]
    exact h1
  · rw [acceptSet_of_point hraise]
    exact evaluationPoint_owned h1 (by simp [takenIn, acceptedPort])

end Points

end Sys2Proof.Machine

/-! PROOFS. Each owned condition with the state of its owner: the pilot bus controller, the settings store, the restart,
and every step. -/

namespace Sys2Proof.Machine

/-! ## The pilot bus controller -/

/-- The pilot bus controller's record is read by STATION_SILENT alone. -/
theorem Owned.setPilot_of_ne {c : Cond} {s : State} (h : Owned c s) (hc : c ≠ .stationSilent) (v : Pilot) :
    Owned c (s.setPilot v) := by
  refine h.congr rfl ?_
  cases c <;> first | rfl | exact absurd rfl hc

/-- STATION_SILENT judged again agrees with the station table, whatever it said before (R134). -/
theorem judgeSilent_owned {c : Cond} {s : State} (h : c ≠ .stationSilent → Owned c s) : Owned c (judgeSilent s) :=
  setCondition_owned (fun _ => rfl) h

section Pilot

variable {c : Cond} {s : State} (h : Owned c s)
include h

theorem settle_owned : Owned c (settle s) := h.setPilot rfl

theorem resettle_owned : Owned c (resettle s) := by
  unfold resettle
  split
  · exact settle_owned h
  · exact h

theorem noteInFlight_owned (m : DownMessage) : Owned c (noteInFlight m s) := by
  have hanswer : Owned c (updateStation m.dest (fun st => { st with answer := .inFlight }) s) :=
    updateStation_owned h _ fun _ => rfl
  unfold noteInFlight
  split
  · exact h.setHunt .rfl
  · exact h.setAdm _
  · exact hanswer
  · exact hanswer

theorem arbitrate_owned : Owned c (arbitrate s) := by
  unfold arbitrate
  split
  · split
    · exact noteInFlight_owned (h.setPilot (by rfl)) _
    · exact h
  · exact h

theorem takeHalf_owned (up : BitVec 32) : Owned c (takeHalf up s) := by
  unfold takeHalf
  split
  · exact h
  · exact h.setPilot rfl

theorem changeStation_owned (o n : Station) (q : Option QueryResult) : Owned c (changeStation o n q s) := by
  unfold changeStation
  dsimp only
  refine judgeSilent_owned fun hc => ?_
  have h1 : Owned c (updateStation o.address (fun _ => n) s) := h.setPilot_of_ne hc _
  split
  · exact reportStation_owned h1 _ _
  · exact h1

theorem missedAnswer_owned (st : Station) : Owned c (missedAnswer st s) := changeStation_owned h _ _ _

theorem queryOutcome_owned (o : DownOutcome) (a : Nat) : Owned c (queryOutcome o a s) := by
  have hanswer (v : AnswerState) : Owned c (updateStation a (fun st => { st with answer := v }) s) :=
    updateStation_owned h _ fun _ => rfl
  unfold queryOutcome
  split
  · exact h
  · split
    · split
      · exact hanswer _
      · exact missedAnswer_owned h _
    · exact hanswer _
    · exact h
    · exact h

theorem endMessage_owned : Owned c (endMessage s) := by
  have hfree : Owned c (freeDown s) := h.setPilot rfl
  unfold endMessage
  split
  · unfold handOutcome
    split
    · exact huntOutcome_owned hfree _
    · exact admOutcome_owned hfree _
    · exact queryOutcome_owned hfree _ _
    · exact queryOutcome_owned hfree _ _
  · exact hfree

theorem deliverTo_owned (a : Nat) (f : Station → Station) (q : Station → Option QueryResult) :
    Owned c (deliverTo a f q s) := by
  unfold deliverTo
  split
  · exact changeStation_owned h _ _ _
  · exact h

theorem closeDelivery_owned : Owned c (closeDelivery s) := resettle_owned (h.setPilot rfl)

theorem markStation_owned (a : Nat) : Owned c (markStation a s) := updateStation_owned h _ fun _ => rfl

theorem pollStation_owned (a : Nat) : Owned c (pollStation a s) := by
  unfold pollStation
  split
  · exact h
  · cases hj : joinQueue (queryMessage .poll a) s with
    | none => exact h
    | some t => exact joinQueue_owned h hj

theorem rebuildStations_owned (l : List StationEntry) : Owned c (rebuildStations l s) :=
  judgeSilent_owned fun hc => h.setPilot_of_ne hc _

theorem dropMark_owned (st : Station) : Owned c (dropMark s st) := by
  unfold dropMark
  split
  · exact reportStation_owned (updateStation_owned h _ (by exact fun _ => rfl)) _ _
  · exact h

theorem foldl_dropMark_owned (l : List Station) : Owned c (l.foldl dropMark s) := by
  induction l generalizing s with
  | nil => exact h
  | cons st rest ih => exact ih (dropMark_owned h st)

theorem stationsInvalid_owned : Owned c (stationsInvalid s) :=
  foldl_dropMark_owned (h.setPilot (by simp)) _

end Pilot

/-! ## The settings store -/

/-- INTEGRITY judged again agrees with the images, whatever it said before (R50). -/
theorem judgeIntegrity_owned {c : Cond} {s : State} (h : c ≠ .integrity → Owned c s) : Owned c (judgeIntegrity s) :=
  setCondition_owned (fun _ => rfl) h

theorem anyInvalid_set {t : ImageTable Image} {i : ImageId} {v : Image} (hp : v.present = (t.get i).present)
    (hv : v.valid = (t.get i).valid) : anyInvalid (t.set i v) = anyInvalid t := by
  unfold anyInvalid
  congr 1
  funext j
  by_cases hj : j = i
  · subst hj
    simp [hp, hv]
  · simp [hj]

theorem plantOf_set_of_ne (t : ImageTable Image) {i : ImageId} (hi : i ≠ .plant) (v : Image) :
    plantOf (t.set i v) = plantOf t := by
  cases i <;> first | rfl | exact absurd rfl hi

theorem plantOf_set {t : ImageTable Image} {i : ImageId} {v : Image} (hp : v.present = (t.get i).present)
    (hv : v.valid = (t.get i).valid) (hw : v.working = (t.get i).working) : plantOf (t.set i v) = plantOf t := by
  by_cases hi : i = .plant
  · subst hi
    simp_all [plantOf, usable, ImageTable.set, ImageTable.get]
  · exact plantOf_set_of_ne t hi v

/-- An image that keeps its presence, its validity and its content changes no owner's word (R50, R53). -/
theorem updateImage_owned {c : Cond} {s : State} (h : Owned c s) {i : ImageId} {f : Image → Image}
    (hp : (f (s.store.images.get i)).present = (s.store.images.get i).present)
    (hv : (f (s.store.images.get i)).valid = (s.store.images.get i).valid)
    (hw : (f (s.store.images.get i)).working = (s.store.images.get i).working) : Owned c (updateImage i f s) :=
  h.setStore (fun _ => anyInvalid_set hp hv) (fun _ => plantOf_set hp hv hw)

/-- An image that changes in any way leaves every owner's word but that of INTEGRITY and, for PLANT, those of the regime
unit. -/
theorem updateImage_owned_of_ne {c : Cond} {s : State} (h : Owned c s) {i : ImageId} (f : Image → Image)
    (hc : c ≠ .integrity) (hi : i = .plant → c ≠ .fireStale ∧ c ≠ .fireRegime) : Owned c (updateImage i f s) := by
  refine h.setStore (fun e => absurd e hc) fun hfire => plantOf_set_of_ne _ (fun e => ?_) _
  obtain ⟨hs, hr⟩ := hi e
  exact hfire.elim hs hr

/-- A change of the PLANT settings judges both conditions of the regime unit again (R53). -/
theorem plantChanged_owned {c : Cond} {s : State} (h : c ≠ .fireStale → c ≠ .fireRegime → Owned c s) :
    Owned c (plantChanged s) :=
  recompute_owned (judgeFireRegime_owned fun hr => judgeFireStale_owned fun hs => applyTable_owned (h hs hr))

section Curves

variable {c : Cond} {s : State} (h : Owned c s)
include h

theorem markCurve_owned (k : Nat) : Owned c (markCurve k s) := by
  unfold markCurve
  split
  · exact h.setRegime (fun _ => ⟨rfl, rfl⟩) (fun _ => rfl)
  · exact h

theorem markGroup_owned (g : Nat) : Owned c (markGroup g s) := by
  unfold markGroup
  split
  · exact h.setRegime (fun _ => ⟨rfl, rfl⟩) (fun _ => rfl)
  · exact h

theorem cancelAtLoad_owned (g : Nat) : Owned c (cancelAtLoad g s) := by
  unfold cancelAtLoad
  split
  · exact cancelOverride_owned h
  · exact h

end Curves

/-- The users of an image keep the agreement, and those of PLANT restore that of the regime unit's conditions (R45). -/
theorem usersAccept_owned {c : Cond} {s : State} (i : ImageId)
    (h : (i = .plant → c ≠ .fireStale ∧ c ≠ .fireRegime) → Owned c s) : Owned c (usersAccept i s) := by
  cases i with
  | plant => exact plantChanged_owned fun hs hr => h fun _ => ⟨hs, hr⟩
  | stations => exact rebuildStations_owned (h nofun) _
  | curve0 | curve1 | curve2 | curve3 => exact recompute_owned (markCurve_owned (h nofun) _)
  | group0 | group1 | group2 | group3 =>
    exact recompute_owned (cancelAtLoad_owned (markGroup_owned (h nofun) _) _)
  | hunt => exact h nofun
  | drives => exact rebuildDrives_owned (h nofun) _

theorem usersInvalid_owned {c : Cond} {s : State} (i : ImageId)
    (h : (i = .plant → c ≠ .fireStale ∧ c ≠ .fireRegime) → Owned c s) : Owned c (usersInvalid i s) := by
  cases i with
  | plant => exact plantChanged_owned fun hs hr => h fun _ => ⟨hs, hr⟩
  | stations => exact stationsInvalid_owned (h nofun)
  | curve0 | curve1 | curve2 | curve3 | group0 | group1 | group2 | group3 => exact recompute_owned (h nofun)
  | hunt => exact h nofun
  | drives => exact drivesInvalid_owned (h nofun)

theorem checkedImage_frame (i : Image) :
    (checkedImage i).present = i.present ∧ (checkedImage i).working = i.working ∧
      ((checkedImage i).valid = i.valid ∨ i.valid = true ∧ (checkedImage i).valid = false) := by
  unfold checkedImage
  split
  · simp
  · split
    · simp
    · cases i.valid <;> simp

/-- A check moves validity only from valid to invalid, and then INTEGRITY and the users follow (R50). -/
theorem checkImage_owned {c : Cond} {s : State} (h : Owned c s) (i : ImageId) : Owned c (checkImage s i) := by
  obtain ⟨hp, hw, hv⟩ := checkedImage_frame (s.store.images.get i)
  unfold checkImage
  dsimp only
  split
  · exact judgeIntegrity_owned fun hc => usersInvalid_owned i fun hi =>
      addReport_owned (updateImage_owned_of_ne h _ hc hi) _
  · next hkept =>
    refine updateImage_owned h hp (hv.resolve_right fun hdrop => hkept ?_) hw
    simpa [updateImage] using hdrop

theorem foldl_checkImage_owned {c : Cond} {s : State} (h : Owned c s) (l : List ImageId) :
    Owned c (l.foldl checkImage s) := by
  induction l generalizing s with
  | nil => exact h
  | cons i rest ih => exact ih (checkImage_owned h i)

/-- The scan's own fields are read by no owner's word. -/
theorem Owned.setStore_of_images {c : Cond} {s : State} (h : Owned c s) {v : Store} (hv : v.images = s.store.images) :
    Owned c (s.setStore v) := h.of_same rfl (by simp [hv])

theorem endCheck_owned {c : Cond} {s : State} (h : Owned c s) : Owned c (endCheck s) := by
  unfold endCheck
  split
  · exact checkImage_owned h _
  · exact h

theorem fullPass_owned {c : Cond} {s : State} (h : Owned c s) : Owned c (fullPass s) :=
  addReport_owned
    ((foldl_checkImage_owned (h.setStore_of_images (by rfl)) _).setStore_of_images (by rfl)) _

theorem acceptImage_owned {c : Cond} {s : State} (h : Owned c s) (i : ImageId) (l : List Byte) (w : Word16) :
    Owned c (acceptImage i l w s) := by
  refine usersAccept_owned i fun hi => judgeIntegrity_owned fun hc => ?_
  exact (updateImage_owned_of_ne h _ hc hi).setStore_of_images rfl

/-! ## The full restart -/

/-- A station newly built is not SILENT (R139). -/
theorem pilotAtRestart_not_silent (t : ImageTable Image) :
    ((pilotAtRestart t).stations.any fun st => st.presence == .silent) = false := by
  simp [pilotAtRestart, newStation]

/-- A full restart leaves each owned condition with its owner's restart state (R113). -/
theorem fullRestart_owned (c : Cond) (k : RestartCause) (b1 b0 : Bool) (s : State) :
    Owned c (fullRestart k b1 b0 s) := by
  cases c with
  | sampleLoss => nofun
  | integrity | breakerNotReady | fireRegime | huntActive | earthFaultStanding => rfl
  | fireStale => exact (Bool.and_true _).symm
  | stationSilent => exact (pilotAtRestart_not_silent _).symm
  | breakerFail | closeFail | liveLine | hostHold => trivial

/-! ## Host commands -/

theorem permitOf_eq_some {n : Nat} {d : Cond} (hd : permitOf n = some d) : d = .liveLine ∨ d = .hostHold := by
  unfold permitOf at hd
  split at hd
  · cases hd
    exact .inl rfl
  · split at hd <;> cases hd
    exact .inr rfl

theorem acknowledged_active (r : CondRec) : (acknowledged r).active = r.active := by
  unfold acknowledged
  split <;> rfl

section Host

variable {c : Cond} {s : State} (h : Owned c s)
include h

theorem popCommand_owned : Owned c (popCommand s) := h.setHost _

theorem fillReply_owned (r : Reply) (m : Option RestartKind) : Owned c (fillReply r m s) := h.setHost _

/-- A command's row keeps the agreement when the command's owner does (R170). -/
theorem runCommand_owned (k : CommandKind) {own : List Byte → State → Reply × State}
    (hown : ∀ p u, Owned c u → Owned c (own p u).2) : Owned c (runCommand k own s) := by
  unfold runCommand
  split
  · unfold execute
    split
    · exact fillReply_owned (hown _ _ (popCommand_owned h)) _ _
    · exact fillReply_owned (popCommand_owned h) _ _
  · exact h

theorem executeRestart_owned (cmd : Command) : Owned c (executeRestart cmd s) := by
  have hpop := popCommand_owned h
  unfold executeRestart
  split
  · exact fillReply_owned hpop _ _
  · split
    · exact fillReply_owned (hpop.setHost _) _ _
    · split
      · unfold fullRestartTaken
        split
        · exact fillReply_owned hpop _ _
        · exact fillReply_owned (hpop.setHost _) _ _
      · exact fillReply_owned hpop _ _

theorem runRestart_owned (other : List Byte) : Owned c (runRestart other s) := by
  unfold runRestart
  split
  · split
    · exact h
    · exact executeRestart_owned h _
  · exact h

theorem ownReadStatus_owned (p : List Byte) : Owned c (ownReadStatus p s).2 := by
  unfold ownReadStatus
  dsimp only
  repeat' split
  all_goals exact h

theorem ownReadImage_owned (p : List Byte) : Owned c (ownReadImage p s).2 := by
  unfold ownReadImage
  split <;> exact h

theorem ownLoadImage_owned (p : List Byte) : Owned c (ownLoadImage p s).2 := by
  unfold ownLoadImage
  dsimp only
  split
  · exact h
  · split
    · exact h
    · split
      · exact h
      · split
        · exact h
        · split
          · exact acceptImage_owned h _ _ _
          · exact h

/-- A fire level newly stored is judged by FIRE_STALE at once (R55, R56). -/
theorem ownSetFireLevel_owned (p : List Byte) : Owned c (ownSetFireLevel p s).2 := by
  unfold ownSetFireLevel
  dsimp only
  split
  · exact h
  · exact judgeFireStale_owned fun hc => h.setRegime (fun e => absurd e hc) (by exact fun _ => rfl)

theorem ownSelectGroup_owned (p : List Byte) : Owned c (ownSelectGroup p s).2 := by
  unfold ownSelectGroup
  dsimp only
  split
  · exact withOverride_owned h _
  · split
    · exact h
    · split
      · exact h
      · exact withOverride_owned h _

theorem ownTrip_owned : Owned c (ownTrip s).2 := seqTrip_owned (tripRequest_owned h _) _

theorem ownClose_owned : Owned c (ownClose s).2 := by
  unfold ownClose
  split
  · exact h
  · split
    · exact h
    · exact seqMove_owned (closeRequest_owned h _) _ _ _

theorem ownResetLockout_owned : Owned c (ownResetLockout s).2 := by
  have h1 : Owned c (setCondition .closeFail false s) := setCondition_owned_of_unbound h (.inr (.inl rfl)) _
  unfold ownResetLockout judgeReset
  split
  · exact h1
  · split
    · exact h1
    · split
      · exact h1
      · exact seqMove_owned h1 _ _ _

theorem ownSetPermit_owned (p : List Byte) : Owned c (ownSetPermit p s).2 := by
  unfold ownSetPermit
  split
  · exact h
  · next hd =>
    split
    · exact h
    · exact setCondition_owned_of_unbound h (.inr (.inr (permitOf_eq_some hd))) _

/-- An acknowledgement moves latches, and no active field (R110). -/
theorem acknowledge_owned (n : Nat) : Owned c (acknowledge n s) := by
  refine huntBarArrival_owned (replaceRecords_owned h _ ?_) s
  rw [acknowledgedTable, CondTable.get_build]
  split
  · exact acknowledged_active _
  · rfl

theorem ownAckConditions_owned (p : List Byte) : Owned c (ownAckConditions p s).2 := by
  unfold ownAckConditions
  dsimp only
  split
  · exact h
  · exact acknowledge_owned h _

theorem ownStartHunt_owned (p : List Byte) : Owned c (ownStartHunt p s).2 := by
  unfold ownStartHunt
  split
  · exact h
  · exact admitHunt_owned h _

theorem ownStopHunt_owned (p : List Byte) : Owned c (ownStopHunt p s).2 := by
  unfold ownStopHunt
  split
  · exact h
  · exact huntAbort_owned h _

theorem ownRequestStart_owned (p : List Byte) : Owned c (ownRequestStart p s).2 := by
  unfold ownRequestStart
  dsimp only
  split
  · exact h
  · split
    · exact h
    · split
      · exact h
      · split
        · exact h
        · split
          · exact h
          · exact makePending_owned h _ _

theorem ownCancelStart_owned (p : List Byte) : Owned c (ownCancelStart p s).2 := by
  unfold ownCancelStart
  dsimp only
  split
  · exact h
  · split
    · exact h
    · split
      · exact h
      · exact withdrawRequest_owned h _ _
      · exact endWindow_owned h _

theorem ownPilotQuery_owned (p : List Byte) : Owned c (ownPilotQuery p s).2 := by
  unfold ownPilotQuery
  dsimp only
  split
  · exact h
  · split
    · exact h
    · split
      · exact markStation_owned (h.setPilot (by rfl)) _
      · split
        · next hj => exact markStation_owned (joinQueue_owned h hj) _
        · exact h

end Host

/-! ## Every command -/

section Commands

variable {c : Cond} {s : State} (h : Owned c s)
include h

theorem execTimeBaseEvent_owned (a b r : Bool) : Ends (execTimeBaseEvent a b r s) (Owned c) := by
  have hpaced : Owned c (paceTimers (advanceTime s)) :=
    ((((((h.setTime _).setDue _).setSeq _).setAdm _).setPilot (by rfl)).setHunt (by exact .rfl))
  rw [execTimeBaseEvent, ends_next]
  exact scanReady_owned (scanPosition_owned hpaced _ _) _

theorem execLossDeclared_owned : Ends (execLossDeclared s) (Owned c) := by
  rw [execLossDeclared, ends_next]
  split
  · refine protLoss_owned (setCondition_owned (fun _ => rfl) fun hc => ?_)
    exact (h.setPort fun e => absurd e hc).setMeas _
  · exact h

theorem execFireLevelExpiry_owned : Ends (execFireLevelExpiry s) (Owned c) := by
  rw [execFireLevelExpiry, ends_next]
  split
  · exact judgeFireStale_owned fun hc => h.setRegime (fun e => absurd e hc) (by exact fun _ => rfl)
  · exact h

theorem execScanEvent_owned : Ends (execScanEvent s) (Owned c) := by
  rw [execScanEvent, ends_next]
  split
  · exact (endCheck_owned (h.setDue _)).setStore_of_images (by rfl)
  · exact h

theorem execBackingWriteCompletion_owned (b : Bool) : Ends (execBackingWriteCompletion b s) (Owned c) := by
  have hdone : Owned c (s.setStore { s.store with write := none }) := h.setStore_of_images rfl
  rw [execBackingWriteCompletion, ends_next]
  split
  · exact h
  · dsimp only
    split
    · exact addReport_owned (updateImage_owned hdone rfl rfl rfl) _
    · exact addReport_owned ((updateImage_owned hdone (by rfl) (by rfl) (by rfl)).setFreeIx _) _

theorem execDownMessageEnd_owned : Ends (execDownMessageEnd s) (Owned c) := by
  rw [execDownMessageEnd, ends_next]
  split
  · dsimp only
    split
    · exact settle_owned (arbitrate_owned (endMessage_owned h))
    · exact endMessage_owned h
  · exact h

theorem execPollTimerExpiry_owned : Ends (execPollTimerExpiry s) (Owned c) := by
  rw [execPollTimerExpiry, ends_next]
  split
  · have h1 : Owned c (s.setPilot { s.pilot with pollRemaining := s.plant.pollInterval * 1000 }) := h.setPilot rfl
    dsimp only
    split
    · split
      · exact pollStation_owned (h1.setPilot (by rfl)) _
      · exact h1
    · exact h1
  · exact h

theorem execSwitchWaitExpiry_owned : Ends (execSwitchWaitExpiry s) (Owned c) := by
  rw [execSwitchWaitExpiry, ends_next]
  split
  · split
    · next hstate => exact stepOver_owned h (by simp [hstate]) _ _
    · exact restoreFailed_owned h _
    all_goals exact h
  · exact h

theorem execDwellExpiry_owned : Ends (execDwellExpiry s) (Owned c) := by
  rw [execDwellExpiry, ends_next]
  split
  · next hdue =>
    refine judgeDwell_owned h fun e => ?_
    simp [e] at hdue
  · exact h

theorem execSettlingEnd_owned : Ends (execSettlingEnd s) (Owned c) := by
  rw [execSettlingEnd, ends_next]
  split
  · exact setHunt_reported_owned (fun _ => h) rfl
  · exact h

theorem execWholeSecondBoundary_owned : Ends (execWholeSecondBoundary s) (Owned c) := by
  have h1 := afterRestoration_owned (h.setDue { s.due with second := false })
  rw [execWholeSecondBoundary, ends_next]
  split
  · dsimp only
    split
    · exact openWindow_owned h1 _
    · exact h1
  · exact h

theorem execTransmissionEnd_owned : Ends (execTransmissionEnd s) (Owned c) := by
  rw [execTransmissionEnd, ends_next]
  split
  · exact h
  · exact h.setHost _
  · exact h.setHost _

theorem execRequestLifetimeExpiry_owned (n : Nat) : Ends (execRequestLifetimeExpiry n s) (Owned c) := by
  rw [execRequestLifetimeExpiry, ends_next]
  split
  · split
    · exact startReport_owned (dropPending_owned h _) _ _ _ _ _
    · exact h
  · exact h

theorem execReplyWaitExpiry_owned (a : Nat) : Ends (execReplyWaitExpiry a s) (Owned c) := by
  rw [execReplyWaitExpiry, ends_next]
  split
  · split
    · exact missedAnswer_owned h _
    · exact h
  · exact h

/-- A row that acts when it is due, and leaves the state alone when it is not. -/
theorem ends_ite_owned {p : Prop} [Decidable p] {t : State} (ht : p → Owned c t) :
    Ends (.next (if p then t else s)) (Owned c) := by
  rw [ends_next]
  split
  · next hp => exact ht hp
  · exact h

theorem execStatus_owned : Ends (execStatus s) (Owned c) := by
  rw [execStatus, ends_next]
  split
  · exact closeDelivery_owned (deliverTo_owned h _ _ _)
  · exact h

theorem execSwitchDone_owned : Ends (execSwitchDone s) (Owned c) := by
  rw [execSwitchDone, ends_next]
  split
  · exact closeDelivery_owned (huntSwitchDone_owned (deliverTo_owned h _ _ _) _ _)
  · exact h

theorem execStartRequest_owned : Ends (execStartRequest s) (Owned c) := by
  rw [execStartRequest, ends_next]
  split
  · exact closeDelivery_owned (admStartRequest_owned (deliverTo_owned h _ _ _) _ _)
  · exact h

theorem execStartDone_owned : Ends (execStartDone s) (Owned c) := by
  rw [execStartDone, ends_next]
  split
  · exact closeDelivery_owned (admStartDone_owned (deliverTo_owned h _ _ _) _ _)
  · exact h

theorem execStartAbandon_owned : Ends (execStartAbandon s) (Owned c) := by
  rw [execStartAbandon, ends_next]
  split
  · exact closeDelivery_owned (admStartAbandon_owned (deliverTo_owned h _ _ _) _ _)
  · exact h

/-- Every command keeps the agreement of each owned condition with its owner. -/
theorem exec_owned (i : Instr) : Ends (exec i s) (Owned c) := by
  cases i with
  | fullRestart k b1 b0 =>
    exact (ends_next _ _).mpr ((fullRestart_owned c (causeOf k) b1 b0 s).of_same rfl (by simp))
  | fullRestartByCommand b1 b0 => exact ends_ite_owned h fun _ => fullRestart_owned c _ b1 b0 s
  | timeBaseEvent a b r => exact execTimeBaseEvent_owned h a b r
  | sampleSetArrival n f => exact ends_ite_owned h fun _ => acceptSet_owned h _
  | lossDeclared => exact execLossDeclared_owned h
  | tripTimerExpiry => exact ends_ite_owned h fun _ => tripTimeout_owned h
  | closeTimerExpiry =>
    refine ends_ite_owned h fun _ => seqTimedOut_owned ?_
    exact setCondition_owned_of_unbound (releaseClose_owned h) (.inr (.inl rfl)) _
  | deadTimerExpiry => exact ends_ite_owned h fun _ => deadTimeEnds_owned h
  | holdExceeded => exact ends_ite_owned h fun _ => seqMove_owned h _ _ _
  | reclaimTimerExpiry => exact ends_ite_owned h fun _ => seqMove_owned h _ _ _
  | scanEvent => exact execScanEvent_owned h
  | backingWriteCompletion b => exact execBackingWriteCompletion_owned h b
  | fireLevelExpiry => exact execFireLevelExpiry_owned h
  | slotEvent up =>
    exact ends_ite_owned h fun _ => settle_owned (arbitrate_owned (takeHalf_owned (h.setDue _) up))
  | takeTimeout => exact ends_ite_owned h fun _ => resettle_owned (h.setPilot (by rfl))
  | downMessageEnd => exact execDownMessageEnd_owned h
  | holdingTimeout => exact ends_ite_owned h fun _ => resettle_owned (h.setPilot (by rfl))
  | refusingEnd => exact ends_ite_owned h fun _ => resettle_owned (h.setPilot (by rfl))
  | coolDownEnd => exact ends_ite_owned h fun _ => h.setPilot (by rfl)
  | status => exact execStatus_owned h
  | switchDone => exact execSwitchDone_owned h
  | startRequest => exact execStartRequest_owned h
  | startDone => exact execStartDone_owned h
  | startAbandon => exact execStartAbandon_owned h
  | pollTimerExpiry => exact execPollTimerExpiry_owned h
  | replyWaitExpiry a => exact execReplyWaitExpiry_owned h a
  | switchWaitExpiry => exact execSwitchWaitExpiry_owned h
  | dwellExpiry => exact execDwellExpiry_owned h
  | settlingEnd => exact execSettlingEnd_owned h
  | wholeSecondBoundary => exact execWholeSecondBoundary_owned h
  | requestLifetimeExpiry n => exact execRequestLifetimeExpiry_owned h n
  | startWindowExpiry => exact ends_ite_owned h fun _ => endWindow_owned h _
  | hostRecordArrival =>
    rw [exec, execHostRecordArrival, ends_next]
    split
    · exact h.setHost _
    · exact h
  | receiveTimeout => exact ends_ite_owned h fun _ => h.setHost _
  | transmissionStart => exact ends_ite_owned h fun _ => h.setHost _
  | transmissionEnd => exact execTransmissionEnd_owned h
  | hostByteReceived b => exact (ends_next _ _).mpr (h.setHost _)
  | echo => exact (ends_next _ _).mpr (runCommand_owned h _ fun _ _ hu => hu)
  | readStatus => exact (ends_next _ _).mpr (runCommand_owned h _ fun p _ hu => ownReadStatus_owned hu p)
  | readMeasure => exact (ends_next _ _).mpr (runCommand_owned h _ fun _ _ hu => hu)
  | readImage => exact (ends_next _ _).mpr (runCommand_owned h _ fun p _ hu => ownReadImage_owned hu p)
  | loadImage => exact (ends_next _ _).mpr (runCommand_owned h _ fun p _ hu => ownLoadImage_owned hu p)
  | checkImages => exact (ends_next _ _).mpr (runCommand_owned h _ fun _ _ hu => fullPass_owned hu)
  | setFireLevel => exact (ends_next _ _).mpr (runCommand_owned h _ fun p _ hu => ownSetFireLevel_owned hu p)
  | selectGroup => exact (ends_next _ _).mpr (runCommand_owned h _ fun p _ hu => ownSelectGroup_owned hu p)
  | trip => exact (ends_next _ _).mpr (runCommand_owned h _ fun _ _ hu => ownTrip_owned hu)
  | close => exact (ends_next _ _).mpr (runCommand_owned h _ fun _ _ hu => ownClose_owned hu)
  | resetLockout => exact (ends_next _ _).mpr (runCommand_owned h _ fun _ _ hu => ownResetLockout_owned hu)
  | setPermit => exact (ends_next _ _).mpr (runCommand_owned h _ fun p _ hu => ownSetPermit_owned hu p)
  | ackConditions => exact (ends_next _ _).mpr (runCommand_owned h _ fun p _ hu => ownAckConditions_owned hu p)
  | startHunt => exact (ends_next _ _).mpr (runCommand_owned h _ fun p _ hu => ownStartHunt_owned hu p)
  | stopHunt => exact (ends_next _ _).mpr (runCommand_owned h _ fun p _ hu => ownStopHunt_owned hu p)
  | requestStart => exact (ends_next _ _).mpr (runCommand_owned h _ fun p _ hu => ownRequestStart_owned hu p)
  | cancelStart => exact (ends_next _ _).mpr (runCommand_owned h _ fun p _ hu => ownCancelStart_owned hu p)
  | pilotQuery => exact (ends_next _ _).mpr (runCommand_owned h _ fun p _ hu => ownPilotQuery_owned hu p)
  | setReportMask => exact (ends_next _ _).mpr (runCommand_owned h _ fun _ _ hu => hu.setHost _)
  | restartLink => exact (ends_next _ _).mpr (runRestart_owned h _)
  | restartFull => exact (ends_next _ _).mpr (runRestart_owned h _)

end Commands

/-- Settles O56: the agreement splits into one part for each condition, and every command keeps each part. -/
theorem stepKeepsConditionsWithOwners : Obligations.StepKeepsConditionsWithOwners := by
  intro s t hs e
  rw [ownersHold_iff] at hs ⊢
  intro c
  unfold step at e
  split at e
  · cases e
    exact hs c
  · exact exec_owned ((hs c).setPending _) _ t e

end Sys2Proof.Machine

/-! PROOFS. The reading commands (R39, R174): a row whose owner leaves the state alone changes nothing but the reply. -/

namespace Sys2Proof.Machine

/-- A head command whose owner only replies changes nothing but the reply (R170). -/
theorem runCommand_of_reading {k : CommandKind} {c : Command} {rest : List Command} {s : State}
    {own : List Byte → State → Reply × State} {r : Reply} (h : HeadIs k c rest s)
    (hl : payloadLengthOk k c.payload.length = true)
    (hown : own c.payload (withCommands rest s) = (r, withCommands rest s)) :
    runCommand k own s = { s with host := s.host.afterReply r none rest } := by
  rw [runCommand_head own h hl, hown, fillReply_withCommands]

/-- The section of READ_STATUS is read from the state without the command as from the state itself (R174). -/
theorem ownReadStatus_section {n : Byte} {b : ReplyBody} {s : State} (rest : List Command)
    (h : (n = 1 ∧ b = ReplyBody.system (systemStatus s)) ∨ (n = 2 ∧ b = .conditions (conditionStatus s)) ∨
      (n = 3 ∧ b = .images (imageStatus s)) ∨ (n = 4 ∧ b = .stations (stationStatus s)) ∨
      (n = 5 ∧ b = .hunt (huntStatus s)) ∨ (n = 6 ∧ b = .admission (admissionStatus s))) :
    ownReadStatus [n] (withCommands rest s) = (okReply b, withCommands rest s) := by
  rcases h with ⟨rfl, rfl⟩ | ⟨rfl, rfl⟩ | ⟨rfl, rfl⟩ | ⟨rfl, rfl⟩ | ⟨rfl, rfl⟩ | ⟨rfl, rfl⟩ <;> rfl

theorem ownReadStatus_no_section {n : Byte} (h : n = 0 ∨ 6 < n.toNat) (s : State) :
    ownReadStatus [n] s = (badArgument 1, s) := by
  have hbyte : u8 [n] 0 = n.toNat := rfl
  have hout : n.toNat = 0 ∨ 6 < n.toNat := h.imp (fun e => by rw [e]; rfl) id
  unfold ownReadStatus
  simp only [hbyte]
  repeat rw [if_neg (by omega)]

/-- READ_IMAGE of an image but an unfit PLANT carries no defaults (R174). -/
theorem ownReadImage_without_defaults {k i : Byte} {id : ImageId} {s : State}
    (hid : ImageId.ofKindIndex k.toNat i.toNat = some id) (hfit : id = .plant → usable s.store.images.plant = true) :
    ownReadImage [k, i] s =
      (okReply (.image (dirRecord s.store.images id)
        (if (s.store.images.get id).present then some (s.store.images.get id).working else none) none), s) := by
  have hk : u8 [k, i] 0 = k.toNat := rfl
  have hi : u8 [k, i] 1 = i.toNat := rfl
  have hdefaults : shownDefaults id s = none := by
    refine if_neg ?_
    rintro ⟨hp, hu⟩
    simp [hfit hp] at hu
  simp [ownReadImage, hk, hi, hid, hdefaults]

/-- Settles O47: each reading command's owner answers with the state it was given. -/
theorem readingCommandsOnlyReply : Obligations.ReadingCommandsOnlyReply := by
  intro c rest s
  refine ⟨fun h => ?_, fun h hp => ?_, fun n b h hp hb => ?_, fun n h hp hn => ?_, fun k i id h hp hid hfit => ?_⟩
  all_goals refine congrArg Host.Outcome.next (runCommand_of_reading h ?_ ?_)
  · rfl
  · rfl
  · rw [hp]; rfl
  · rfl
  · rw [hp]; rfl
  · rw [hp]; exact ownReadStatus_section rest hb
  · rw [hp]; rfl
  · rw [hp]; exact ownReadStatus_no_section hn _
  · rw [hp]; rfl
  · rw [hp]; exact ownReadImage_without_defaults hid hfit

end Sys2Proof.Machine

/-! PROOFS. The values of the elements at a point: accumulators by the band and the curve (R20, R21), counts by the band
(R23). -/

namespace Sys2Proof.Machine

/-! ## Bands -/

theorem bandOf_pickedUp {q : Nat} (h : 256 ≤ q) : bandOf q = .pickedUp := if_pos h

theorem bandOf_hold {q : Nat} (h : 231 ≤ q) (h' : q ≤ 255) : bandOf q = .hold := by
  rw [bandOf, if_neg (by omega), if_pos h]

theorem bandOf_dropped {q : Nat} (h : q < 231) : bandOf q = .dropped := by
  rw [bandOf, if_neg (by omega), if_neg (by omega)]

@[simp] theorem heldBy_false (v : Nat) : heldBy false v = v := rfl

@[simp] theorem heldBy_true (v : Nat) : heldBy true v = 0 := rfl

/-! ## The curve point of a multiple -/

/-- A fold over curve points keeps, and once met takes, the point above all others (R20). -/
theorem foldl_higherPoint {p : CurvePoint} {l : List CurvePoint} {best : Option CurvePoint}
    (hbest : ∀ b, best = some b → b.threshold < p.threshold ∨ b = p)
    (hl : ∀ x ∈ l, x.threshold < p.threshold ∨ x = p) (hp : best = some p ∨ p ∈ l) :
    l.foldl higherPoint best = some p := by
  induction l generalizing best with
  | nil => simpa using hp
  | cons x rest ih =>
    obtain ⟨hx, hrest⟩ := List.forall_mem_cons.mp hl
    refine ih (fun b hb => ?_) hrest ?_
    · cases best with
      | none =>
        cases hb
        exact hx
      | some a =>
        simp only [higherPoint] at hb
        split at hb <;> cases hb
        · exact hx
        · exact hbest _ rfl
    · by_cases hxp : x = p
      · left
        subst hxp
        cases best with
        | none => rfl
        | some a =>
          have ha := hbest a rfl
          simp only [higherPoint]
          split
          · rfl
          · next hlt => exact congrArg some (ha.resolve_left (by omega))
      · rcases hp with rfl | hp
        · left
          have hlt := hx.resolve_right hxp
          simp only [higherPoint]
          rw [if_neg (by omega)]
        · exact .inr ((List.mem_cons.mp hp).resolve_left (Ne.symm hxp))

/-- The point with the largest threshold not above Q, where one threshold alone is the largest (R20). -/
theorem curvePointFor_eq {c : Curve} {q : Nat} {p : CurvePoint} (hp : p ∈ c.points) (hq : p.threshold ≤ q)
    (hmax : ∀ x ∈ c.points, x.threshold ≤ q → x.threshold < p.threshold ∨ x = p) : curvePointFor c q = some p := by
  refine foldl_higherPoint nofun (fun x hx => ?_) (.inr ?_)
  · simp only [List.mem_filter, decide_eq_true_eq] at hx
    exact hmax x hx.1 hx.2
  · simpa using ⟨hp, hq⟩

/-! ## Accumulators and counts -/

theorem accStep_hold (c : Curve) (tms : Nat) {q : Nat} (a : Nat) (h : 231 ≤ q) (h' : q ≤ 255) :
    accStep (some c) tms (some q) a = a := by
  simp [accStep, bandOf_hold h h']

theorem accStep_dropped (c : Curve) (tms : Nat) {q : Nat} (a : Nat) (h : q < 231) :
    accStep (some c) tms (some q) a = resetAcc c.resetRate a := by
  simp [accStep, bandOf_dropped h]

theorem accStep_pickedUp (c : Curve) (tms : Nat) {q : Nat} (a : Nat) (h : 256 ≤ q) :
    accStep (some c) tms (some q) a = min accFull (a + increment c tms q) := by
  simp [accStep, bandOf_pickedUp h]

theorem countStep_pickedUp {q : Nat} (n : Nat) (h : 256 ≤ q) : countStep (some q) n = min 65535 (n + 1) := by
  simp [countStep, bandOf_pickedUp h]

theorem countStep_hold {q : Nat} (n : Nat) (h : 231 ≤ q) (h' : q ≤ 255) : countStep (some q) n = n := by
  simp [countStep, bandOf_hold h h']

theorem countStep_dropped {q : Nat} (n : Nat) (h : q < 231) : countStep (some q) n = 0 := by
  simp [countStep, bandOf_dropped h]

/-- VN supervision takes SEF's multiple to 0 while its own is present and below 256 (R25). -/
theorem supervisedSef_eq (q : Multiples) :
    supervisedSef q = if q.sefVn.any (fun v => v < 256) then q.sef.map (fun _ => 0) else q.sef := by
  unfold supervisedSef
  cases q.sefVn <;> simp

/-- Settles O10: the bands of the accumulator, and the fold that finds the curve point. -/
theorem accumulatorsMoveByTheBand : Obligations.AccumulatorsMoveByTheBand := by
  refine ⟨⟨fun c tms q a => ⟨accStep_hold c tms a, fun hq hr => ?_, fun hq hr => ?_⟩, fun f q p hp => ?_⟩, ?_⟩
  · rw [accStep_dropped c tms a hq, resetAcc, if_neg hr, Nat.zero_max]
  · rw [accStep_dropped c tms a hq, resetAcc, if_pos hr]
  · simp [stepValues, Three.zip, hp]
  · intro c tms q a p hq hp hpq hmax
    rw [accStep_pickedUp c tms a hq, increment, curvePointFor_eq hp hpq hmax, accFull]

/-- Settles O11: the bands of the count; a trip issue leaves the zeroed values. -/
theorem countFollowsTheBand : Obligations.CountFollowsTheBand := by
  refine ⟨fun q n => ⟨countStep_pickedUp n, countStep_hold n, countStep_dropped n⟩, fun t s => ?_,
    fun f q p hp => ?_⟩
  · simp [issueTrip_prot, zeroValues]
  · simp [stepValues, Three.zip, hp, supervisedSef_eq]

end Sys2Proof.Machine

/-! PROOFS. The breaker interface: what a change of conditions, a window's end and a move of the sequencer leave of the trip
side, and the three releases of the coil outputs (R35, R66 to R72, R82, R88, R89). -/

namespace Sys2Proof.Machine

/-! ## The trip side of the breaker interface -/

/-- What the breaker interface holds of a trip, with the accepted state: everything but the scans, READY and the close. -/
def Breaker.tripSide (b : Breaker) : BreakerPos × Bool × Option TripMemo × Option Nat :=
  (b.accepted, b.tripOut, b.tripMemo, b.tripTimer)

theorem Breaker.tripSide_eq_iff (b b' : Breaker) :
    b.tripSide = b'.tripSide ↔
      b.accepted = b'.accepted ∧ b.tripOut = b'.tripOut ∧ b.tripMemo = b'.tripMemo ∧ b.tripTimer = b'.tripTimer := by
  simp [Breaker.tripSide]

@[simp] theorem breakerHardChange_tripSide (oh : List Cond) (s : State) :
    (breakerHardChange oh s).brk.tripSide = s.brk.tripSide := by
  unfold breakerHardChange
  split <;> simp [releaseClose, Breaker.tripSide]

@[simp] theorem adoptRecords_tripSide (t : CondTable CondRec) (s : State) :
    (adoptRecords t s).brk.tripSide = s.brk.tripSide := by
  unfold adoptRecords
  split <;> simp

@[simp] theorem ownerReport_tripSide (c : Cond) (a : Bool) (s : State) :
    (ownerReport c a s).brk.tripSide = s.brk.tripSide := by
  unfold ownerReport
  split <;> simp

@[simp] theorem finishHunt_tripSide (r : LastResult) (l : List StepRecord) (n : HuntState) (s : State) :
    (finishHunt r l n s).brk.tripSide = s.brk.tripSide := by
  simp [finishHunt]

@[simp] theorem huntAbort_tripSide (k : AbortCause) (s : State) :
    (huntAbort k s).brk.tripSide = s.brk.tripSide := by
  unfold huntAbort
  dsimp only
  split <;> simp [endHunt]

@[simp] theorem huntBarArrival_tripSide (b s : State) : (huntBarArrival b s).brk.tripSide = s.brk.tripSide := by
  unfold huntBarArrival
  split <;> simp

@[simp] theorem setCondition_tripSide (c : Cond) (a : Bool) (s : State) :
    (setCondition c a s).brk.tripSide = s.brk.tripSide := by
  simp [setCondition]

@[simp] theorem beginSteps_tripSide (u : Option Nat) (l : List HuntStep) (s : State) :
    (beginSteps u l s).brk.tripSide = s.brk.tripSide := by
  induction l generalizing s with
  | nil => simp [beginSteps, endHunt]
  | cons st rest ih =>
    unfold beginSteps
    dsimp only
    split
    · split
      · next hs =>
        have hf := sendHunt_frame hs
        simp [hf]
      · simp [ih]
    · simp [ih]

@[simp] theorem startHuntNow_tripSide (o : Option HuntOrigin) (s : State) :
    (startHuntNow o s).brk.tripSide = s.brk.tripSide := by
  simp [startHuntNow]

@[simp] theorem huntWindowClosed_tripSide (s : State) : (huntWindowClosed s).brk.tripSide = s.brk.tripSide := by
  unfold huntWindowClosed
  split
  · split <;> simp [huntNotStarted]
  · rfl

@[simp] theorem endWindow_tripSide (k : StartCause) (s : State) : (endWindow k s).brk.tripSide = s.brk.tripSide := by
  unfold endWindow
  split <;> simp

/-! ## The sequencer without an open start window -/

@[simp] theorem endWindow_window (k : StartCause) (s : State) : (endWindow k s).adm.window = none := by
  unfold endWindow
  split
  · next h => exact h
  · simp

theorem endWindow_of_no_window {s : State} (h : s.adm.window = none) (k : StartCause) : endWindow k s = s := by
  simp [endWindow, h]

/-- Without an open window a move of the sequencer is the move alone (R99, R165). -/
theorem seqMove_of_no_window {s : State} (h : s.adm.window = none) (r : Sequencer) (e : SeqEvent)
    (o : Option ChangeOrigin) : seqMove r e o s = seqTo r e o s := by
  unfold seqMove
  split
  · exact endWindow_of_no_window (by simp [h]) _
  · rfl

/-- Everything but the sequencer and the reports is the same in both states. -/
@[simp] def OnlySequencerMoved (s t : State) : Prop :=
  t.brk = s.brk ∧ t.mon = s.mon ∧ t.hunt = s.hunt ∧ t.adm = s.adm ∧ t.pilot = s.pilot

theorem openJudgement_of_no_window {s : State} (h : s.adm.window = none) (o : ChangeOrigin) :
    OnlySequencerMoved s (openJudgement o s) := by
  unfold openJudgement
  split
  · simp [seqMove_of_no_window h]
  · simp only [seqMove_of_no_window h]
    split <;> simp

theorem initialChange_of_no_window {s : State} (h : s.adm.window = none) (n : BreakerPos) :
    OnlySequencerMoved s (initialChange n s) := by
  unfold initialChange
  dsimp only
  split
  · simp [seqMove_of_no_window h]
  · simp

theorem laterChange_of_no_window {s : State} (h : s.adm.window = none) (n : BreakerPos) (o : ChangeOrigin) (b : Bool) :
    OnlySequencerMoved s (laterChange n o b s) := by
  have hopen := openJudgement_of_no_window h o
  have hmove (r e o') : OnlySequencerMoved s (seqMove r e o' s) := by simp [seqMove_of_no_window h]
  unfold laterChange externalClosing
  repeat' split
  all_goals first | exact hopen | exact hmove _ _ _ | simp

/-- A breaker change reaches the sequencer alone once no window is open (R66, R78). -/
theorem seqBreakerChange_of_no_window {s : State} (h : s.adm.window = none) (n : BreakerPos) (o : ChangeOrigin) :
    OnlySequencerMoved s (seqBreakerChange n o s) := by
  unfold seqBreakerChange
  dsimp only
  split
  · exact initialChange_of_no_window (s := s.setSeq _) (by exact h) n
  · exact laterChange_of_no_window (s := s.setSeq _) (by exact h) n o _

/-! ## The trip timer -/

/-- BREAKER_FAIL is handed to a sequencer that is not in READY, so no window ends (R82). -/
theorem seqBreakerFail_moves (s : State) : OnlySequencerMoved s (seqBreakerFail s) := by
  unfold seqBreakerFail
  split
  · next h =>
    rw [seqMove_of_not_ready (by simp [h])]
    simp
  · simp

theorem seqBreakerFail_of_opening {s : State} (h : s.seq.state = .opening) :
    (seqBreakerFail s).seq = enterLockout .breakerFail s.seq := by
  rw [seqBreakerFail, if_pos h, seqMove_of_not_ready (by simp [h]), seqTo_seq]

/-- The trip timer's expiry, up to the sequencer: TRIP_OUT released, its memo kept, BREAKER_FAIL active (R70). -/
def tripReleased (s : State) : State :=
  setCondition .breakerFail true (s.setBrk { s.brk with tripOut := false, tripTimer := none })

theorem tripTimeout_eq (s : State) :
    tripTimeout s =
      endSuspension (if s.mon.recs.breakerFail.active then tripReleased s else seqBreakerFail (tripReleased s)) := rfl

theorem tripTimeout_moves (s : State) :
    (tripTimeout s).brk = (tripReleased s).brk ∧ (tripTimeout s).mon = (tripReleased s).mon ∧
      (tripTimeout s).adm = s.adm := by
  have hmoves := seqBreakerFail_moves (tripReleased s)
  have hadm : (tripReleased s).adm = s.adm := by simp [tripReleased]
  rw [tripTimeout_eq]
  split
  · simp [hadm]
  · simp_all

theorem tripTimeout_seq_of_opening {s : State} (h : s.seq.state = .opening)
    (hfail : s.mon.recs.breakerFail.active = false) :
    (tripTimeout s).seq = enterLockout .breakerFail s.seq := by
  have hseq : (tripReleased s).seq = s.seq := by
    rw [tripReleased, setCondition_seq] <;> simp [h]
  rw [tripTimeout_eq, if_neg (by simp [hfail])]
  simp [seqBreakerFail_of_opening, hseq, h]

theorem tripTimerDue_of_elapsed {s : State} {l : Nat} {m : TripMemo} (ht : s.brk.tripTimer = some l)
    (hm : s.brk.tripMemo = some m) (h : l ≤ elapsed s.time m.time) : tripTimerDue s = true := by
  simp [tripTimerDue, ht, hm, h]

theorem tripTimerExpiry_releases {s : State} {l : Nat} {m : TripMemo} (ht : s.brk.tripTimer = some l)
    (hm : s.brk.tripMemo = some m) (h : l ≤ elapsed s.time m.time) :
    ∃ t, exec .tripTimerExpiry s = .next t ∧
      t.brk.tripOut = false ∧ t.brk.tripTimer = none ∧ t.brk.tripMemo = some m ∧
      t.brk.accepted = s.brk.accepted ∧ t.mon.recs.breakerFail.active = true ∧
      t.prot = { s.prot with suspended := false } ∧
      (s.seq.state = .opening → s.mon.recs.breakerFail.active = false →
        t.seq.state = .lockout ∧ t.seq.cause = some .breakerFail ∧ t.seq.shots = s.seq.shots) ∧
      SameClock s t ∧ SameSettings s t ∧ t.adm = s.adm ∧ SameLine s t := by
  obtain ⟨hbrk, hmon, hadm⟩ := tripTimeout_moves s
  have hside : (tripReleased s).brk.tripSide = ({ s.brk with tripOut := false, tripTimer := none } : Breaker).tripSide := by
    simp [tripReleased]
  obtain ⟨hacc, hout, hmemo, htimer⟩ := (Breaker.tripSide_eq_iff _ _).mp hside
  have hprot : (tripTimeout s).prot = { s.prot with suspended := false } := by
    rw [tripTimeout_eq]
    split <;> simp [tripReleased, endSuspension_prot]
  refine ⟨tripTimeout s, congrArg Host.Outcome.next (if_pos (tripTimerDue_of_elapsed ht hm h)), ?_, ?_, ?_, ?_, ?_,
    hprot, fun hs hf => ?_, by simp [SameClock], by simp [SameSettings], hadm, by simp [SameLine]⟩
  · rw [hbrk, hout]
  · rw [hbrk, htimer]
  · rw [hbrk, hmemo, hm]
  · rw [hbrk, hacc]
  · rw [hmon]
    exact setCondition_active (c := .breakerFail) (by decide) true _
  · rw [tripTimeout_seq_of_opening hs hf]
    exact ⟨rfl, rfl, rfl⟩

/-! ## The hard reasons at a change of one condition -/

theorem mem_hardOf {t : CondTable CondRec} {c : Cond} :
    c ∈ hardOf t ↔ (t.get c).inForce = true ∧ (t.get c).actions.blockHard = true := by
  simp [hardOf, Cond.mem_all]

theorem arrives_iff {old new : List Cond} : arrives old new = true ↔ ∃ c ∈ new, c ∉ old := by
  simp [arrives]

/-- Only the reported condition can arrive (R102, R107). -/
theorem mem_hardOf_set {t : CondTable CondRec} {c d : Cond} {a : Bool}
    (h : c ∈ hardOf (t.set d ((t.get d).setActive a))) (hold : c ∉ hardOf t) : c = d := by
  by_contra hc
  simp [mem_hardOf, hc] at h hold
  simp_all

/-- A fall brings no condition into force (R102, R103). -/
theorem inForce_of_fall {r : CondRec} (h : (r.setActive false).inForce = true) : r.inForce = true := by
  simp_all [CondRec.inForce, CondRec.setActive]

theorem not_arrives_of_fall (t : CondTable CondRec) (d : Cond) :
    ¬ arrives (hardOf t) (hardOf (t.set d ((t.get d).setActive false))) = true := by
  rw [arrives_iff]
  rintro ⟨c, hnew, hold⟩
  have hc := mem_hardOf_set hnew hold
  subst hc
  simp only [mem_hardOf, CondTable.get_set, if_true, CondRec.setActive_actions] at hnew hold
  exact hold ⟨inForce_of_fall hnew.1, hnew.2⟩

/-! ## CLOSING under a change of conditions -/

theorem seqBlockChange_of_closing {s : State} (h : s.seq.state = .closing) (oh oo : List Cond) :
    (seqBlockChange oh oo s).seq =
      if arrives oh s.mon.hard then enterLockout (closingCause oh s) s.seq else s.seq := by
  simp only [seqBlockChange, h]
  split <;> simp [seqTo_seq]

theorem breakerHardChange_of_no_arrival {oh : List Cond} {s : State} (h : ¬ arrives oh s.mon.hard = true) :
    breakerHardChange oh s = s := by
  simp [breakerHardChange, h]

/-- In CLOSING the fall of a condition leaves the sequencer as it is (R89). -/
theorem ownerReport_fall_of_closing {s : State} (hm : MonitorConsistent s) (h : s.seq.state = .closing) (d : Cond) :
    (ownerReport d false s).seq = s.seq := by
  have hhard : s.mon.hard = hardOf s.mon.recs := congrArg Monitor.hard hm
  have hfall := not_arrives_of_fall s.mon.recs d
  rw [← hhard] at hfall
  unfold ownerReport
  split
  · rfl
  · simp only [reportCondition, addReport_frame, adoptRecords]
    split
    · rfl
    · rw [breakerHardChange_of_no_arrival (by exact hfall), seqBlockChange_of_closing (by exact h), if_neg (by exact hfall)]
      rfl

theorem finishHunt_idle_of_closing {s : State} (hm : MonitorConsistent s) (h : s.seq.state = .closing) (r : LastResult)
    (l : List StepRecord) : (finishHunt r l .idle s).seq = s.seq := by
  refine (ownerReport_fall_of_closing ?_ ?_ _).trans ?_
  · simpa [MonitorConsistent] using hm
  · simp [h]
  · simp

/-- In CLOSING the hunt bar's hand-on leaves the sequencer as it is: its abort ends in IDLE, a fall of HUNT_ACTIVE (R150). -/
theorem huntBarArrival_of_closing {s : State} (hm : MonitorConsistent s) (h : s.seq.state = .closing) (b : State) :
    (huntBarArrival b s).seq = s.seq := by
  unfold huntBarArrival
  split
  · unfold huntAbort
    simp only [endHunt, reduceCtorEq, if_false]
    split
    · rfl
    · rfl
    · exact finishHunt_idle_of_closing hm h _ _
    all_goals
      refine (finishHunt_idle_of_closing ?_ ?_ _ _).trans ?_
      · simpa [MonitorConsistent] using hm
      · simp [h]
      · simp
  · rfl

/-! ## The close timer -/

@[simp] theorem releaseClose_brk (s : State) :
    (releaseClose s).brk = { s.brk with closeOut := false, closeTimer := none, closeMemo := none } := rfl

/-- CLOSE_FAIL reported in CLOSING with CLOSE_OUT released: either no hard reason arrives, or CLOSE_FAIL does (R89). -/
theorem closeFail_report_of_closing {s : State} (hm : MonitorConsistent s) (h : s.seq.state = .closing)
    (hout : s.brk.closeOut = false) :
    (ownerReport .closeFail true s).seq = s.seq ∨
      (ownerReport .closeFail true s).seq = enterLockout (.closeFail (s.seq.closeOrigin.getD .automatic)) s.seq := by
  have hhard : s.mon.hard = hardOf s.mon.recs := congrArg Monitor.hard hm
  unfold ownerReport
  split
  · exact .inl rfl
  · simp only [reportCondition, addReport_frame, adoptRecords]
    split
    · exact .inl rfl
    · rw [breakerHardChange_settled _ (by exact hout), seqBlockChange_of_closing (by exact h)]
      split
      · next harrives =>
        obtain ⟨c, hnew, hold⟩ := arrives_iff.mp harrives
        have hc : c = .closeFail := mem_hardOf_set hnew (hhard ▸ hold)
        subst hc
        right
        have hcause : closingCause s.mon.hard (s.setMon (monitorOf
            (s.mon.recs.set .closeFail ((s.mon.recs.get .closeFail).setActive true)))) =
            .closeFail (s.seq.closeOrigin.getD .automatic) := by
          refine if_pos ?_
          simpa using ⟨hnew, hold⟩
        rw [hcause]
        rfl
      · exact .inl rfl

/-- TIMED_OUT is taken in CLOSING alone, so no window ends (R88). -/
theorem seqTimedOut_moves (s : State) : OnlySequencerMoved s (seqTimedOut s) := by
  unfold seqTimedOut
  split
  · next h =>
    rw [seqMove_of_not_ready (by simp [h])]
    simp
  · simp

theorem seqTimedOut_seq (s : State) :
    (seqTimedOut s).seq =
      if s.seq.state = .closing then enterLockout (.closeFail (s.seq.closeOrigin.getD .automatic)) s.seq else s.seq := by
  unfold seqTimedOut
  split
  · next h => rw [seqMove_of_not_ready (by simp [h]), seqTo_seq]
  · rfl

/-- Whichever of CLOSE_FAIL's arrival and TIMED_OUT comes first, CLOSING goes to LOCKOUT with CLOSE_FAIL and the close's
origin (R88, R89). -/
theorem closeTimeout_seq_of_closing {s : State} (hm : MonitorConsistent s) (h : s.seq.state = .closing) :
    (seqTimedOut (setCondition .closeFail true (releaseClose s))).seq =
      enterLockout (.closeFail (s.seq.closeOrigin.getD .automatic)) s.seq := by
  have hm' : MonitorConsistent (releaseClose s) := hm
  have hbar : MonitorConsistent (ownerReport .closeFail true (releaseClose s)) := ownerReport_consistent hm' _ _
  rw [seqTimedOut_seq, setCondition]
  rcases closeFail_report_of_closing hm' (by exact h) rfl with e | e
  · rw [huntBarArrival_of_closing hbar (by rw [e]; exact h), e, if_pos (by exact h)]
    rfl
  · have hlock : (ownerReport .closeFail true (releaseClose s)).seq.state = .lockout := by
      rw [e]
      rfl
    rw [huntBarArrival_seq _ (by simp [hlock]) (by simp [hlock]), hlock, if_neg (by decide), e]
    rfl

theorem closeTimerExpiry_releases {s : State} {l : Nat} {m : CloseMemo} (ht : s.brk.closeTimer = some l)
    (hm : s.brk.closeMemo = some m) (h : l ≤ elapsed s.time m.time) :
    ∃ t, exec .closeTimerExpiry s = .next t ∧
      t.brk.closeOut = false ∧ t.brk.closeTimer = none ∧ t.brk.closeMemo = none ∧
      t.brk.tripOut = s.brk.tripOut ∧ t.brk.accepted = s.brk.accepted ∧ t.mon.recs.closeFail.active = true ∧
      (MonitorConsistent s → s.seq.state = .closing →
        t.seq.state = .lockout ∧ t.seq.cause = some (.closeFail (s.seq.closeOrigin.getD .automatic))) ∧
      SameClock s t ∧ SameSettings s t ∧ t.prot = s.prot ∧ t.adm = s.adm ∧ SameLine s t := by
  obtain ⟨hbrk, hmon, -, hadm, -⟩ := seqTimedOut_moves (setCondition .closeFail true (releaseClose s))
  have hreleased : (setCondition .closeFail true (releaseClose s)).brk = (releaseClose s).brk := setCondition_brk _ _ rfl
  rw [hreleased] at hbrk
  have hdue : closeTimerDue s = true := by simp [closeTimerDue, ht, hm, h]
  refine ⟨_, congrArg Host.Outcome.next (if_pos hdue), ?_, ?_, ?_, ?_, ?_, ?_, fun hc hs => ?_, by simp [SameClock],
    by simp [SameSettings], by simp, ?_, by simp [SameLine]⟩
  · rw [hbrk]; rfl
  · rw [hbrk]; rfl
  · rw [hbrk]; rfl
  · rw [hbrk]; rfl
  · rw [hbrk]; rfl
  · rw [hmon]
    exact setCondition_active (c := .closeFail) (by decide) true _
  · rw [closeTimeout_seq_of_closing hc hs]
    exact ⟨rfl, rfl⟩
  · rw [hadm]
    simp

/-! ## OPEN accepted -/

/-- OPEN after a trip memo: TRIP_OUT released, its timer stopped, its memo removed (R69). -/
theorem completeTrip_tripSide {s : State} (h : s.brk.tripMemo.isSome = true) :
    (completeTrip s).brk.tripSide = (s.brk.accepted, false, none, none) := by
  rw [completeTrip, if_pos h, setCondition_tripSide]
  rfl

/-- The acceptance of OPEN with a trip memo, up to the end of the scan (R35, R66, R69, R165). -/
theorem acceptOpen_releases {s : State} (h : s.brk.tripMemo.isSome = true) :
    (acceptPosition .opened s).brk.tripSide = (.opened, false, none, none) ∧
    (acceptPosition .opened s).mon.recs.breakerFail.active = false ∧
    (acceptPosition .opened s).prot = { s.prot with suspended := false } ∧
    (acceptPosition .opened s).adm.window = none := by
  let u := endWindow .breakerChange (s.setBrk { s.brk with accepted := .opened })
  have hwindow : u.adm.window = none := endWindow_window _ _
  obtain ⟨hbrk, -, -, hadm, -⟩ := seqBreakerChange_of_no_window hwindow .opened (changeOrigin s.brk .opened)
  have hside : u.brk.tripSide = ({ s.brk with accepted := .opened } : Breaker).tripSide := endWindow_tripSide _ _
  obtain ⟨hacc, -, hmemo, -⟩ := (Breaker.tripSide_eq_iff _ _).mp hside
  have hresult : acceptPosition .opened s =
      completeTrip (endSuspension (seqBreakerChange .opened (changeOrigin s.brk .opened) u)) := rfl
  rw [hresult]
  refine ⟨?_, setCondition_active (c := .breakerFail) (by decide) false _, ?_, ?_⟩
  · rw [completeTrip_tripSide] <;> simp [hbrk, hacc, hmemo, h]
  · simp [endSuspension_prot, u]
  · simp [hadm, hwindow]

theorem scanReady_keeps (b : Bool) (s : State) :
    (scanReady b s).brk.tripSide = s.brk.tripSide ∧
      (scanReady b s).mon.recs.breakerFail.active = s.mon.recs.breakerFail.active := by
  unfold scanReady
  dsimp only
  split
  · exact ⟨setCondition_tripSide _ _ _, congrArg CondRec.active
      (setCondition_other (c := .breakerNotReady) (d := .breakerFail) (by decide) (by decide) _ _)⟩
  · exact ⟨rfl, rfl⟩

theorem openAccepted_releases {s : State} (ready : Bool) (hprev : s.brk.prevPos = some (false, true))
    (hacc : s.brk.accepted ≠ .opened) (hmemo : s.brk.tripMemo.isSome = true) :
    ∃ t, exec (.timeBaseEvent false true ready) s = .next t ∧ t.brk.accepted = .opened ∧
      t.brk.tripOut = false ∧ t.brk.tripTimer = none ∧ t.brk.tripMemo = none ∧
      t.mon.recs.breakerFail.active = false ∧ t.prot = { s.prot with suspended := false } ∧
      t.adm.window = none := by
  let u := (paceTimers (advanceTime s)).setBrk { s.brk with prevPos := some (false, true) }
  obtain ⟨hside, hfail, hprot, hwindow⟩ := acceptOpen_releases (s := u) hmemo
  have hscan : scanPosition false true (paceTimers (advanceTime s)) = acceptPosition .opened u :=
    if_pos ⟨hprev, hacc⟩
  obtain ⟨hside', hfail'⟩ := scanReady_keeps ready (acceptPosition .opened u)
  have hprot' : (acceptPosition .opened u).prot = { s.prot with suspended := false } := hprot
  rw [hside] at hside'
  simp only [Breaker.tripSide, Prod.mk.injEq] at hside'
  obtain ⟨ha, ho, hm, ht⟩ := hside'
  refine ⟨scanReady ready (acceptPosition .opened u), ?_, ha, ho, ht, hm, hfail'.trans hfail, ?_, ?_⟩
  · rw [← hscan]
    rfl
  · simpa using hprot'
  · simpa using hwindow

/-- Settles O13: the two expiries and the acceptance of OPEN, each by its own lemma. -/
theorem coilOutputsAreReleased : Obligations.CoilOutputsAreReleased :=
  ⟨fun _ _ _ => tripTimerExpiry_releases, fun _ _ _ => closeTimerExpiry_releases, fun _ => openAccepted_releases⟩

end Sys2Proof.Machine

/-! PROOFS. A trip issued at a point (R31 to R34): the reports only join the queue, the hunt is ended before the window, and
the sequencer takes the trip from the state that the point found. -/

namespace Sys2Proof.Machine

/-! ## The report queue only grows -/

/-- The reports that waited still wait in their order, with any new ones behind them (R172). -/
def ReportsGrow (s t : State) : Prop := s.host.reports <+: t.host.reports

theorem ReportsGrow.refl (s : State) : ReportsGrow s s := List.prefix_refl _

theorem ReportsGrow.of_host {s t : State} (h : t.host = s.host) : ReportsGrow s t := by
  rw [ReportsGrow, h]

theorem ReportsGrow.trans {s t u : State} (h : ReportsGrow s t) (h' : ReportsGrow t u) : ReportsGrow s u :=
  List.IsPrefix.trans h h'

theorem addReport_grows (r : Report) (s : State) : ReportsGrow s (addReport r s) := by
  unfold addReport placeReport
  split
  · split
    · exact List.prefix_append _ _
    · exact .refl _
  · exact .refl s

theorem seqTo_grows (r : Sequencer) (e : SeqEvent) (o : Option ChangeOrigin) (s : State) :
    ReportsGrow s (seqTo r e o s) := by
  unfold seqTo
  split
  · exact .of_host rfl
  · exact addReport_grows _ (s.setSeq r)

theorem seqHold_grows (s : State) : ReportsGrow s (seqHold s) := by
  unfold seqHold
  split
  · exact seqTo_grows _ _ _ s
  · exact .of_host rfl

theorem seqBlockChange_grows (oh oo : List Cond) (s : State) : ReportsGrow s (seqBlockChange oh oo s) := by
  unfold seqBlockChange
  split
  · split
    · exact seqTo_grows _ _ _ s
    · split
      · exact seqHold_grows s
      · split
        · exact .of_host rfl
        · exact .refl s
  · split
    · exact seqTo_grows _ _ _ s
    · exact .refl s
  all_goals exact .refl s

theorem adoptRecords_grows (t : CondTable CondRec) (s : State) : ReportsGrow s (adoptRecords t s) := by
  unfold adoptRecords
  split
  · exact .of_host rfl
  · exact .trans (.of_host (by simp)) (seqBlockChange_grows _ _ _)

theorem ownerReport_grows (c : Cond) (a : Bool) (s : State) : ReportsGrow s (ownerReport c a s) := by
  unfold ownerReport
  split
  · exact .refl s
  · exact .trans (adoptRecords_grows _ s) (addReport_grows _ _)

theorem endStep_grows (r : StepResult) (s : State) : ReportsGrow s (endStep r s) :=
  .trans (.of_host (by rfl)) (addReport_grows _ _)

theorem finishHunt_grows (r : LastResult) (l : List StepRecord) (n : HuntState) (s : State) :
    ReportsGrow s (finishHunt r l n s) :=
  .trans (.of_host (by rfl)) (.trans (addReport_grows _ _) (ownerReport_grows _ _ _))

theorem huntAbort_grows (k : AbortCause) (s : State) : ReportsGrow s (huntAbort k s) := by
  unfold huntAbort
  dsimp only
  split
  · exact .refl s
  · exact .refl s
  · exact finishHunt_grows _ _ _ s
  all_goals exact .trans (.of_host (by simp)) (.trans (endStep_grows _ (dropOutstanding s)) (finishHunt_grows _ _ _ _))

theorem huntBarArrival_grows (b s : State) : ReportsGrow s (huntBarArrival b s) := by
  unfold huntBarArrival
  split
  · exact huntAbort_grows _ s
  · exact .refl s

theorem setCondition_grows (c : Cond) (a : Bool) (s : State) : ReportsGrow s (setCondition c a s) :=
  .trans (ownerReport_grows c a s) (huntBarArrival_grows s _)

theorem startReport_grows (n : Nat) (e : StartEvent) (k : Option StartCause) (so : Option Nat) (w : Option (Nat × Nat))
    (s : State) : ReportsGrow s (startReport n e k so w s) := addReport_grows _ s

theorem queueRelease_grows (n a : Nat) (s : State) : ReportsGrow s (queueRelease n a s) := by
  unfold queueRelease
  split
  · exact .of_host rfl
  · split
    · next hj =>
      have hf := joinQueue_frame hj
      exact .of_host (by simp [hf])
    · exact startReport_grows _ _ _ _ _ s

theorem settleGrant_grows (w : StartWindow) (b : Bool) (s : State) : ReportsGrow s (settleGrant w b s) := by
  unfold settleGrant
  split
  · exact .refl s
  · exact .refl s
  · exact .of_host (by simp)
  · exact .of_host rfl
  · split
    · exact queueRelease_grows _ _ s
    · exact .refl s

/-! ## A window's end beside no deferred hunt -/

theorem huntWindowClosed_of_not_deferred {s : State} (h : s.hunt.state ≠ .deferred) : huntWindowClosed s = s := if_neg h

/-- Outside DEFERRED a window's end reaches the admission unit, the down queue and the reports alone (R143, R165). -/
theorem endWindow_of_not_deferred {s : State} (h : s.hunt.state ≠ .deferred) (k : StartCause) :
    (endWindow k s).brk = s.brk ∧ (endWindow k s).seq = s.seq ∧ (endWindow k s).mon = s.mon ∧
    (endWindow k s).hunt = s.hunt ∧ ReportsGrow s (endWindow k s) := by
  unfold endWindow
  split
  · exact ⟨rfl, rfl, rfl, rfl, .refl s⟩
  · next w _ =>
    dsimp only
    rw [huntWindowClosed_of_not_deferred (by simp [h])]
    refine ⟨by simp, by simp, by simp, by simp, ?_⟩
    have hgrant (u : State) (hu : u.host = s.host) : ReportsGrow s (settleGrant w (callsForRelease k) u) :=
      .trans (.of_host hu) (settleGrant_grows w _ u)
    have hstart (u v : State) (hv : v.host = u.host) :
        ReportsGrow u (startReport w.drive .ended (some k) none (some (w.loaded, elapsed s.time w.opened)) v) :=
      .trans (.of_host hv) (startReport_grows _ _ _ _ _ v)
    exact .trans (hgrant _ (by simp)) (hstart _ _ rfl)

/-! ## The hunt controller at a trip -/

theorem finishHunt_state (r : LastResult) (l : List StepRecord) (n : HuntState) (s : State) :
    (finishHunt r l n s).hunt.state = n := by
  simp [finishHunt]

/-- A trip leaves no hunt running (R150). -/
theorem huntAbort_trip_state (s : State) :
    (huntAbort .trip s).hunt.state = .idle ∨ (huntAbort .trip s).hunt.state = .settling := by
  unfold huntAbort
  simp only [if_true]
  split
  · next h => exact .inl h
  · next h => exact .inr h
  · exact .inr (finishHunt_state _ _ _ _)
  all_goals exact .inr (finishHunt_state _ _ _ _)

/-- A report of the state that the record holds already changes nothing (R102). -/
theorem ownerReport_same {c : Cond} {a : Bool} {s : State} (h : (s.mon.recs.get c).active = a) :
    ownerReport c a s = s := if_pos h

theorem finishHunt_settling_of_active {s : State} (h : s.mon.recs.huntActive.active = true) (r : LastResult)
    (l : List StepRecord) : (finishHunt r l .settling s).seq = s.seq := by
  rw [finishHunt, ownerReport_same]
  · simp
  · have hmon : ∀ u : State, u.mon = s.mon → (u.mon.recs.get .huntActive).active = true := fun u hu => by
      rw [hu]
      exact h
    exact hmon _ (by simp)

/-- With HUNT_ACTIVE standing while a hunt is not IDLE, a trip's abort moves no condition, so nothing reaches the sequencer
(R140, R150). -/
theorem huntAbort_trip_seq {s : State} (h : s.mon.recs.huntActive.active = (s.hunt.state != .idle)) :
    (huntAbort .trip s).seq = s.seq := by
  unfold huntAbort
  simp only [if_true, reduceCtorEq, if_false, endHunt]
  split
  · rfl
  · rfl
  all_goals
    next hstate =>
      refine (finishHunt_settling_of_active ?_ _ _).trans ?_
      · simp [h, hstate]
      · simp

/-- The hand-on of the hunt bar finds no hunt to abort in IDLE and SETTLING (R150). -/
theorem huntBarArrival_of_ended {s : State} (h : s.hunt.state = .idle ∨ s.hunt.state = .settling) (b : State) :
    huntBarArrival b s = s := by
  unfold huntBarArrival
  split
  · rcases h with h | h <;> simp [huntAbort, h]
  · rfl

theorem setCondition_of_ended {s : State} (h : s.hunt.state = .idle ∨ s.hunt.state = .settling) (c : Cond) (a : Bool) :
    setCondition c a s = ownerReport c a s :=
  huntBarArrival_of_ended (by simpa using h) s

/-! ## The breaker interface at a trip -/

theorem withdrawClose_brk (s : State) :
    (withdrawClose s).brk.accepted = s.brk.accepted ∧
      ((withdrawClose s).seq = s.seq ∨
        s.seq.state = .closing ∧ (withdrawClose s).seq = { s.seq with closeWithdrawn := true }) := by
  unfold withdrawClose seqWithdrawn
  split
  · split
    · next hc => exact ⟨rfl, .inr ⟨hc, rfl⟩⟩
    · exact ⟨rfl, .inl rfl⟩
  · exact ⟨rfl, .inl rfl⟩

/-- A trip request keeps the position, and moves of the sequencer only the withdrawal note of CLOSING (R68, R73). -/
theorem tripRequest_keeps (o : TripOrigin) (s : State) :
    (tripRequest o s).brk.accepted = s.brk.accepted ∧
      ((tripRequest o s).seq = s.seq ∨
        s.seq.state = .closing ∧ (tripRequest o s).seq = { s.seq with closeWithdrawn := true }) := by
  unfold tripRequest
  split
  · exact withdrawClose_brk s
  · exact ⟨rfl, .inl rfl⟩

/-- TRIP_OUT is asserted after a trip request on a breaker that is not OPEN (R68). -/
theorem tripRequest_tripOut (o : TripOrigin) {s : State} (h : s.brk.accepted ≠ .opened) :
    (tripRequest o s).brk.tripOut = true := by
  unfold tripRequest
  split
  · rfl
  · next hj =>
    rw [tripJudgement, if_neg h] at hj
    by_contra hout
    exact hj (if_neg hout)

/-! ## The sequencer at a trip -/

/-- The sequencer record after a trip, by the record and the position that it finds (R79, R80, R95). -/
def afterTrip (trip : LastTrip) (pos : BreakerPos) (r : Sequencer) : Sequencer :=
  match r.state with
  | .ready | .closing | .reclaim =>
    if pos = .opened then enterLockout (tripCause trip.origin) { r with lastTrip := some trip }
    else enterOpening trip r
  | .opening => { r with lastTrip := some (mergeTrip r.lastTrip trip) }
  | .deadTime => enterLockout (tripCause trip.origin) { r with lastTrip := some trip }
  | .lockout =>
    { r with
      lastTrip := some trip
      cause := if r.posAwaited then some (tripCause trip.origin) else r.cause }

section
variable {r : Sequencer} (trip : LastTrip) (pos : BreakerPos)

theorem afterTrip_of_closed (h : r.state = .ready ∨ r.state = .closing ∨ r.state = .reclaim) :
    afterTrip trip pos r =
      if pos = .opened then enterLockout (tripCause trip.origin) { r with lastTrip := some trip }
      else enterOpening trip r := by
  rcases h with h | h | h <;> simp [afterTrip, h]

theorem afterTrip_of_opening (h : r.state = .opening) :
    afterTrip trip pos r = { r with lastTrip := some (mergeTrip r.lastTrip trip) } := by
  simp [afterTrip, h]

theorem afterTrip_of_deadTime (h : r.state = .deadTime) :
    afterTrip trip pos r = enterLockout (tripCause trip.origin) { r with lastTrip := some trip } := by
  simp [afterTrip, h]

theorem afterTrip_of_lockout (h : r.state = .lockout) :
    afterTrip trip pos r =
      { r with
        lastTrip := some trip
        cause := if r.posAwaited then some (tripCause trip.origin) else r.cause } := by
  simp [afterTrip, h]

end

/-- A trip that finds no open window ends in `afterTrip`, and reaches the sequencer and the reports alone. -/
theorem seqTrip_of_no_window {s : State} (h : s.adm.window = none) (trip : LastTrip) :
    (seqTrip trip s).seq = afterTrip trip s.brk.accepted s.seq ∧ OnlySequencerMoved s (seqTrip trip s) ∧
      ReportsGrow s (seqTrip trip s) := by
  have hmove (r e) : (seqMove r e none s).seq = r ∧ OnlySequencerMoved s (seqMove r e none s) ∧
      ReportsGrow s (seqMove r e none s) := by
    rw [seqMove_of_no_window h]
    exact ⟨seqTo_seq _ _ _ _, by simp, seqTo_grows _ _ _ s⟩
  have hset (r) : (s.setSeq r).seq = r ∧ OnlySequencerMoved s (s.setSeq r) ∧ ReportsGrow s (s.setSeq r) :=
    ⟨rfl, by simp, .of_host rfl⟩
  have hclosed (hs : s.seq.state = .ready ∨ s.seq.state = .closing ∨ s.seq.state = .reclaim) :
      (tripFromClosed trip s).seq = afterTrip trip s.brk.accepted s.seq ∧
        OnlySequencerMoved s (tripFromClosed trip s) ∧ ReportsGrow s (tripFromClosed trip s) := by
    rw [afterTrip_of_closed _ _ hs]
    unfold tripFromClosed
    split <;> exact hmove _ _
  unfold seqTrip
  split
  · next hs => exact hclosed (.inl hs)
  · next hs => exact hclosed (.inr (.inl hs))
  · next hs => exact hclosed (.inr (.inr hs))
  · next hs =>
    rw [afterTrip_of_opening _ _ hs]
    exact hset _
  · next hs =>
    rw [afterTrip_of_deadTime _ _ hs]
    exact hmove _ _
  · next hs =>
    rw [afterTrip_of_lockout _ _ hs]
    exact hset _

theorem afterTrip_state (trip : LastTrip) (pos : BreakerPos) (r : Sequencer) :
    (afterTrip trip pos r).state = .opening ∨ (afterTrip trip pos r).state = .lockout := by
  unfold afterTrip
  split
  · split <;> simp [enterLockout, enterOpening]
  · split <;> simp [enterLockout, enterOpening]
  · split <;> simp [enterLockout, enterOpening]
  · next h => exact .inl h
  · exact .inr rfl
  · next h => exact .inr h

/-- The withdrawal note of CLOSING goes with the state at a trip. -/
theorem afterTrip_withdrawn {r : Sequencer} (h : r.state = .closing) (trip : LastTrip) (pos : BreakerPos) :
    afterTrip trip pos { r with closeWithdrawn := true } = afterTrip trip pos r := by
  simp [afterTrip, h, enterLockout, enterOpening]

/-- `afterTrip` on a protection trip is `TripTaken` (R79, R80). -/
theorem afterTrip_taken {trip : LastTrip} (h : trip.origin = .protection) (s : State) :
    TripTaken trip s (afterTrip trip s.brk.accepted s.seq) := by
  have hcause : tripCause trip.origin = .unsequencedTrip := by rw [h]; rfl
  refine ⟨fun hs ha => ?_, fun hs => ?_, fun old hs hold => ?_, fun hs => ?_⟩
  · rw [afterTrip_of_closed _ _ hs, if_neg ha]
    rfl
  · rcases hs with ⟨hs, ha⟩ | hs
    · rw [afterTrip_of_closed _ _ hs, if_pos ha, hcause]
      rfl
    · rw [afterTrip_of_deadTime _ _ hs, hcause]
      rfl
  · simp [afterTrip_of_opening _ _ hs, hold, mergeTrip, h]
  · rw [afterTrip_of_lockout _ _ hs, hcause]

/-! ## A trip handed to its receivers -/

/-- The TRIP report of a trip issued in a state, with the shots done (R31). -/
def tripReport (t : Trip) (s : State) : Report := .trip { trip := t, shots := s.seq.shots }

/-- The state in which the sequencer takes a trip: reported, requested, and with the hunt and the window ended (R32). -/
def beforeSequencer (t : Trip) (s : State) : State :=
  endWindow .tripped (huntAbort .trip (tripRequest .protection (addReport (tripReport t s) s)))

theorem handTrip_eq (t : Trip) (s : State) : handTrip t s = seqTrip (protectionRecord t) (beforeSequencer t s) := rfl

theorem huntAbort_trip_not_deferred (s : State) : (huntAbort .trip s).hunt.state ≠ .deferred := by
  rcases huntAbort_trip_state s with h | h <;> simp [h]

section
variable (t : Trip) (s : State)

theorem beforeSequencer_of_abort {u : State}
    (h : huntAbort .trip (tripRequest .protection (addReport (tripReport t s) s)) = u) :
    (beforeSequencer t s).brk = u.brk ∧ (beforeSequencer t s).seq = u.seq ∧ (beforeSequencer t s).hunt = u.hunt ∧
      ReportsGrow u (beforeSequencer t s) := by
  subst h
  obtain ⟨hbrk, hseq, -, hhunt, hgrow⟩ := endWindow_of_not_deferred (huntAbort_trip_not_deferred _) .tripped
  exact ⟨hbrk, hseq, hhunt, hgrow⟩

theorem beforeSequencer_window : (beforeSequencer t s).adm.window = none := endWindow_window _ _

theorem beforeSequencer_hunt :
    (beforeSequencer t s).hunt.state = .idle ∨ (beforeSequencer t s).hunt.state = .settling := by
  obtain ⟨-, -, hhunt, -⟩ := beforeSequencer_of_abort t s rfl
  rw [hhunt]
  exact huntAbort_trip_state _

theorem beforeSequencer_tripSide :
    (beforeSequencer t s).brk.tripSide = (tripRequest .protection (addReport (tripReport t s) s)).brk.tripSide := by
  simp [beforeSequencer]

theorem beforeSequencer_accepted : (beforeSequencer t s).brk.accepted = s.brk.accepted := by
  obtain ⟨hacc, -⟩ := (Breaker.tripSide_eq_iff _ _).1 (beforeSequencer_tripSide t s)
  obtain ⟨hreq, -⟩ := tripRequest_keeps .protection (addReport (tripReport t s) s)
  simp [hacc, hreq]

theorem beforeSequencer_tripOut (h : s.brk.accepted ≠ .opened) : (beforeSequencer t s).brk.tripOut = true := by
  obtain ⟨-, hout, -⟩ := (Breaker.tripSide_eq_iff _ _).1 (beforeSequencer_tripSide t s)
  rw [hout]
  exact tripRequest_tripOut _ (by simpa using h)

theorem beforeSequencer_grows : ReportsGrow (addReport (tripReport t s) s) (beforeSequencer t s) := by
  obtain ⟨-, -, -, hgrow⟩ := beforeSequencer_of_abort t s rfl
  exact .trans (.of_host (by simp)) (.trans (huntAbort_grows _ _) hgrow)

/-- With HUNT_ACTIVE standing while a hunt is not IDLE, the sequencer takes the trip in its own record, but for the
withdrawal of a close that waits for its command (R68, R73, R140). -/
theorem beforeSequencer_seq {s : State} (h : s.mon.recs.huntActive.active = (s.hunt.state != .idle)) (t : Trip) :
    (beforeSequencer t s).seq = s.seq ∨
      s.seq.state = .closing ∧ (beforeSequencer t s).seq = { s.seq with closeWithdrawn := true } := by
  obtain ⟨-, hseq, -⟩ := beforeSequencer_of_abort t s rfl
  obtain ⟨-, hreq⟩ := tripRequest_keeps .protection (addReport (tripReport t s) s)
  have habort := huntAbort_trip_seq (s := tripRequest .protection (addReport (tripReport t s) s)) (by simpa using h)
  simpa [hseq, habort] using hreq

/-- What a trip leaves when it has reached its receivers (R32, R68, R150, R165). -/
theorem handTrip_receivers :
    (handTrip t s).brk.accepted = s.brk.accepted ∧
    (s.brk.accepted ≠ .opened → (handTrip t s).brk.tripOut = true) ∧
    (handTrip t s).adm.window = none ∧
    ((handTrip t s).hunt.state = .idle ∨ (handTrip t s).hunt.state = .settling) ∧
    ReportsGrow (addReport (tripReport t s) s) (handTrip t s) := by
  obtain ⟨-, ⟨hbrk, -, hhunt, hadm, -⟩, hgrow⟩ :=
    seqTrip_of_no_window (beforeSequencer_window t s) (protectionRecord t)
  rw [handTrip_eq, hbrk, hhunt, hadm]
  exact ⟨beforeSequencer_accepted t s, beforeSequencer_tripOut t s, beforeSequencer_window t s,
    beforeSequencer_hunt t s, .trans (beforeSequencer_grows t s) hgrow⟩

theorem handTrip_settled : (handTrip t s).seq.state = .opening ∨ (handTrip t s).seq.state = .lockout := by
  obtain ⟨hseq, -⟩ := seqTrip_of_no_window (beforeSequencer_window t s) (protectionRecord t)
  rw [handTrip_eq, hseq]
  exact afterTrip_state _ _ _

theorem handTrip_seq {s : State} (h : s.mon.recs.huntActive.active = (s.hunt.state != .idle)) (t : Trip) :
    (handTrip t s).seq = afterTrip (protectionRecord t) s.brk.accepted s.seq := by
  obtain ⟨hseq, -⟩ := seqTrip_of_no_window (beforeSequencer_window t s) (protectionRecord t)
  rw [handTrip_eq, hseq, beforeSequencer_accepted]
  rcases beforeSequencer_seq h t with hsame | ⟨hclosing, hwithdrawn⟩
  · rw [hsame]
  · rw [hwithdrawn, afterTrip_withdrawn hclosing]

end

/-! ## A point at which a trip element operates -/

/-- With no SEF count, and no hunt left to abort, stage 6 clears the flag and reports the condition (R27). -/
theorem sefStage_of_zero {s : State} (hsef : s.prot.sef = 0) (h : s.hunt.state = .idle ∨ s.hunt.state = .settling) :
    sefStage s = ownerReport .earthFaultStanding false (s.setProt { s.prot with sefOperated := false }) := by
  refine Eq.trans ?_ (setCondition_of_ended (by exact h) _ _)
  simp [sefStage, hsef]

/-- What stage 6 leaves as it is behind a trip. -/
theorem sefStage_after_trip {s : State} (hsef : s.prot.sef = 0)
    (hhunt : s.hunt.state = .idle ∨ s.hunt.state = .settling)
    (hseq : s.seq.state = .opening ∨ s.seq.state = .lockout) :
    (sefStage s).brk.tripSide = s.brk.tripSide ∧ (sefStage s).adm.window = s.adm.window ∧
      (sefStage s).hunt.state = s.hunt.state ∧ (sefStage s).mon.recs.earthFaultStanding.active = false ∧
      (sefStage s).seq = s.seq ∧ ReportsGrow s (sefStage s) := by
  have hsettled : (sefStage s).seq = s.seq := by rcases hseq with h | h <;> simp [h]
  refine ⟨?_, ?_, ?_, ?_, hsettled, ?_⟩
  all_goals rw [sefStage_of_zero hsef hhunt]
  · simp
  · simp
  · simp
  · exact ownerReport_active .earthFaultStanding false _
  · exact .trans (.of_host (by rfl)) (ownerReport_grows _ _ _)

/-- The state that a trip is handed on from: the values at 0, and suspension set unless the breaker is OPEN (R33, R34). -/
def zeroedAtTrip (s : State) : State :=
  s.setProt { zeroValues s.prot with suspended := s.brk.accepted != .opened }

theorem issueTrip_eq (t : Trip) (s : State) : issueTrip t s = handTrip t (zeroedAtTrip s) := rfl

theorem placeReport_setProt (r : Report) (p : Protection) (s : State) :
    placeReport r (s.setProt p) = (placeReport r s).setProt p := by
  rw [placeReport, placeReport, apply_ite (fun u : State => u.setProt p)]
  rfl

theorem addReport_setProt (r : Report) (p : Protection) (s : State) :
    addReport r (s.setProt p) = (addReport r s).setProt p := by
  rw [addReport, placeReport_setProt]
  exact (apply_ite (fun u : State => u.setProt p) _ _ _).symm

/-- What a trip and the stage 6 behind it leave (R17, R31 to R33). -/
theorem issuedPoint_receivers (t : Trip) (s : State) :
    (sefStage (issueTrip t s)).brk.accepted = s.brk.accepted ∧
    (s.brk.accepted ≠ .opened → (sefStage (issueTrip t s)).brk.tripOut = true) ∧
    (sefStage (issueTrip t s)).adm.window = none ∧
    ((sefStage (issueTrip t s)).hunt.state = .idle ∨ (sefStage (issueTrip t s)).hunt.state = .settling) ∧
    (sefStage (issueTrip t s)).mon.recs.earthFaultStanding.active = false ∧
    (addReport (tripReport t s) s).host.reports <+: (sefStage (issueTrip t s)).host.reports ∧
    (s.mon.recs.huntActive.active = (s.hunt.state != .idle) →
      (sefStage (issueTrip t s)).seq = afterTrip (protectionRecord t) s.brk.accepted s.seq) := by
  obtain ⟨hacc, hout, hwindow, hhunt, hgrow⟩ := handTrip_receivers t (zeroedAtTrip s)
  have hseq := handTrip_seq (s := zeroedAtTrip s) (t := t)
  have hsef : (handTrip t (zeroedAtTrip s)).prot.sef = 0 := by
    rw [← issueTrip_eq, issueTrip_prot]
    rfl
  obtain ⟨hside, hwindow', hhunt', hearth, hseq', hgrow'⟩ := sefStage_after_trip hsef hhunt (handTrip_settled t _)
  obtain ⟨hacc', hout', -⟩ := (Breaker.tripSide_eq_iff _ _).1 hside
  have hreport := hgrow.trans hgrow'
  rw [ReportsGrow, zeroedAtTrip, addReport_setProt] at hreport
  exact ⟨hacc'.trans hacc, fun h => hout'.trans (hout h), hwindow'.trans hwindow, hhunt'.symm ▸ hhunt, hearth, hreport,
    fun h => hseq'.trans (hseq h)⟩

/-- A point at which a trip element operates is its trip with stage 6 behind it (R17, R31). -/
theorem protPoint_eq_of_entry {q : Multiples} {b : Bool} {s : State}
    (h : tripEntries s.settings q (stepValues s.regime.inForce q s.prot) ≠ []) :
    protPoint q b s =
      sefStage
        (issueTrip (tripOf (tripEntries s.settings q (stepValues s.regime.inForce q s.prot)) b s)
          (s.setProt (stepValues s.regime.inForce q s.prot))) :=
  congrArg sefStage (if_neg (by simpa using h))

/-! ## The elements in suspension -/

/-- Suspension holds every trip element at 0, so that none operates (R34). -/
theorem stepValues_of_suspended (f : InForce) (q : Multiples) {p : Protection} (h : p.suspended = true) :
    tripEntries f.settings q (stepValues f q p) = [] ∧
    (stepValues f q p).phTime = ⟨0, 0, 0⟩ ∧ (stepValues f q p).efTime = 0 ∧
    (stepValues f q p).phHigh = ⟨0, 0, 0⟩ ∧ (stepValues f q p).efHigh = 0 ∧
    (f.settings.sef.mode = .trip → (stepValues f q p).sef = 0) ∧ (stepValues f q p).suspended = true := by
  refine ⟨?_, ?_, ?_, ?_, ?_, fun hmode => ?_, ?_⟩
  · simp [stepValues, h, tripEntries]
  · simp [stepValues, h, Three.zip]
  · simp [stepValues, h]
  · simp [stepValues, h, Three.zip]
  · simp [stepValues, h]
  · simp [stepValues, h, sefTrips, hmode]
  · simp [stepValues, h]

/-- Settles O12, by the stages of the trip's way to its receivers: the request, the hunt's abort, the window's end and
the sequencer, with stage 6 behind them. -/
theorem tripZeroesAndSuspends : Obligations.TripZeroesAndSuspends := by
  refine ⟨fun q started s h => ?_, fun f q p h => stepValues_of_suspended f q h⟩
  obtain ⟨hacc, hout, hwindow, hhunt, hearth, hreports, hseq⟩ :=
    issuedPoint_receivers (tripOf (tripEntries s.settings q (stepValues s.regime.inForce q s.prot)) started s)
      (s.setProt (stepValues s.regime.inForce q s.prot))
  rw [← protPoint_eq_of_entry h] at hacc hout hwindow hhunt hearth hreports hseq
  refine ⟨protPoint_prot_of_entry h, hout, hacc, hwindow, hhunt, hearth, ?_, ?_, ?_, ?_⟩
  · rintro trip more rfl rfl
    refine ⟨?_, fun hactive => ?_⟩
    · rw [addReport_setProt] at hreports
      exact hreports
    · rw [hseq hactive]
      exact afterTrip_taken rfl s
  · simp [SameClock]
  · simp [SameSettings]
  · simp [SameLine]

end Sys2Proof.Machine

/-! PROOFS. The restart state of each block (R64, R101, R113, R139, R154, R167, R178), and the order of the rebuilt station and
drive records. -/

namespace Sys2Proof.Machine

/-! ## Entries in the order of a number -/

/-- For each number below `k` the first entry that has it: the common form of `inAddressOrder` and `inDriveOrder`. -/
def firstByKey {α : Type} (key : α → Nat) (k : Nat) (l : List α) : List α :=
  (List.range k).filterMap fun n => l.find? fun e => key e == n

theorem inAddressOrder_eq (l : List StationEntry) : inAddressOrder l = firstByKey StationEntry.address 16 l := rfl

theorem inDriveOrder_eq (l : List DriveEntry) : inDriveOrder l = firstByKey DriveEntry.drive 8 l := rfl

section
variable {α : Type} {key : α → Nat} {k : Nat} {l : List α} {e : α}

theorem mem_of_mem_firstByKey (h : e ∈ firstByKey key k l) : e ∈ l := by
  obtain ⟨n, -, hfind⟩ := List.mem_filterMap.1 h
  exact List.mem_of_find?_eq_some hfind

theorem exists_mem_firstByKey (h : e ∈ l) (hk : key e < k) : ∃ e' ∈ firstByKey key k l, key e' = key e := by
  have hsome : (l.find? fun x => key x == key e).isSome := List.find?_isSome.2 ⟨e, h, beq_self_eq_true _⟩
  obtain ⟨e', hfind⟩ := Option.isSome_iff_exists.1 hsome
  exact ⟨e', List.mem_filterMap.2 ⟨key e, List.mem_range.2 hk, hfind⟩, by simpa using List.find?_some hfind⟩

theorem firstByKey_sorted : ((firstByKey key k l).map key).Pairwise (· < ·) := by
  rw [List.pairwise_map, firstByKey, List.pairwise_filterMap]
  refine List.pairwise_lt_range.imp fun {a b} hab x hx y hy => ?_
  have hxa : key x = a := by simpa using List.find?_some hx
  have hyb : key y = b := by simpa using List.find?_some hy
  omega

/-- Records built one for each entry of `firstByKey`: each from a listed entry, one for each key below the bound, and in the
order of the keys. -/
theorem records_of_firstByKey {β : Type} {build : α → β} {keyOf : β → Nat} {records : List β}
    (hkey : ∀ e, keyOf (build e) = key e) (h : records = (firstByKey key k l).map build) :
    (∀ b ∈ records, ∃ e ∈ l, b = build e) ∧ (∀ e ∈ l, key e < k → ∃ b ∈ records, keyOf b = key e) ∧
      (records.map keyOf).Pairwise (· < ·) := by
  subst h
  refine ⟨fun b hb => ?_, fun e he hk => ?_, ?_⟩
  · obtain ⟨e, he, rfl⟩ := List.mem_map.1 hb
    exact ⟨e, mem_of_mem_firstByKey he, rfl⟩
  · obtain ⟨e', he', hsame⟩ := exists_mem_firstByKey he hk
    exact ⟨build e', List.mem_map_of_mem he', (hkey e').trans hsame⟩
  · have hkeys : keyOf ∘ build = key := funext hkey
    rw [List.map_map, hkeys]
    exact firstByKey_sorted

end

/-! ## The blocks after a restart -/

section
variable (cause : RestartCause) (rate : Nat) (t : ImageTable Image) (ix : Nat) (pending : List Instr) (low : Bool)

theorem restarted_regime : RegimeRestarted ((restarted cause rate t ix pending).setResetLow low) := by
  refine ⟨rfl, rfl, rfl, rfl, rfl, rfl, ⟨rfl, ?_⟩, rfl, ⟨fun h => ?_, fun h _ => ?_⟩, rfl, rfl⟩
  · exact (if_neg (by simp [restarted, regimeAtRestart])).symm
  · exact congrArg InForce.settings (if_pos h)
  · exact congrArg InForce.settings (if_neg h)

theorem restarted_record (c : Cond) :
    ((restarted cause rate t ix pending).setResetLow low).mon.recs.get c =
      recordAtRestart t (regimeAtRestart t) c := CondTable.get_build _ c

theorem recordAtRestart_latched (r : Regime) (c : Cond) :
    (recordAtRestart t r c).latched = true ↔
      (recordAtRestart t r c).active = true ∧ (recordAtRestart t r c).mode = .sticky := by
  simp [recordAtRestart, CondRec.setActive, and_comm]

theorem restarted_monitor : MonitorRestarted ((restarted cause rate t ix pending).setResetLow low) := by
  refine ⟨rfl, rfl, rfl, rfl, rfl, fun c hc => ?_, fun c => ?_⟩
  · rw [restarted_record]
    fin_cases hc <;> rfl
  · rw [restarted_record]
    exact ⟨rfl, rfl, recordAtRestart_latched t _ c⟩

theorem pilotAtRestart_stations (h : usable t.stations = true) :
    (pilotAtRestart t).stations =
      (firstByKey StationEntry.address 16 (parseStations t.stations.working)).map newStation := by
  simp [pilotAtRestart, stationsOf, h, inAddressOrder_eq]

theorem pilotAtRestart_no_stations (h : usable t.stations = false) : (pilotAtRestart t).stations = [] := by
  simp [pilotAtRestart, stationsOf, h, inAddressOrder]

theorem restarted_pilot : PilotRestarted ((restarted cause rate t ix pending).setResetLow low) := by
  refine ⟨⟨rfl, rfl, rfl, rfl⟩, rfl, rfl, rfl, ⟨rfl, rfl, rfl⟩, rfl, rfl, fun h => ?_, fun h => ?_⟩
  · have habsent : usable t.stations = false := by simp [usable, show t.stations.present = false from h]
    exact pilotAtRestart_no_stations t habsent
  · obtain ⟨hfrom, hall, hsorted⟩ := records_of_firstByKey (keyOf := Station.address) (fun _ => rfl)
      (pilotAtRestart_stations t h)
    exact ⟨hfrom, fun e he hle => hall e he (Nat.lt_succ_of_le hle), hsorted⟩

theorem admissionAtRestart_drives (h : usable t.drives = true) :
    (admissionAtRestart t).drives = (firstByKey DriveEntry.drive 8 (parseDrives t.drives.working)).map newDrive := by
  simp [admissionAtRestart, h, inDriveOrder_eq]

theorem admissionAtRestart_no_drives (h : usable t.drives = false) : (admissionAtRestart t).drives = [] := by
  simp [admissionAtRestart, h]

theorem restarted_admission : AdmissionRestarted ((restarted cause rate t ix pending).setResetLow low) := by
  refine ⟨rfl, rfl, rfl, rfl, rfl, rfl, admissionAtRestart_no_drives t, fun h => ?_⟩
  obtain ⟨hfrom, hall, hsorted⟩ := records_of_firstByKey (keyOf := Drive.drive) (fun _ => rfl)
    (admissionAtRestart_drives t h)
  exact ⟨hfrom, fun e he hle => hall e he (Nat.lt_succ_of_le hle), hsorted⟩

theorem restarted_hunt : HuntRestarted ((restarted cause rate t ix pending).setResetLow low) :=
  ⟨rfl, rfl, rfl, rfl, rfl, rfl, rfl, rfl, rfl, rfl, rfl, rfl⟩

theorem restarted_line : LineRestarted cause rate ((restarted cause rate t ix pending).setResetLow low) :=
  ⟨⟨rfl, rfl, rfl, rfl, rfl, rfl, rfl, rfl, rfl, rfl, rfl⟩, rfl⟩

theorem restarted_alarmOut :
    (low = true → alarmOut ((restarted cause rate t ix pending).setResetLow low) = false) ∧
    (low = false → alarmOut ((restarted cause rate t ix pending).setResetLow low) =
      ((restarted cause rate t ix pending).setResetLow low).mon.alarm) := by
  constructor <;> rintro rfl <;> simp [alarmOut]

/-- The restart state of every block, for any images loaded (R178). -/
theorem restarted_restartedWith (s : State) :
    RestartedWith cause rate low s ((restarted cause rate t ix s.pending).setResetLow low) :=
  ⟨rfl, rfl, rfl, rfl, ⟨rfl, rfl, rfl⟩, restarted_regime _ _ _ _ _ _, rfl,
    ⟨rfl, rfl, rfl, rfl, rfl, rfl, rfl, rfl, rfl, rfl, rfl⟩, restarted_monitor _ _ _ _ _ _,
    restarted_pilot _ _ _ _ _ _, restarted_hunt _ _ _ _ _ _, restarted_admission _ _ _ _ _ _,
    restarted_line _ _ _ _ _ _, ⟨rfl, restarted_alarmOut _ _ _ _ _ _⟩, rfl⟩

end

/-! ## The restart by command -/

theorem commandRestartDue_iff (s : State) :
    commandRestartDue s = true ↔
      s.host.restart = .fullSent ∧ s.due.restart = true ∧ s.brk.tripOut = false ∧ s.brk.closeOut = false := by
  simp [commandRestartDue, and_assoc]

theorem execFullRestartByCommand_of_due {s : State} (h : commandRestartDue s = true) (b1 b0 : Bool) :
    exec (.fullRestartByCommand b1 b0) s = .next (fullRestart .command b1 b0 s) :=
  congrArg Host.Outcome.next (if_pos h)

theorem execFullRestartByCommand_of_not_due {s : State} (h : ¬ commandRestartDue s = true) (b1 b0 : Bool) :
    exec (.fullRestartByCommand b1 b0) s = .next s :=
  congrArg Host.Outcome.next (if_neg h)

/-- Settles O3, by the restart state of each block, for a restart by power or pin and one by command alike. -/
theorem fullRestartLeavesRestartState : Obligations.FullRestartLeavesRestartState := by
  refine ⟨fun cause b1 b0 s => ⟨?_, fun hsent hdue htrip hclose => ?_⟩, fun b1 b0 s hout => ?_⟩
  · exact ⟨_, rfl, restarted_restartedWith _ _ _ _ _ s⟩
  · have hdue := (commandRestartDue_iff s).2 ⟨hsent, hdue, htrip, hclose⟩
    exact ⟨_, execFullRestartByCommand_of_due hdue b1 b0, restarted_restartedWith .command _ _ _ false s⟩
  · refine execFullRestartByCommand_of_not_due (fun hdue => ?_) b1 b0
    obtain ⟨-, -, htrip, hclose⟩ := (commandRestartDue_iff s).1 hdue
    simp [htrip, hclose] at hout

end Sys2Proof.Machine

/-! PROOFS. What the regime unit reads of the settings images, the candidate that it makes of them (R58, R61), and the
group work of a point (R62): the facts on which the invariants of the regime unit rest. -/

namespace Sys2Proof.Machine

/-! ## The images that the regime unit reads -/

theorem ImageId.kind_of_ofKindIndex {k n : Nat} {i : ImageId} (h : ImageId.ofKindIndex k n = some i) :
    i.kind = k ∧ i.index = n := by
  simpa [ImageId.ofKindIndex] using List.find?_some h

/-- PLANT, a curve or a group: an image from which the regime unit takes the candidate (R58). -/
def ImageId.ofRegime (i : ImageId) : Prop := i ≠ .stations ∧ i ≠ .hunt ∧ i ≠ .drives

theorem ImageId.ofRegime_of_kind {i : ImageId} (h : i.kind = 1 ∨ i.kind = 3 ∨ i.kind = 4) : i.ofRegime := by
  refine ⟨?_, ?_, ?_⟩ <;> rintro rfl <;> simp [ImageId.kind] at h

/-- Two images serve alike: both may be used or neither, and their working copies read the same. -/
def Image.Alike (x y : Image) : Prop := x.present = y.present ∧ x.valid = y.valid ∧ x.working = y.working

theorem Image.Alike.refl (x : Image) : x.Alike x := ⟨rfl, rfl, rfl⟩

theorem Image.Alike.usable {x y : Image} (h : x.Alike y) : usable x = usable y := by
  obtain ⟨hpresent, hvalid, -⟩ := h
  simp [Machine.usable, hpresent, hvalid]

/-- The images of the regime unit serve alike in two tables. -/
def RegimeReadsAlike (t t' : ImageTable Image) : Prop := ∀ i : ImageId, i.ofRegime → (t'.get i).Alike (t.get i)

section Reads

variable {t t' : ImageTable Image} (h : RegimeReadsAlike t t')
include h

theorem plantOf_alike : plantOf t' = plantOf t := by
  have hp := h .plant (ImageId.ofRegime_of_kind (.inl rfl))
  obtain ⟨-, -, hworking⟩ := id hp
  change (if usable (t'.get .plant) = true then parsePlant (t'.get .plant).working else plantDefaults) = _
  rw [hp.usable, hworking]
  rfl

theorem groupImage_alike (g : Nat) : (groupImage t' g).Alike (groupImage t g) := by
  unfold groupImage
  split
  · next i hi => exact h i (ImageId.ofRegime_of_kind (.inr (.inr (ImageId.kind_of_ofKindIndex hi).1)))
  · exact .refl _

theorem curveImage_alike (k : Nat) : (curveImage t' k).Alike (curveImage t k) := by
  unfold curveImage
  split
  · next i hi => exact h i (ImageId.ofRegime_of_kind (.inr (.inl (ImageId.kind_of_ofKindIndex hi).1)))
  · exact .refl _

theorem unfitness_alike (e g : Nat) : unfitness t' e g = unfitness t e g := by
  obtain ⟨hpresent, hvalid, hworking⟩ := groupImage_alike h g
  simp only [unfitness, hpresent, hvalid, hworking, (curveImage_alike h _).usable]

theorem candidateFor_alike (e g : Nat) : candidateFor t' e g = candidateFor t e g := by
  simp only [candidateFor, unfitness_alike h]

end Reads

/-- An image that serves as it did, or that the regime unit does not read, leaves its reading alone. -/
theorem regimeReadsAlike_set {t : ImageTable Image} {i : ImageId} {v : Image}
    (hv : i.ofRegime → v.Alike (t.get i)) : RegimeReadsAlike t (t.set i v) := by
  intro j hj
  rw [ImageTable.get_set]
  split
  · next e => exact e ▸ hv (e ▸ hj)
  · exact .refl _

/-- The image of a group, in a table with one image replaced (R47). -/
theorem groupImage_set_of_ne {t : ImageTable Image} {i : ImageId} {g : Nat} (h : ImageId.ofGroup g ≠ some i)
    (v : Image) : groupImage (t.set i v) g = groupImage t g := by
  unfold groupImage
  split
  · next j hj =>
    rw [ImageTable.get_set, if_neg]
    rintro rfl
    exact h hj
  · rfl

/-! ## The candidate (R58, R61) -/

/-- A stored group that becomes the candidate has passed every test of fitness (R58). -/
theorem candidateFor_fit (t : ImageTable Image) (e g : Nat) :
    (candidateFor t e g).1 = groupSIndex ∨ unfitness t e (candidateFor t e g).1 = none := by
  unfold candidateFor
  split
  · exact .inl rfl
  · split
    · next hfit => exact .inr hfit
    · exact .inl rfl

theorem rank_of_fit {t : ImageTable Image} {e g : Nat} (h : unfitness t e g = none) :
    e ≤ (parseGroup (groupImage t g).working).rank := by
  unfold unfitness at h
  dsimp only at h
  split_ifs at h with hp hv hc hr
  exact Nat.not_lt.mp hr

theorem inForceOf_settings (t : ImageTable Image) (g : Nat) :
    (inForceOf t g).settings = if g = groupSIndex then groupS else parseGroup (groupImage t g).working := by
  unfold inForceOf
  split <;> rfl

/-- The candidate's rank covers the effective level (R58, R62). -/
theorem rank_of_candidate {t : ImageTable Image} {e : Nat} (he : e ≤ 5) (g : Nat) :
    e ≤ (inForceOf t (candidateFor t e g).1).settings.rank := by
  rw [inForceOf_settings]
  split
  · exact he
  · next hs => exact rank_of_fit ((candidateFor_fit t e g).resolve_left hs)

theorem pendingFor_eq_some {r : Regime} {c g : Nat} (h : pendingFor r c = some g) : g = c := by
  unfold pendingFor at h
  split at h
  · exact (Option.some.inj h).symm
  · next hc =>
    split at h
    · exact (Option.some.inj h).symm.trans (not_not.mp hc).symm
    · cases h

theorem pendingFor_eq_none {r : Regime} {c : Nat} (h : pendingFor r c = none) :
    c = r.active ∧ r.refreshGroup = false := by
  unfold pendingFor at h
  split at h
  · cases h
  · next hc =>
    split at h
    · cases h
    · next hmark => exact ⟨not_not.mp hc, by simp_all⟩

/-- Whatever the settings were, the candidate recomputed is theirs (R58, R61). -/
theorem recompute_current (s : State) : CandidateCurrent (recompute s) := ⟨rfl, rfl⟩

/-- The candidate is read from the images of the regime unit and from the regime unit itself, of its fire level from the
effective level alone. -/
theorem CandidateCurrent.congr {s t : State} (h : CandidateCurrent s)
    (himages : RegimeReadsAlike s.store.images t.store.images)
    (hregime : t.regime = { s.regime with fire := t.regime.fire })
    (heffective : t.regime.fire.effective = s.regime.fire.effective) : CandidateCurrent t := by
  obtain ⟨hcandidate, hpending⟩ := h
  have hchoice : chooseCandidate t = chooseCandidate s := by
    simp only [chooseCandidate, State.plant, plantOf_alike himages, candidateFor_alike himages, heffective]
    rw [hregime]
  unfold CandidateCurrent
  rw [hchoice, ← hcandidate, hregime]
  exact ⟨rfl, hpending⟩

/-! ## The group work of a point (R62) -/

theorem cancelOverride_regime (s : State) :
    (cancelOverride s).regime = { s.regime with override := (cancelOverride s).regime.override } := by
  unfold cancelOverride
  split
  · rfl
  · dsimp only
    split <;> simp

theorem takeIntoForce_regime (g : Nat) (s : State) : (takeIntoForce g s).regime = takenRegime g s := by
  unfold takeIntoForce
  dsimp only
  split <;> simp

/-- Stages 1 to 3 leave the group in force, and every field of the fire level but the effective one (R62). -/
theorem regimeStages_regime (s : State) :
    (regimeStages s).regime =
      { s.regime with
        fire := { s.regime.fire with effective := effectiveLevel s.plant.season s.regime.fire }
        override := (regimeStages s).regime.override
        candidate := (regimeStages s).regime.candidate
        fallback := (regimeStages s).regime.fallback
        pending := (regimeStages s).regime.pending } := by
  simp only [regimeStages, recompute, State.setRegime_regime]
  rw [cancelOverride_regime]
  simp

theorem regimeStages_current (s : State) : CandidateCurrent (regimeStages s) := recompute_current _

theorem groupWork_regime_of_pending {s : State} {g : Nat} (h : (regimeStages s).regime.pending = some g) :
    (groupWork s).regime = takenRegime g (regimeStages s) := by
  simp only [groupWork, h, takeIntoForce_regime]

theorem groupWork_of_none {s : State} (h : (regimeStages s).regime.pending = none) : groupWork s = regimeStages s := by
  simp only [groupWork, h]

/-- The group work recomputes the effective level and leaves the stored one (R57, R62). -/
theorem groupWork_fire (s : State) :
    (groupWork s).regime.fire =
      { s.regime.fire with effective := effectiveLevel s.plant.season s.regime.fire } := by
  cases h : (regimeStages s).regime.pending with
  | none => rw [groupWork_of_none h, regimeStages_regime]
  | some g =>
    rw [groupWork_regime_of_pending h, takenRegime]
    simp only
    rw [regimeStages_regime]

theorem evaluationPoint_regime (s : State) : (evaluationPoint s).regime = (groupWork s).regime := by
  simp [evaluationPoint_eq]

end Sys2Proof.Machine

/-! PROOFS. The invariants of the regime unit (R58, R61, R62), kept by the group work of a point and brought about by a
restart. -/

namespace Sys2Proof.Machine

/-! ## Points and restarts -/

theorem effectiveLevel_le (season : Bool) {f : FireLevel} (h : ∀ l ∈ f.level, l ≤ 5) :
    effectiveLevel season f ≤ 5 := by
  unfold effectiveLevel
  split
  · split
    · exact le_refl 5
    · next l hl =>
      split
      · exact le_refl 5
      · exact h l hl
  · exact Nat.zero_le 5

/-- A group in force that waits for no refresh stands in force as the images read (R47, R62). -/
theorem inForceCurrent_iff (s : State) :
    InForceCurrent s ↔ (s.regime.active = groupSIndex ∨ s.regime.refreshGroup = false →
      s.settings = (inForceOf s.store.images s.regime.active).settings) := by
  rw [inForceOf_settings]
  by_cases h : s.regime.active = groupSIndex <;> simp [InForceCurrent, h]

theorem regimeStages_candidate (s : State) :
    ∃ g, (regimeStages s).regime.candidate =
      (candidateFor s.store.images (effectiveLevel s.plant.season s.regime.fire) g).1 := by
  obtain ⟨hcandidate, -⟩ := regimeStages_current s
  have hlevel : (regimeStages s).regime.fire.effective = effectiveLevel s.plant.season s.regime.fire := by
    rw [regimeStages_regime]
  have hchoice := congrArg Prod.fst hcandidate
  simp only [chooseCandidate, regimeStages_frame, hlevel] at hchoice
  exact ⟨_, hchoice⟩

/-- After the group work the candidate of the point is the active group (R62). -/
theorem groupWork_active (s : State) : (groupWork s).regime.active = (regimeStages s).regime.candidate := by
  obtain ⟨-, hpending⟩ := regimeStages_current s
  cases hp : (regimeStages s).regime.pending with
  | none =>
    rw [groupWork_of_none hp]
    exact (pendingFor_eq_none (hpending.symm.trans hp)).1.symm
  | some g =>
    rw [groupWork_regime_of_pending hp]
    exact pendingFor_eq_some (hpending.symm.trans hp)

/-- After the group work the active group stands in force as the images read: it has been taken now, or waited for no
refresh (R47, R62). -/
theorem groupWork_settings {s : State} (h : InForceCurrent s) :
    (groupWork s).settings = (inForceOf s.store.images (groupWork s).regime.active).settings := by
  obtain ⟨-, hpending⟩ := regimeStages_current s
  cases hp : (regimeStages s).regime.pending with
  | none =>
    have hmark := (pendingFor_eq_none (hpending.symm.trans hp)).2
    rw [groupWork_of_none hp, State.settings]
    rw [regimeStages_regime] at hmark ⊢
    exact (inForceCurrent_iff s).mp h (.inr hmark)
  | some g =>
    rw [State.settings, groupWork_regime_of_pending hp]
    simp only [takenRegime, regimeStages_frame]

theorem groupWork_rankCovers {s : State} (h : RankCovers s) : RankCovers (groupWork s) := by
  obtain ⟨hcurrent, hlevel, -, -⟩ := h
  have hle := effectiveLevel_le s.plant.season hlevel
  have hsettings := groupWork_settings hcurrent
  obtain ⟨g, hcandidate⟩ := regimeStages_candidate s
  refine ⟨(inForceCurrent_iff _).mpr fun _ => by simpa using hsettings, ?_⟩
  rw [groupWork_fire, hsettings, groupWork_active, hcandidate]
  exact ⟨hlevel, hle, rank_of_candidate hle g⟩

/-- The candidate taken into force is pending no longer, and none other is (R61, R62). -/
theorem groupWork_current (s : State) : CandidateCurrent (groupWork s) := by
  have hstages := regimeStages_current s
  cases hp : (regimeStages s).regime.pending with
  | none => rw [groupWork_of_none hp]; exact hstages
  | some g =>
    obtain ⟨hcandidate, hpending⟩ := hstages
    have hg := pendingFor_eq_some (hpending.symm.trans hp)
    have hregime := groupWork_regime_of_pending hp
    have hchoice : chooseCandidate (groupWork s) = chooseCandidate (regimeStages s) := by
      simp [chooseCandidate, State.plant, hregime, takenRegime]
    unfold CandidateCurrent
    rw [hchoice, ← hcandidate, hregime]
    exact ⟨rfl, by simp [takenRegime, pendingFor, hg]⟩

theorem fullRestart_regime (k : RestartCause) (b1 b0 : Bool) (s : State) :
    RegimeRestarted (fullRestart k b1 b0 s) :=
  restarted_regime k (lineRateOf b1 b0) (imagesAtRestart (backingAtRestart s)) (freeIxAtRestart s) s.pending false

theorem fullRestart_current (k : RestartCause) (b1 b0 : Bool) (s : State) :
    CandidateCurrent (fullRestart k b1 b0 s) := by
  obtain ⟨-, -, -, -, -, -, hcurrent, -⟩ := fullRestart_regime k b1 b0 s
  exact hcurrent

/-- A restart takes its candidate into force at once (R64). -/
theorem fullRestart_rankCovers (k : RestartCause) (b1 b0 : Bool) (s : State) : RankCovers (fullRestart k b1 b0 s) := by
  obtain ⟨-, -, -, -, heffective, -, -, -, hcurrent, -⟩ := fullRestart_regime k b1 b0 s
  have hle : (fullRestart k b1 b0 s).regime.fire.effective ≤ 5 := by
    rw [heffective]
    split <;> omega
  exact ⟨hcurrent, nofun, hle, rank_of_candidate hle _⟩

end Sys2Proof.Machine

/-! PROOFS. What every command but a sample set and a full restart leaves of the regime unit: the group in force, the
effective level (R57), and the candidate that the settings give (R58, R61). -/

namespace Sys2Proof.Machine

/-! ## The group in force and the candidate stand -/

/-- The group in force and the effective level are the same in both states; a fire level newly stored is at most 5, and
a working copy of the active group newly loaded is marked for refresh (R47, R55, R57, R62). -/
structure GroupStands (s t : State) : Prop where
  active : t.regime.active = s.regime.active
  inForce : t.regime.inForce = s.regime.inForce
  effective : t.regime.fire.effective = s.regime.fire.effective
  level : ∀ l ∈ t.regime.fire.level, l ≤ 5 ∨ l ∈ s.regime.fire.level
  refresh : s.regime.refreshGroup = true → t.regime.refreshGroup = true
  working : t.regime.refreshGroup = true ∨
    (groupImage t.store.images s.regime.active).working = (groupImage s.store.images s.regime.active).working

/-- The group in force stands, and with it a candidate that is current (R58, R61). -/
structure RegimeStands (s t : State) : Prop extends GroupStands s t where
  candidate : CandidateCurrent s → CandidateCurrent t

theorem GroupStands.of_same {s t : State} (h : SameSettings s t) : GroupStands s t := by
  obtain ⟨hstore, hregime⟩ := h
  constructor <;> simp +contextual [hstore, hregime]

theorem GroupStands.trans {s u t : State} (h : GroupStands s u) (h' : GroupStands u t) : GroupStands s t where
  active := h'.active.trans h.active
  inForce := h'.inForce.trans h.inForce
  effective := h'.effective.trans h.effective
  level l hl := (h'.level l hl).elim .inl (h.level l)
  refresh hs := h'.refresh (h.refresh hs)
  working := by
    have hw := h'.working
    rw [h.active] at hw
    rcases h.working with hu | hu
    · exact .inl (h'.refresh hu)
    · exact hw.imp id fun e => e.trans hu

/-- New settings images leave the group in force alone, where the active group's working copy reads as it did. -/
theorem GroupStands.of_images {s t : State} (hregime : t.regime = s.regime)
    (hw : (groupImage t.store.images s.regime.active).working = (groupImage s.store.images s.regime.active).working) :
    GroupStands s t := by
  constructor <;> simp +contextual [hregime, hw]

/-- A new override, candidate or pending group, and a mark set, leave the group in force alone (R47, R58, R59, R61). -/
theorem GroupStands.of_regime {s t : State} (himages : t.store.images = s.store.images)
    (hactive : t.regime.active = s.regime.active) (hforce : t.regime.inForce = s.regime.inForce)
    (hfire : t.regime.fire = s.regime.fire) (hmark : s.regime.refreshGroup = true → t.regime.refreshGroup = true) :
    GroupStands s t where
  active := hactive
  inForce := hforce
  effective := by rw [hfire]
  level l hl := .inr (hfire ▸ hl)
  refresh := hmark
  working := .inr (by rw [himages])

theorem GroupStands.rankCovers {s t : State} (h : GroupStands s t) (hs : RankCovers s) : RankCovers t := by
  obtain ⟨⟨hgroupS, hstored⟩, hlevel, hle, hrank⟩ := hs
  have hsettings : t.settings = s.settings := congrArg InForce.settings h.inForce
  refine ⟨⟨fun ha => ?_, fun ha hmark => ?_⟩, fun l hl => (h.level l hl).elim id (hlevel l), ?_, ?_⟩
  · rw [hsettings]
    exact hgroupS (h.active ▸ ha)
  · have hold : s.regime.refreshGroup = false := by
      by_contra hc
      simp [h.refresh (by simpa using hc)] at hmark
    have hw := h.working.resolve_left (by simp [hmark])
    rw [h.active] at ha ⊢
    rw [hsettings, hw]
    exact hstored ha hold
  · rw [h.effective]; exact hle
  · rw [h.effective, hsettings]; exact hrank

theorem RegimeStands.of_same {s t : State} (h : SameSettings s t) : RegimeStands s t where
  toGroupStands := .of_same h
  candidate hs := by
    obtain ⟨hstore, hregime⟩ := h
    exact hs.congr (fun i _ => hstore ▸ .refl _) (by rw [hregime]) (by rw [hregime])

theorem RegimeStands.refl (s : State) : RegimeStands s s := .of_same ⟨rfl, rfl⟩

theorem RegimeStands.trans {s u t : State} (h : RegimeStands s u) (h' : RegimeStands u t) : RegimeStands s t :=
  ⟨h.toGroupStands.trans h'.toGroupStands, h'.candidate ∘ h.candidate⟩

theorem RegimeStands.then_same {s u t : State} (h : RegimeStands s u) (h' : SameSettings u t) : RegimeStands s t :=
  h.trans (.of_same h')

theorem addReport_sameSettings (r : Report) (s : State) : SameSettings s (addReport r s) := by simp [SameSettings]

/-! ## The regime unit's own operations -/

/-- The candidate recomputed is current, whatever it was before (R58, R61). -/
theorem GroupStands.recompute {s t : State} (h : GroupStands s t) : RegimeStands s (recompute t) where
  toGroupStands := h.trans (.of_regime rfl rfl rfl rfl id)
  candidate _ := recompute_current t

theorem withOverride_stands (o : Option Nat) (s : State) : RegimeStands s (withOverride o s) :=
  GroupStands.recompute (t := s.setRegime { s.regime with override := o }) (.of_regime rfl rfl rfl rfl id)

theorem cancelOverride_stands (s : State) : GroupStands s (cancelOverride s) := by
  have hregime := cancelOverride_regime s
  exact .of_regime (by simp) (by rw [hregime]) (by rw [hregime]) (by rw [hregime]) (by rw [hregime]; exact id)

/-- A fire level that keeps the effective level is read by no candidate (R55 to R58). -/
theorem setFire_stands {s : State} {f : FireLevel} (he : f.effective = s.regime.fire.effective)
    (hl : ∀ l ∈ f.level, l ≤ 5 ∨ l ∈ s.regime.fire.level) :
    RegimeStands s (judgeFireStale (s.setRegime { s.regime with fire := f })) := by
  refine RegimeStands.then_same (u := s.setRegime { s.regime with fire := f }) ⟨?_, fun hs => ?_⟩
    (by simp [SameSettings])
  · constructor <;> simp [he]
    exact hl
  · exact hs.congr (fun i _ => .refl _) rfl he

theorem ownSetFireLevel_stands (p : List Byte) (s : State) : RegimeStands s (ownSetFireLevel p s).2 := by
  unfold ownSetFireLevel
  dsimp only
  split
  · exact .refl s
  · refine setFire_stands rfl fun l hl => .inl ?_
    cases hl
    exact Nat.min_le_left ..

theorem execFireLevelExpiry_stands (s : State) : Ends (execFireLevelExpiry s) (RegimeStands s) := by
  rw [execFireLevelExpiry, ends_next]
  split
  · exact setFire_stands rfl fun _ => .inr
  · exact .refl s

theorem ownSelectGroup_stands (p : List Byte) (s : State) : RegimeStands s (ownSelectGroup p s).2 := by
  unfold ownSelectGroup
  dsimp only
  split
  · exact withOverride_stands _ s
  · split
    · exact .refl s
    · split
      · exact .refl s
      · exact withOverride_stands _ s

/-! ## The settings store -/

/-- Settings images that read alike leave the regime standing. -/
theorem RegimeStands.of_alike {s t : State} (hregime : t.regime = s.regime)
    (h : RegimeReadsAlike s.store.images t.store.images) : RegimeStands s t := by
  obtain ⟨-, -, hw⟩ := groupImage_alike h s.regime.active
  exact ⟨.of_images hregime hw, fun hs => hs.congr h (by rw [hregime]) (by rw [hregime])⟩

/-- An image that serves as it did, or that the regime unit does not read, changes nothing for it (R46, R50). -/
theorem updateImage_stands {i : ImageId} {f : Image → Image} {s : State}
    (h : i.ofRegime → (f (s.store.images.get i)).Alike (s.store.images.get i)) : RegimeStands s (updateImage i f s) :=
  .of_alike (by simp) (regimeReadsAlike_set h)

/-- The group in force stands where every group's working copy reads as it did (R47). -/
theorem updateImage_groupStands {i : ImageId} {f : Image → Image} {s : State}
    (h : ∀ g, ImageId.ofGroup g = some i → (f (s.store.images.get i)).working = (s.store.images.get i).working) :
    GroupStands s (updateImage i f s) := by
  refine .of_images (by simp) ?_
  by_cases hg : ImageId.ofGroup s.regime.active = some i
  · simp [groupImage, hg, updateImage, h _ hg]
  · exact congrArg Image.working (groupImage_set_of_ne hg _)

theorem plantChanged_stands {s t : State} (h : GroupStands s t) : RegimeStands s (plantChanged t) :=
  GroupStands.recompute (h.trans (.of_same (by simp [SameSettings])))

theorem usersInvalid_stands {s t : State} (i : ImageId) (h : GroupStands s t)
    (hother : ¬ i.ofRegime → RegimeStands s t) : RegimeStands s (usersInvalid i t) := by
  cases i with
  | plant => exact plantChanged_stands h
  | curve0 | curve1 | curve2 | curve3 | group0 | group1 | group2 | group3 => exact h.recompute
  | stations | hunt | drives =>
    exact (hother (by simp [ImageId.ofRegime])).then_same (by simp [usersInvalid, SameSettings])

/-- A check moves no working copy, and one that ends the validity of an image ends with its users (R50, R52). -/
theorem checkImage_stands (i : ImageId) (s : State) : RegimeStands s (checkImage s i) := by
  obtain ⟨hp, hw, hv⟩ := checkedImage_frame (s.store.images.get i)
  unfold checkImage
  dsimp only
  split
  · have hreport : SameSettings (updateImage i checkedImage s)
        (reportImage (.mismatch i) (updateImage i checkedImage s)) := by simp [SameSettings]
    have husers := usersInvalid_stands i ((updateImage_groupStands fun _ _ => hw).trans (.of_same hreport))
      fun hi => (updateImage_stands fun hread => absurd hread hi).then_same hreport
    exact husers.then_same (by simp [SameSettings])
  · next hkept =>
    refine updateImage_stands fun _ => ⟨hp, hv.resolve_right fun hdrop => hkept ?_, hw⟩
    simpa [updateImage] using hdrop

theorem foldl_checkImage_stands (l : List ImageId) (s : State) : RegimeStands s (l.foldl checkImage s) := by
  induction l generalizing s with
  | nil => exact .refl s
  | cons i rest ih => exact (checkImage_stands i s).trans (ih _)

/-- The scan's own fields and the write in flight are read by no candidate. -/
theorem setStore_stands {s : State} {v : Store} (h : v.images = s.store.images) : RegimeStands s (s.setStore v) :=
  .of_alike rfl fun _ _ => h ▸ .refl _

theorem endCheck_stands (s : State) : RegimeStands s (endCheck s) := by
  unfold endCheck
  split
  · exact checkImage_stands _ s
  · exact .refl s

theorem execScanEvent_stands (s : State) : Ends (execScanEvent s) (RegimeStands s) := by
  have hdue : RegimeStands s (s.setDue { s.due with scan := false }) := .of_same ⟨rfl, rfl⟩
  rw [execScanEvent, ends_next]
  split
  · exact (hdue.trans (endCheck_stands _)).trans (setStore_stands rfl)
  · exact .refl s

theorem fullPass_stands (s : State) : RegimeStands s (fullPass s) := by
  have hstart : RegimeStands s (s.setStore { s.store with checking := none }) := setStore_stands rfl
  let u := ImageId.all.foldl checkImage (s.setStore { s.store with checking := none })
  have hend : RegimeStands s (u.setStore { u.store with checking := none, scanPos := .plant }) :=
    (hstart.trans (foldl_checkImage_stands _ _)).trans (setStore_stands rfl)
  exact hend.then_same (addReport_sameSettings _ _)

theorem execBackingWriteCompletion_stands (b : Bool) (s : State) :
    Ends (execBackingWriteCompletion b s) (RegimeStands s) := by
  have hdone : RegimeStands s (s.setStore { s.store with write := none }) := setStore_stands rfl
  have hcopy : ∀ i f, (∀ x : Image, (f x).Alike x) →
      RegimeStands s (updateImage i f (s.setStore { s.store with write := none })) :=
    fun i f hf => hdone.trans (updateImage_stands fun _ => hf _)
  rw [execBackingWriteCompletion, ends_next]
  split
  · exact .refl s
  · next w _ =>
    dsimp only
    split
    · exact (hcopy w.image (storedImage w) fun _ => ⟨rfl, rfl, rfl⟩).then_same (addReport_sameSettings _ _)
    · have hspoiled := hcopy w.image (fun i => { i with backing := .spoiled s.freeIx }) fun _ => ⟨rfl, rfl, rfl⟩
      exact hspoiled.then_same (addReport_sameSettings _ ((updateImage _ _ _).setFreeIx _))

/-! ## LOAD_IMAGE -/

theorem markCurve_stands (k : Nat) (s : State) : GroupStands s (markCurve k s) := by
  unfold markCurve
  split
  · exact .of_regime rfl rfl rfl rfl id
  · exact .of_same ⟨rfl, rfl⟩

theorem cancelAtLoad_stands (g : Nat) (s : State) : GroupStands s (cancelAtLoad g s) := by
  unfold cancelAtLoad
  split
  · exact cancelOverride_stands s
  · exact .of_same ⟨rfl, rfl⟩

/-- The image of the active group is marked for refresh at its load; that of another group reads elsewhere (R47). -/
theorem markGroup_stands {s u : State} {i : ImageId} {v : Image} (hregime : u.regime = s.regime)
    (himages : u.store.images = s.store.images.set i v) : GroupStands s (markGroup i.index u) := by
  unfold markGroup
  split
  · constructor <;> simp +contextual [hregime]
  · next hne =>
    refine .of_images hregime ?_
    rw [himages, groupImage_set_of_ne]
    intro e
    rw [hregime] at hne
    exact hne (ImageId.kind_of_ofKindIndex e).2.symm

theorem loadGroup_stands {s u : State} {i : ImageId} {v : Image} (hregime : u.regime = s.regime)
    (himages : u.store.images = s.store.images.set i v) :
    RegimeStands s (recompute (cancelAtLoad i.index (markGroup i.index u))) :=
  ((markGroup_stands hregime himages).trans (cancelAtLoad_stands _ _)).recompute

/-- An image that is no group's leaves the group in force alone at its load. -/
theorem GroupStands.of_load {s u : State} {i : ImageId} {v : Image} (hi : i.kind ≠ 4) (hregime : u.regime = s.regime)
    (himages : u.store.images = s.store.images.set i v) : GroupStands s u := by
  refine .of_images hregime ?_
  rw [himages, groupImage_set_of_ne]
  exact fun e => hi (ImageId.kind_of_ofKindIndex e).1

/-- The users take an accepted image up: the candidate is recomputed, or it is not read from that image (R45). -/
theorem usersAccept_stands {s u : State} {i : ImageId} {v : Image} (hregime : u.regime = s.regime)
    (himages : u.store.images = s.store.images.set i v) : RegimeStands s (usersAccept i u) := by
  have hload : i.kind ≠ 4 → GroupStands s u := fun hi => .of_load hi hregime himages
  have hother : ¬ i.ofRegime → RegimeStands s u := fun hi =>
    .of_alike hregime (himages ▸ regimeReadsAlike_set fun hread => absurd hread hi)
  cases i with
  | plant => exact plantChanged_stands (hload (by decide))
  | curve0 | curve1 | curve2 | curve3 => exact ((hload (by decide)).trans (markCurve_stands _ u)).recompute
  | group0 | group1 | group2 | group3 => exact loadGroup_stands hregime himages
  | stations | hunt | drives =>
    exact (hother (by simp [ImageId.ofRegime])).then_same (by simp [usersAccept, SameSettings])

theorem acceptImage_stands (i : ImageId) (c : List Byte) (w : Word16) (s : State) :
    RegimeStands s (acceptImage i c w s) :=
  usersAccept_stands (v := loadedImage i c w (s.store.images.get i)) (by simp) (by simp [replaceImage, updateImage])

theorem ownLoadImage_stands (p : List Byte) (s : State) : RegimeStands s (ownLoadImage p s).2 := by
  unfold ownLoadImage
  dsimp only
  split
  · exact .refl s
  · split
    · exact .refl s
    · split
      · exact .refl s
      · split
        · exact .refl s
        · split
          · exact acceptImage_stands _ _ _ s
          · exact .refl s

end Sys2Proof.Machine

/-! PROOFS. The regime unit across every command: a sample set and a full restart move the group in force, and every
other command leaves it standing (R57, R62, R64). -/

namespace Sys2Proof.Machine

/-! ## Host commands -/

theorem fillReply_sameSettings (r : Reply) (m : Option RestartKind) (s : State) : SameSettings s (fillReply r m s) :=
  ⟨rfl, rfl⟩

/-- A command's row leaves the regime standing when the command's owner does (R170). -/
theorem runCommand_stands (k : CommandKind) {own : List Byte → State → Reply × State}
    (hown : ∀ p u, RegimeStands u (own p u).2) (s : State) : Ends (.next (runCommand k own s)) (RegimeStands s) := by
  have hpop : RegimeStands s (popCommand s) := .of_same ⟨rfl, rfl⟩
  rw [ends_next]
  unfold runCommand
  split
  · next c _ =>
    unfold execute
    split
    · exact (hpop.trans (hown c.payload _)).then_same (fillReply_sameSettings _ _ _)
    · exact hpop.then_same (fillReply_sameSettings _ _ _)
  · exact .refl s

/-- The row of a command whose owner leaves the settings alone. -/
theorem runCommand_stands_of_same (k : CommandKind) {own : List Byte → State → Reply × State}
    (hown : ∀ p u, SameSettings u (own p u).2) (s : State) : Ends (.next (runCommand k own s)) (RegimeStands s) :=
  runCommand_stands k (fun p u => .of_same (hown p u)) s

theorem runRestart_sameSettings (other : List Byte) (s : State) :
    Ends (.next (runRestart other s)) (SameSettings s) := by
  rw [ends_next]
  unfold runRestart executeRestart linkRestartTaken fullRestartTaken
  repeat' split
  all_goals exact ⟨rfl, rfl⟩

theorem ownReadStatus_state (p : List Byte) (s : State) : (ownReadStatus p s).2 = s := by
  unfold ownReadStatus
  dsimp only
  repeat' split
  all_goals rfl

theorem ownReadImage_state (p : List Byte) (s : State) : (ownReadImage p s).2 = s := by
  unfold ownReadImage
  split <;> rfl

theorem ownTrip_sameSettings (s : State) : SameSettings s (ownTrip s).2 := by simp [SameSettings, ownTrip]

theorem ownClose_sameSettings (s : State) : SameSettings s (ownClose s).2 := by
  unfold ownClose
  repeat' split
  all_goals simp [SameSettings]

theorem ownResetLockout_sameSettings (s : State) : SameSettings s (ownResetLockout s).2 := by
  unfold ownResetLockout judgeReset
  repeat' split
  all_goals simp [SameSettings]

theorem ownSetPermit_sameSettings (p : List Byte) (s : State) : SameSettings s (ownSetPermit p s).2 := by
  unfold ownSetPermit
  repeat' split
  all_goals simp [SameSettings]

theorem ownAckConditions_sameSettings (p : List Byte) (s : State) : SameSettings s (ownAckConditions p s).2 := by
  unfold ownAckConditions
  dsimp only
  split <;> simp [SameSettings, acknowledge]

theorem ownStartHunt_sameSettings (p : List Byte) (s : State) : SameSettings s (ownStartHunt p s).2 := by
  unfold ownStartHunt
  split <;> simp [SameSettings]

theorem ownStopHunt_sameSettings (p : List Byte) (s : State) : SameSettings s (ownStopHunt p s).2 := by
  unfold ownStopHunt
  split <;> simp [SameSettings]

theorem ownRequestStart_sameSettings (p : List Byte) (s : State) : SameSettings s (ownRequestStart p s).2 := by
  unfold ownRequestStart
  dsimp only
  repeat' split
  all_goals simp [SameSettings]

theorem ownCancelStart_sameSettings (p : List Byte) (s : State) : SameSettings s (ownCancelStart p s).2 := by
  unfold ownCancelStart
  dsimp only
  repeat' split
  all_goals simp [SameSettings]

theorem ownPilotQuery_sameSettings (p : List Byte) (s : State) : SameSettings s (ownPilotQuery p s).2 := by
  unfold ownPilotQuery
  dsimp only
  split
  · simp [SameSettings]
  · split
    · simp [SameSettings]
    · split
      · simp [SameSettings]
      · split
        · have hq := joinQueue_frame ‹_›
          simp [SameSettings, hq]
        · simp [SameSettings]

/-! ## Rows of the other blocks -/

theorem execPollTimerExpiry_sameSettings (s : State) : Ends (execPollTimerExpiry s) (SameSettings s) := by
  rw [execPollTimerExpiry, ends_next]
  dsimp only
  repeat' split
  all_goals simp [SameSettings]

theorem execWholeSecondBoundary_sameSettings (s : State) : Ends (execWholeSecondBoundary s) (SameSettings s) := by
  rw [execWholeSecondBoundary, ends_next]
  dsimp only
  repeat' split
  all_goals simp [SameSettings]

theorem execDownMessageEnd_sameSettings (s : State) : Ends (execDownMessageEnd s) (SameSettings s) := by
  rw [execDownMessageEnd, ends_next]
  dsimp only
  repeat' split
  all_goals simp [SameSettings]

theorem execSwitchWaitExpiry_sameSettings (s : State) : Ends (execSwitchWaitExpiry s) (SameSettings s) := by
  rw [execSwitchWaitExpiry, ends_next]
  repeat' split
  all_goals simp [SameSettings]

theorem execRequestLifetimeExpiry_sameSettings (n : Nat) (s : State) :
    Ends (execRequestLifetimeExpiry n s) (SameSettings s) := by
  rw [execRequestLifetimeExpiry, ends_next]
  repeat' split
  all_goals simp [SameSettings]

theorem execReplyWaitExpiry_sameSettings (a : Nat) (s : State) : Ends (execReplyWaitExpiry a s) (SameSettings s) := by
  rw [execReplyWaitExpiry, ends_next]
  repeat' split
  all_goals simp [SameSettings]

theorem execTimeBaseEvent_sameSettings (a b r : Bool) (s : State) :
    Ends (execTimeBaseEvent a b r s) (SameSettings s) := by
  simp [SameSettings, execTimeBaseEvent, paceTimers, advanceTime]

theorem execStatus_sameSettings (s : State) : Ends (execStatus s) (SameSettings s) := by
  rw [execStatus, ends_next]
  split <;> simp [SameSettings]

theorem execSwitchDone_sameSettings (s : State) : Ends (execSwitchDone s) (SameSettings s) := by
  rw [execSwitchDone, ends_next]
  split <;> simp [SameSettings]

theorem execStartRequest_sameSettings (s : State) : Ends (execStartRequest s) (SameSettings s) := by
  rw [execStartRequest, ends_next]
  split <;> simp [SameSettings]

theorem execStartDone_sameSettings (s : State) : Ends (execStartDone s) (SameSettings s) := by
  rw [execStartDone, ends_next]
  split <;> simp [SameSettings]

theorem execStartAbandon_sameSettings (s : State) : Ends (execStartAbandon s) (SameSettings s) := by
  rw [execStartAbandon, ends_next]
  split <;> simp [SameSettings]

theorem execHostRecordArrival_sameSettings (s : State) : Ends (execHostRecordArrival s) (SameSettings s) := by
  rw [execHostRecordArrival, ends_next]
  split <;> exact ⟨rfl, rfl⟩

theorem execTransmissionEnd_sameSettings (s : State) : Ends (execTransmissionEnd s) (SameSettings s) := by
  rw [execTransmissionEnd, ends_next]
  split <;> exact ⟨rfl, rfl⟩

/-- A row that acts when it is due, and leaves the state alone when it is not. -/
theorem ends_ite_sameSettings {p : Prop} [Decidable p] {s t : State} (h : SameSettings s t) :
    Ends (.next (if p then t else s)) (SameSettings s) := by
  rw [ends_next]
  split
  · exact h
  · exact ⟨rfl, rfl⟩

theorem Ends.stands {o : Host.Outcome State Fault Refusal} {s : State} (h : Ends o (SameSettings s)) :
    Ends o (RegimeStands s) := fun t e => .of_same (h t e)

/-! ## Every command -/

/-- Every command but a sample set and a full restart leaves the group in force, the effective level and a current
candidate standing (R57, R58, R61, R62). -/
theorem exec_regimeStands {c : Instr} (hset : ∀ nbits frame, c ≠ .sampleSetArrival nbits frame)
    (hfull : ∀ cause b1 b0, c ≠ .fullRestart cause b1 b0) (hcommand : ∀ b1 b0, c ≠ .fullRestartByCommand b1 b0)
    (s : State) : Ends (exec c s) (RegimeStands s) := by
  cases c with
  | fullRestart k b1 b0 => exact absurd rfl (hfull k b1 b0)
  | fullRestartByCommand b1 b0 => exact absurd rfl (hcommand b1 b0)
  | sampleSetArrival n f => exact absurd rfl (hset n f)
  | scanEvent => exact execScanEvent_stands s
  | backingWriteCompletion b => exact execBackingWriteCompletion_stands b s
  | fireLevelExpiry => exact execFireLevelExpiry_stands s
  | timeBaseEvent a b r => exact (execTimeBaseEvent_sameSettings a b r s).stands
  | lossDeclared => exact (ends_ite_sameSettings (by simp [SameSettings])).stands
  | tripTimerExpiry | closeTimerExpiry | deadTimerExpiry | holdExceeded | reclaimTimerExpiry =>
    exact (ends_ite_sameSettings (by simp [SameSettings])).stands
  | slotEvent | takeTimeout | holdingTimeout | refusingEnd | coolDownEnd =>
    exact (ends_ite_sameSettings (by simp [SameSettings])).stands
  | dwellExpiry | settlingEnd | startWindowExpiry | receiveTimeout | transmissionStart =>
    exact (ends_ite_sameSettings (by simp [SameSettings])).stands
  | downMessageEnd => exact (execDownMessageEnd_sameSettings s).stands
  | status => exact (execStatus_sameSettings s).stands
  | switchDone => exact (execSwitchDone_sameSettings s).stands
  | startRequest => exact (execStartRequest_sameSettings s).stands
  | startDone => exact (execStartDone_sameSettings s).stands
  | startAbandon => exact (execStartAbandon_sameSettings s).stands
  | pollTimerExpiry => exact (execPollTimerExpiry_sameSettings s).stands
  | replyWaitExpiry a => exact (execReplyWaitExpiry_sameSettings a s).stands
  | switchWaitExpiry => exact (execSwitchWaitExpiry_sameSettings s).stands
  | wholeSecondBoundary => exact (execWholeSecondBoundary_sameSettings s).stands
  | requestLifetimeExpiry n => exact (execRequestLifetimeExpiry_sameSettings n s).stands
  | hostByteReceived b => exact (ends_next _ _).mpr (.of_same ⟨rfl, rfl⟩)
  | hostRecordArrival => exact (execHostRecordArrival_sameSettings s).stands
  | transmissionEnd => exact (execTransmissionEnd_sameSettings s).stands
  | echo => exact runCommand_stands _ (fun _ => .refl) s
  | readStatus => exact runCommand_stands _ (fun p u => (ownReadStatus_state p u).symm ▸ .refl u) s
  | readMeasure => exact runCommand_stands _ (fun _ => .refl) s
  | readImage => exact runCommand_stands _ (fun p u => (ownReadImage_state p u).symm ▸ .refl u) s
  | loadImage => exact runCommand_stands _ ownLoadImage_stands s
  | checkImages => exact runCommand_stands _ (fun _ => fullPass_stands) s
  | setFireLevel => exact runCommand_stands _ ownSetFireLevel_stands s
  | selectGroup => exact runCommand_stands _ ownSelectGroup_stands s
  | trip => exact runCommand_stands_of_same _ (fun _ => ownTrip_sameSettings) s
  | close => exact runCommand_stands_of_same _ (fun _ => ownClose_sameSettings) s
  | resetLockout => exact runCommand_stands_of_same _ (fun _ => ownResetLockout_sameSettings) s
  | setPermit => exact runCommand_stands_of_same _ ownSetPermit_sameSettings s
  | ackConditions => exact runCommand_stands_of_same _ ownAckConditions_sameSettings s
  | startHunt => exact runCommand_stands_of_same _ ownStartHunt_sameSettings s
  | stopHunt => exact runCommand_stands_of_same _ ownStopHunt_sameSettings s
  | requestStart => exact runCommand_stands_of_same _ ownRequestStart_sameSettings s
  | cancelStart => exact runCommand_stands_of_same _ ownCancelStart_sameSettings s
  | pilotQuery => exact runCommand_stands_of_same _ ownPilotQuery_sameSettings s
  | setReportMask => exact runCommand_stands_of_same _ (fun _ _ => ⟨rfl, rfl⟩) s
  | restartLink => exact (runRestart_sameSettings _ s).stands
  | restartFull => exact (runRestart_sameSettings _ s).stands

/-! ## The three rows that move the group in force -/

theorem acceptSet_sameSettings_or_point (set : SampleSet) (s : State) :
    SameSettings s (acceptSet set s) ∨ SameSettings (groupWork (takenIn set s)) (acceptSet set s) := by
  cases h : raisesPoint (measBefore set s)
  · exact .inl (by simp [acceptSet_of_no_point h, SameSettings, takenIn])
  · exact .inr (by simp [acceptSet_of_point h, SameSettings, evaluationPoint_regime])

section Keeps

variable {P : State → Prop} (hstands : ∀ {u t}, P u → RegimeStands u t → P t)
  (hpoint : ∀ {u}, P u → P (groupWork u))
include hstands hpoint

/-- A set that raises a point ends in the settings of its group work, and another leaves them alone (R62). -/
theorem acceptSet_keeps (set : SampleSet) {s : State} (h : P s) : P (acceptSet set s) := by
  have htaken : P (takenIn set s) := hstands h (.of_same (by simp [SameSettings, takenIn]))
  rcases acceptSet_sameSettings_or_point set s with hs | hs
  · exact hstands h (.of_same hs)
  · exact hstands (hpoint htaken) (.of_same hs)

variable (hrestart : ∀ k b1 b0 u, P (fullRestart k b1 b0 u))
include hrestart

/-- A property is kept by every command when a point, a restart and every command that leaves the regime standing keep
it. -/
theorem exec_keeps (c : Instr) {s : State} (h : P s) : Ends (exec c s) P := by
  cases c with
  | fullRestart k b1 b0 => exact (ends_next _ _).mpr (hstands (hrestart (causeOf k) b1 b0 s) (.of_same ⟨rfl, rfl⟩))
  | fullRestartByCommand b1 b0 =>
    rw [exec, execFullRestartByCommand, ends_next]
    split
    · exact hrestart ..
    · exact h
  | sampleSetArrival n f =>
    rw [exec, execSampleSetArrival, ends_next]
    split
    · exact acceptSet_keeps hstands hpoint _ h
    · exact h
  | _ => refine fun t e => hstands h (exec_regimeStands ?_ ?_ ?_ s t e) <;> nofun

theorem step_keeps {s t : State} (h : P s) (e : step s = .next t) : P t := by
  unfold step at e
  split at e
  · cases e
    exact h
  · next c rest _ =>
    exact exec_keeps hstands hpoint hrestart c (s := s.setPending rest) (hstands h (.of_same ⟨rfl, rfl⟩)) t e

end Keeps

/-- Settles O54: a point and a restart bring both invariants about, and every other command leaves the regime
standing. -/
theorem stepKeepsTheRegimeCurrent : Obligations.StepKeepsTheRegimeCurrent :=
  ⟨fun _ _ => step_keeps (fun h hs => hs.rankCovers h) groupWork_rankCovers fullRestart_rankCovers,
    fun _ _ => step_keeps (fun h hs => hs.candidate h) (fun _ => groupWork_current _) fullRestart_current⟩

end Sys2Proof.Machine

/-! PROOFS. Backing copies: what a full restart loads of them (R46, R64), and the end of a backing write (R46). -/

namespace Sys2Proof.Machine

/-! ## The load of a backing copy at a full restart -/

@[simp] theorem imagesAtRestart_get (f : ImageId → Backing) (i : ImageId) :
    (imagesAtRestart f).get i = restartImage i (f i) := by
  cases i <;> rfl

theorem fullRestart_image (k : RestartCause) (b1 b0 : Bool) (s : State) (i : ImageId) :
    (fullRestart k b1 b0 s).store.images.get i = restartImage i (backingAtRestart s i) := imagesAtRestart_get _ i

/-- The CRC kept with a spoiled copy lies 1 to 65535 above that of its content, so it never agrees (R46). -/
theorem crc16_ne_spoiledCrc (k : Nat) : crc16 (Config.spoiledContent k) ≠ spoiledCrc k := by
  have hlow : Config.spoiledOffset k % 65535 < 65535 := Nat.mod_lt _ (by omega)
  unfold spoiledCrc
  generalize Config.spoiledOffset k % 65535 = n at hlow
  bv_omega

theorem restartImage_spoiled (i : ImageId) (k : Nat) :
    (restartImage i (.spoiled k)).present = true ∧ (restartImage i (.spoiled k)).valid = false ∧
      (restartImage i (.spoiled k)).lastCheck = .mismatch := by
  simp [restartImage, backingContent, crc16_ne_spoiledCrc]

theorem restartImage_written (i : ImageId) (content : List Byte) (crc : Word16) :
    (restartImage i (.written content crc)).present = true ∧ (restartImage i (.written content crc)).retained = true ∧
      (restartImage i (.written content crc)).working = content ∧
      (restartImage i (.written content crc)).storedCrc = crc ∧
      ((restartImage i (.written content crc)).valid = true ↔ crc16 content = crc) := by
  simp [restartImage, backingContent]

theorem backingAtRestart_of_writing {s : State} {w : BackingWrite} (h : s.store.write = some w) :
    backingAtRestart s w.image = .spoiled s.freeIx := by
  simp [backingAtRestart, h]

theorem backingAtRestart_of_not_writing {s : State} {i : ImageId} (h : ∀ w, s.store.write = some w → w.image ≠ i) :
    backingAtRestart s i = (s.store.images.get i).backing := by
  unfold backingAtRestart
  split
  · next w hw => exact if_neg (h w hw)
  · rfl

/-- Settles O4, by the load of each kind of backing copy; a write in flight has spoiled that of its image. -/
theorem fullRestartLoadsBackingCopies : Obligations.FullRestartLoadsBackingCopies := by
  intro cause b1 b0 s i
  refine ⟨_, rfl, fun w hw hi => ?_, fun hw => ?_⟩
  · rw [State.setResetLow_store, fullRestart_image, ← hi, backingAtRestart_of_writing hw]
    exact restartImage_spoiled _ _
  · rw [State.setResetLow_store, fullRestart_image, backingAtRestart_of_not_writing hw]
    cases (s.store.images.get i).backing with
    | unwritten => exact ⟨rfl, rfl, rfl, rfl, rfl⟩
    | written content crc => exact restartImage_written i content crc
    | spoiled k => exact restartImage_spoiled i k

/-! ## The end of a backing write -/

/-- A new report reads the record interface and the time, and changes the record interface alone (R172, R173). -/
theorem addReport_eq {s t : State} (hhost : t.host = s.host) (htime : t.time = s.time) (r : Report) :
    addReport r t = t.setHost (addReport r s).host := by
  unfold addReport placeReport reportEnabled
  rw [hhost, htime]
  split
  · split <;> rfl
  · rw [← hhost]
    rfl

/-- A write in flight ends in its image's new backing copy and an IMAGE report (R46). -/
theorem backingWriteCompletion_of_write {s : State} {w : BackingWrite} (h : s.store.write = some w) :
    exec (.backingWriteCompletion true) s =
        .next
          (addReport (.image s.time (.stored w.image))
            (updateImage w.image (storedImage w) (s.setStore { s.store with write := none }))) ∧
      exec (.backingWriteCompletion false) s =
        .next
          (addReport (.image s.time (.writeFailed w.image))
            ((updateImage w.image (fun i => { i with backing := .spoiled s.freeIx })
              (s.setStore { s.store with write := none })).setFreeIx (s.freeIx + 1))) := by
  rw [exec, exec, execBackingWriteCompletion, execBackingWriteCompletion, h]
  exact ⟨rfl, rfl⟩

/-- Settles O20: the image takes its backing copy, and the IMAGE report joins the queue. -/
theorem backingWriteCompletes : Obligations.BackingWriteCompletes := by
  refine fun s w => ⟨fun h => ?_, fun h stored => ?_⟩
  · obtain ⟨hstored, hfailed⟩ := backingWriteCompletion_of_write h
    exact ⟨hstored.trans (congrArg Host.Outcome.next (addReport_eq (by rfl) (by rfl) _)),
      hfailed.trans (congrArg Host.Outcome.next (addReport_eq (by rfl) (by rfl) _))⟩
  · rw [exec, execBackingWriteCompletion, h]

end Sys2Proof.Machine

/-! PROOFS. The fire level and the group selection: the effective level (R57), SET_FIRE_LEVEL and its expiry (R55, R56), and
SELECT_GROUP (R58, R59, R61). -/

namespace Sys2Proof.Machine

/-! ## The effective level -/

/-- The group work of a point computes the effective level of the season flag and the stored level (R57). -/
theorem groupWork_effective (s : State) :
    (groupWork s).regime.fire.effective = effectiveLevel s.plant.season s.regime.fire := by
  rw [groupWork_fire]

theorem effectiveLevel_table (season : Bool) (f : FireLevel) :
    (season = false → effectiveLevel season f = 0) ∧
    (season = true → f.level = none → effectiveLevel season f = 5) ∧
    (∀ l, season = true → f.level = some l → effectiveLevel season f = if f.expired then 5 else l) := by
  refine ⟨?_, ?_, ?_⟩ <;> simp +contextual [effectiveLevel]

/-- A set in order that raises a point leaves the effective level that the point computed (R7, R57). -/
theorem sampleSet_effective {frame : Nat} {s t : State} (hw : frameWellFormed 96 frame = true)
    (horder : s.port.state ≠ .tracking ∨ s.port.lastSeq = some ((sampleSetOf frame).seq - 1))
    (hpoint : s.meas.fill = 31 ∨ 32 ≤ s.meas.fill ∧ s.meas.phase = 15)
    (e : exec (.sampleSetArrival 96 frame) s = .next t) :
    t.regime.fire.effective = effectiveLevel s.plant.season s.regime.fire := by
  have hraise : raisesPoint (measBefore (sampleSetOf frame) s) = true := by
    rw [measBefore_of_in_order horder]
    exact raisesPoint_eq_true hpoint
  rw [exec_sampleSetArrival_of_wellFormed s hw, acceptSet_of_point hraise] at e
  cases e
  rw [evaluationPoint_regime, groupWork_effective]
  rfl

theorem fullRestart_effective (k : RestartCause) (b1 b0 : Bool) (s : State) :
    (fullRestart k b1 b0 s).regime.fire.effective = if (fullRestart k b1 b0 s).plant.season then 5 else 0 := rfl

/-- Settles O21, by the table of R57 at a point and at a restart; every other command leaves the regime standing. -/
theorem effectiveLevelFollowsTheTable : Obligations.EffectiveLevelFollowsTheTable := by
  refine ⟨fun frame s t hw horder hpoint e => ?_, fun cause b1 b0 s t e => ?_, fun b1 b0 s t hdue e => ?_,
    fun c s t e hset hfull hcommand => (exec_regimeStands hset hfull hcommand s t e).effective⟩
  · rw [sampleSet_effective hw horder hpoint e]
    exact effectiveLevel_table _ _
  · cases e
    exact fullRestart_effective (causeOf cause) b1 b0 s
  · rw [execFullRestartByCommand_of_due hdue] at e
    cases e
    exact fullRestart_effective .command b1 b0 s

/-! ## SET_FIRE_LEVEL -/

/-- FIRE_STALE judged again is active as the season and the fire level say (R56). -/
theorem judgeFireStale_active (s : State) : (judgeFireStale s).mon.recs.fireStale.active = fireStaleNow s :=
  setCondition_active (c := .fireStale) (by decide) _ s

/-- The fire level that an accepted SET_FIRE_LEVEL stores (R55). -/
def storedFire (l v1 v0 : Byte) (s : State) : FireLevel :=
  { s.regime.fire with
    level := some (min 5 l.toNat)
    setTime := s.time
    validity :=
      if v1.toNat * 256 + v0.toNat = 0 then s.plant.defaultValidity else v1.toNat * 256 + v0.toNat
    expired := false }

theorem ownSetFireLevel_accepted {l v1 v0 : Byte} (h : v1.toNat * 256 + v0.toNat ≤ 1440) (s : State) :
    ownSetFireLevel [l, v1, v0] s =
      (okReply (fireContent (storedFire l v1 v0 s)),
        judgeFireStale (s.setRegime { s.regime with fire := storedFire l v1 v0 s })) :=
  if_neg (Nat.not_lt.mpr h)

theorem ownSetFireLevel_refused {l v1 v0 : Byte} (h : 1440 < v1.toNat * 256 + v0.toNat) (s : State) :
    ownSetFireLevel [l, v1, v0] s = (badArgumentWith 2 (fireContent s.regime.fire), s) :=
  if_pos h

/-- Settles O22: the stored level is judged by FIRE_STALE at once, and so is its expiry. -/
theorem fireLevelIsStoredAndExpires : Obligations.FireLevelIsStoredAndExpires := by
  refine ⟨fun c rest l v1 v0 s h hp => ⟨fun hv => ?_, fun hv => ?_⟩,
    fun s l hlevel hexp => ⟨fun hdue => ?_, fun hdue => ?_⟩⟩
  · have hrun := runCommand_head ownSetFireLevel h (by rw [hp]; rfl)
    rw [hp, ownSetFireLevel_accepted hv] at hrun
    refine ⟨_, _, congrArg Host.Outcome.next hrun, rfl, ?_, ?_, ?_, ?_, ?_, ?_, ?_⟩
    · simp [storedFire]
    · simp [judgeFireStale_active, fireStaleNow, storedFire]
    · simp [Replied, fireContent, storedFire]
    · simp [SameClock]
    · simp
    · simp
    · simp
  · refine congrArg Host.Outcome.next (runCommand_of_reading h (by rw [hp]; rfl) ?_)
    rw [hp, ownSetFireLevel_refused hv]
    rfl
  · have hexec : exec .fireLevelExpiry s =
        .next (judgeFireStale (s.setRegime { s.regime with fire := { s.regime.fire with expired := true } })) :=
      congrArg Host.Outcome.next (if_pos (by simp [fireExpiryDue, hlevel, hexp, hdue]))
    refine ⟨_, hexec, ?_, ?_, ?_, ?_, ?_, ?_, ?_⟩
    · simp
    · rw [judgeFireStale_active]
      simp [fireStaleNow, State.plant]
    · simp [SameClock]
    · simp
    · simp
    · simp
    · simp [SameLine]
  · exact congrArg Host.Outcome.next (if_neg (by simp [fireExpiryDue, hlevel, hexp, hdue]))

/-! ## SELECT_GROUP -/

theorem ownSelectGroup_auto (s : State) :
    ownSelectGroup [255] s = (groupReply (withOverride none s), withOverride none s) := rfl

theorem ownSelectGroup_no_group {g : Byte} (h : 3 < g.toNat) (h' : g.toNat ≠ 255) (s : State) :
    ownSelectGroup [g] s = (badArgumentWith 1 (groupContent s), s) :=
  (if_neg h').trans (if_pos h)

theorem ownSelectGroup_fit {g : Byte} {s : State} (hg : g.toNat ≤ 3)
    (h : unfitness s.store.images s.regime.fire.effective g.toNat = none) :
    ownSelectGroup [g] s = (groupReply (withOverride (some g.toNat) s), withOverride (some g.toNat) s) := by
  have hauto : g.toNat ≠ 255 := by omega
  simp [ownSelectGroup, u8, hauto, Nat.not_lt.mpr hg, h]

theorem ownSelectGroup_unfit {g : Byte} {f : Fallback} {s : State} (hg : g.toNat ≤ 3)
    (h : unfitness s.store.images s.regime.fire.effective g.toNat = some f) :
    ownSelectGroup [g] s = (refusedFor (fallbackReason f) (groupContent s), s) := by
  have hauto : g.toNat ≠ 255 := by omega
  simp [ownSelectGroup, u8, hauto, Nat.not_lt.mpr hg, h]

theorem withOverride_override (o : Option Nat) (s : State) : (withOverride o s).regime.override = o := rfl

/-- The override of a fit stored group is the candidate (R58). -/
theorem candidateFor_of_fit {t : ImageTable Image} {e g : Nat} (hg : g ≤ 3) (h : unfitness t e g = none) :
    candidateFor t e g = (g, none) := by
  have hs : g ≠ groupSIndex := by unfold groupSIndex; omega
  simp [candidateFor, hs, h]

/-- The override taken, with the candidate and the pending group that it gives (R58, R59, R61). -/
theorem withOverride_of_fit {g : Nat} {s : State} (hg : g ≤ 3)
    (h : unfitness s.store.images s.regime.fire.effective g = none) :
    withOverride (some g) s =
      s.setRegime
        { s.regime with override := some g, candidate := g, fallback := none, pending := pendingFor s.regime g } := by
  have hchoice : chooseCandidate (s.setRegime { s.regime with override := some g }) = (g, none) :=
    candidateFor_of_fit hg h
  unfold withOverride recompute
  rw [hchoice]
  rfl

/-- The curves that a group uses are those of its enabled inverse-time elements (R58). -/
theorem curvesUsed_all (g : GroupSettings) (p : Nat → Bool) :
    (curvesUsed g).all p = true ↔
      (g.phTime.enabled = true → p g.phTime.curve = true) ∧ (g.efTime.enabled = true → p g.efTime.curve = true) := by
  unfold curvesUsed
  split <;> split <;> simp_all

/-- A group is fit when it passes the four tests of R58. -/
theorem unfitness_eq_none_iff (t : ImageTable Image) (e g : Nat) :
    unfitness t e g = none ↔
      (groupImage t g).present = true ∧ (groupImage t g).valid = true ∧
      (curvesUsed (parseGroup (groupImage t g).working)).all (fun k => usable (curveImage t k)) = true ∧
      e ≤ (parseGroup (groupImage t g).working).rank := by
  generalize hcurves : (curvesUsed (parseGroup (groupImage t g).working)).all _ = curvesFit
  simp only [unfitness, hcurves]
  cases (groupImage t g).present with
  | false => simp
  | true =>
    cases (groupImage t g).valid with
    | false => simp
    | true => cases curvesFit <;> simp

/-- Settles O23: each byte's case by the owner's answer, and fitness by its tests. -/
theorem selectGroupIsJudged : Obligations.SelectGroupIsJudged := by
  refine ⟨fun c rest g s h hp => ⟨fun hg hfit => ?_, fun f hg hunfit => ?_, fun hg hauto => ?_⟩, fun c rest s h hp => ?_,
    fun t e i g hi => ?_⟩
  · have hrun := runCommand_head ownSelectGroup h (by rw [hp]; rfl)
    rw [hp, ownSelectGroup_fit hg (by exact hfit), withOverride_of_fit hg (by exact hfit)] at hrun
    exact ⟨_, rfl, congrArg Host.Outcome.next hrun⟩
  · refine congrArg Host.Outcome.next (runCommand_of_reading h (by rw [hp]; rfl) ?_)
    rw [hp, ownSelectGroup_unfit hg (by exact hunfit)]
    rfl
  · refine congrArg Host.Outcome.next (runCommand_of_reading h (by rw [hp]; rfl) ?_)
    rw [hp, ownSelectGroup_no_group hg hauto]
    rfl
  · have hrun := runCommand_head ownSelectGroup h (by rw [hp]; rfl)
    rw [hp, ownSelectGroup_auto] at hrun
    refine ⟨_, congrArg Host.Outcome.next hrun, rfl, rfl, rfl, rfl, rfl, ?_, ?_, ?_⟩
    · simp [Replied, groupReply, groupContent, withOverride_override]
    · simp [SameClock]
    · simp
  · have himage : groupImage t g = t.get i := by simp [groupImage, hi]
    rw [unfitness_eq_none_iff, curvesUsed_all, himage, and_assoc]

end Sys2Proof.Machine

/-! PROOFS. The settings store: the check of a working copy, by the scan and by CHECK_IMAGES (R41, R48, R50, R51), and
LOAD_IMAGE (R41 to R46). -/

namespace Sys2Proof.Machine

/-! ## The check of one image -/

theorem checkedImage_eq (x : Image) :
    checkedImage x =
      if x.present = false then { x with lastCheck := .notPresent }
      else if crc16 x.working = x.storedCrc then { x with lastCheck := .good }
      else { x with lastCheck := .mismatch, valid := false } := by
  unfold checkedImage
  cases x.present <;> rfl

/-- A check leaves what the next one reads. -/
theorem checkedImage_idem (x : Image) : checkedImage (checkedImage x) = checkedImage x := by
  by_cases hp : x.present = false
  · simp [checkedImage, hp]
  · by_cases hc : crc16 x.working = x.storedCrc <;> simp [checkedImage, hp, hc]

/-- A check changes the settings store in its own image alone, also where users are handed an invalidity (R50). -/
theorem checkImage_store (s : State) (i : ImageId) : (checkImage s i).store = (updateImage i checkedImage s).store := by
  unfold checkImage
  dsimp only
  split <;> simp

@[simp] theorem checkImage_images (s : State) (i : ImageId) :
    (checkImage s i).store.images = s.store.images.set i (checkedImage (s.store.images.get i)) := by
  rw [checkImage_store]
  rfl

@[simp] theorem checkImage_scan (s : State) (i : ImageId) :
    (checkImage s i).store.write = s.store.write ∧ (checkImage s i).store.scanPos = s.store.scanPos ∧
    (checkImage s i).store.checking = s.store.checking := by
  rw [checkImage_store]
  exact ⟨rfl, rfl, rfl⟩

theorem ImageId.mem_all (i : ImageId) : i ∈ ImageId.all := by cases i <;> decide

theorem anyInvalid_of_get {t : ImageTable Image} {i : ImageId} (hp : (t.get i).present = true)
    (hv : (t.get i).valid = false) : anyInvalid t = true :=
  List.any_eq_true.mpr ⟨i, i.mem_all, by simp [hp, hv]⟩

theorem judgeIntegrity_active (s : State) :
    (judgeIntegrity s).mon.recs.integrity.active = anyInvalid s.store.images :=
  setCondition_active (c := .integrity) (by decide) _ s

/-- A mismatch of a valid image makes INTEGRITY active (R50). -/
theorem checkImage_integrity {s : State} {i : ImageId} (hp : (s.store.images.get i).present = true)
    (hv : (s.store.images.get i).valid = true)
    (hcrc : crc16 (s.store.images.get i).working ≠ (s.store.images.get i).storedCrc) :
    (checkImage s i).mon.recs.integrity.active = true := by
  have himage : (updateImage i checkedImage s).store.images.get i =
      { s.store.images.get i with lastCheck := .mismatch, valid := false } := by
    simp [updateImage, checkedImage_eq, hp, hcrc]
  have hcheck : checkImage s i =
      judgeIntegrity (usersInvalid i (reportImage (.mismatch i) (updateImage i checkedImage s))) :=
    if_pos ⟨hv, by rw [himage]⟩
  rw [hcheck, judgeIntegrity_active]
  simp only [usersInvalid_frame, reportImage_frame]
  exact anyInvalid_of_get (by rw [himage]; exact hp) (by rw [himage])

/-! ## The scan -/

theorem endCheck_images (s : State) (i : ImageId) :
    (endCheck s).store.images.get i =
      if s.store.checking = some i then checkedImage (s.store.images.get i) else s.store.images.get i := by
  unfold endCheck
  split
  · next j hj =>
    by_cases h : i = j
    · simp [hj, h]
    · simp [hj, h, Ne.symm h]
  · next hj => simp [hj]

@[simp] theorem endCheck_scan (s : State) :
    (endCheck s).store.write = s.store.write ∧ (endCheck s).store.scanPos = s.store.scanPos := by
  unfold endCheck
  split <;> simp

/-- The check at the scan position begins, and the position moves on (R48). -/
def beginCheck (s : State) : State :=
  s.setStore { s.store with checking := some s.store.scanPos, scanPos := s.store.scanPos.next }

/-- The state after a scan event: the check in progress ended, and the next one begun (R48). -/
def scanned (s : State) : State := beginCheck (endCheck (s.setDue { s.due with scan := false }))

@[simp] theorem scanned_frame (s : State) :
    (scanned s).time = s.time ∧ (scanned s).due = { s.due with scan := false } ∧ (scanned s).port = s.port ∧
    (scanned s).meas = s.meas ∧ (scanned s).prot = s.prot ∧ (scanned s).store.write = s.store.write ∧
    (scanned s).store.checking = some s.store.scanPos ∧ (scanned s).store.scanPos = s.store.scanPos.next := by
  simp [scanned, beginCheck]

theorem scanned_image (s : State) (i : ImageId) :
    (scanned s).store.images.get i =
      if s.store.checking = some i then checkedImage (s.store.images.get i) else s.store.images.get i :=
  endCheck_images (s.setDue { s.due with scan := false }) i

theorem scanned_line (s : State) : SameLine s (scanned s) := by simp [scanned, beginCheck, SameLine]

theorem scanned_of_checking {s : State} {i : ImageId} (h : s.store.checking = some i) :
    scanned s = beginCheck (checkImage (s.setDue { s.due with scan := false }) i) := by
  simp [scanned, endCheck, h]

theorem scanned_of_idle {s : State} (h : s.store.checking = none) :
    scanned s = beginCheck (s.setDue { s.due with scan := false }) := by
  simp [scanned, endCheck, h]

theorem execScanEvent_of_due {s : State} (h : s.due.scan = true) : exec .scanEvent s = .next (scanned s) :=
  congrArg Host.Outcome.next (if_pos h)

/-- Every image is checked once in a full pass, whatever the order (R51). -/
theorem foldl_checkImage_get (l : List ImageId) (s : State) (i : ImageId) :
    (l.foldl checkImage s).store.images.get i =
      if i ∈ l then checkedImage (s.store.images.get i) else s.store.images.get i := by
  induction l generalizing s with
  | nil => rfl
  | cons j rest ih =>
    rw [List.foldl_cons, ih, checkImage_images, ImageTable.get_set]
    by_cases hj : i = j
    · subst hj
      simp [checkedImage_idem]
    · simp [hj]

theorem foldl_checkImage_write (l : List ImageId) (s : State) : (l.foldl checkImage s).store.write = s.store.write := by
  induction l generalizing s with
  | nil => rfl
  | cons j rest ih => simp [ih]

theorem fullPass_image (s : State) (i : ImageId) :
    (fullPass s).store.images.get i = checkedImage (s.store.images.get i) := by
  simp [fullPass, foldl_checkImage_get, ImageId.mem_all]

theorem fullPass_scan (s : State) :
    (fullPass s).store.checking = none ∧ (fullPass s).store.scanPos = .plant ∧
      (fullPass s).store.write = s.store.write := by
  simp [fullPass, foldl_checkImage_write]

/-- Settles O18, by the check of one image: at a scan event that of the check in progress, in CHECK_IMAGES that of each. -/
theorem checksOfWorkingCopies : Obligations.ChecksOfWorkingCopies := by
  refine ⟨fun s hdue => ?_, fun c rest s h hp => ?_⟩
  · obtain ⟨htime, hmark, hport, hmeas, hprot, hwrite, hchecking, hpos⟩ := scanned_frame s
    refine ⟨scanned s, execScanEvent_of_due hdue, hmark, hchecking, hpos, hwrite, fun i hi => ?_, fun i hi => ?_,
      fun i hi hp hv hcrc => ?_, fun hnone => scanned_of_idle hnone, htime, hport, hmeas, hprot, scanned_line s⟩
    · rw [scanned_image, if_neg hi]
    · rw [scanned_image, if_pos hi, checkedImage_eq]
    · rw [scanned_of_checking hi]
      exact checkImage_integrity (s := s.setDue { s.due with scan := false }) hp hv hcrc
  · have hrun := runCommand_head (fun _ => ownCheckImages) h (by rw [hp]; rfl)
    obtain ⟨hchecking, hpos, hwrite⟩ := fullPass_scan (withCommands rest s)
    refine ⟨_, congrArg Host.Outcome.next hrun, hchecking, hpos, hwrite.trans rfl, fun i => ?_, ?_, ?_, ?_⟩
    · simp [ownCheckImages, fullPass_image, checkedImage_eq]
    · simp [Replied, ownCheckImages]
    · simp [SameClock, ownCheckImages]
    · simp [ownCheckImages]

/-! ## LOAD_IMAGE -/

theorem ownLoadImage_accepted {content : List Byte} {hi lo : Byte} {id : ImageId} {s : State}
    (hcrc : crc16 content = word16 hi lo) (hrange : rangeFailure content = none)
    (hcross : crossFailure s.store.images content = none) (hwrite : s.store.write = none)
    (hid : ImageId.ofKindIndex (u8 content 0) (u8 content 1) = some id) :
    ownLoadImage (content ++ [hi, lo]) s =
      (loadReply .accepted content none none, acceptImage id content (word16 hi lo) s) := by
  simp [ownLoadImage, hcrc, hrange, hcross, hwrite, hid]

/-- The first failing test gives the reply, and the state stays (R44). -/
theorem ownLoadImage_refused {content : List Byte} {hi lo : Byte} {r : Reply} {s : State}
    (h : (crc16 content ≠ word16 hi lo ∧ r = loadReply .badCheck content none none) ∨
      (crc16 content = word16 hi lo ∧ ∃ f, rangeFailure content = some f ∧
        r = loadReply .badArgument content (some f) none) ∨
      (crc16 content = word16 hi lo ∧ rangeFailure content = none ∧
        ∃ f k, crossFailure s.store.images content = some (f, k) ∧ r = loadReply .badArgument content (some f) k) ∨
      (crc16 content = word16 hi lo ∧ rangeFailure content = none ∧ crossFailure s.store.images content = none ∧
        s.store.write.isSome = true ∧ r = loadReply .busy content none none)) :
    ownLoadImage (content ++ [hi, lo]) s = (r, s) := by
  rcases h with ⟨hcrc, rfl⟩ | ⟨hcrc, f, hrange, rfl⟩ | ⟨hcrc, hrange, f, k, hcross, rfl⟩ |
    ⟨hcrc, hrange, hcross, hwrite, rfl⟩
  · simp [ownLoadImage, hcrc]
  · simp [ownLoadImage, hcrc, hrange]
  · simp [ownLoadImage, hcrc, hrange, hcross]
  · simp [ownLoadImage, hcrc, hrange, hcross, hwrite]

/-- The users of an accepted image leave the settings store as the load has made it (R45). -/
theorem acceptImage_store (id : ImageId) (content : List Byte) (crc : Word16) (s : State) :
    (acceptImage id content crc s).store =
      { s.store with
        images := s.store.images.set id (loadedImage id content crc (s.store.images.get id))
        write := some { image := id, content := content, crc := crc, started := s.time } } := by
  simp [acceptImage, replaceImage, updateImage]

/-- INTEGRITY is judged at the load, and its users leave it (R45, R50). -/
theorem acceptImage_integrity (id : ImageId) (content : List Byte) (crc : Word16) (s : State) :
    (acceptImage id content crc s).mon.recs.integrity.active = anyInvalid (acceptImage id content crc s).store.images :=
  usersAccept_owned (c := .integrity) id fun _ => judgeIntegrity_owned fun hc => absurd rfl hc

/-- Settles O19: an accepted load replaces its image and is handed to its users; a refused one only replies. -/
theorem loadImageIsJudged : Obligations.LoadImageIsJudged := by
  have hlength : ∀ content : List Byte, ∀ hi lo : Byte,
      payloadLengthOk .loadImage (content ++ [hi, lo]).length = true := by
    simp [payloadLengthOk]
  refine ⟨fun c rest content hi lo id s h hp hcrc hrange hcross hwrite hid => ?_,
    fun c rest content hi lo s h hp r hr => ?_⟩
  · have hrun := runCommand_head ownLoadImage h (by rw [hp]; exact hlength content hi lo)
    rw [hp, ownLoadImage_accepted hcrc hrange (by exact hcross) (by exact hwrite) hid] at hrun
    have hstore := acceptImage_store id content (word16 hi lo) (withCommands rest s)
    refine ⟨_, congrArg Host.Outcome.next hrun, ?_, fun j hj => ?_, ?_, ?_, ?_, ?_, ?_, ?_, ?_⟩
    · simp [hstore, loadedImage, revisionOf]
    · simp [hstore, hj]
    · simp [hstore]
    · simp [hstore]
    · simp [hstore]
    · exact acceptImage_integrity id content (word16 hi lo) (withCommands rest s)
    · simp [Replied, loadReply]
    · simp [SameClock]
    · simp
  · refine congrArg Host.Outcome.next (runCommand_of_reading h (by rw [hp]; exact hlength content hi lo) ?_)
    rw [hp]
    exact ownLoadImage_refused hr

end Sys2Proof.Machine

/-! PROOFS. The 1 ms event of the time base: what it marks as due (R48, R85, R115, R161), the scans of the contacts (R65,
R67), and the pacing of the timers (R83, R84, R90, R132, R145, R146, R163). -/

namespace Sys2Proof.Machine

/-! ## The contacts of the breaker interface -/

/-- What the breaker interface holds of its contacts: the two scans and the accepted states (Table 4.1). -/
def Breaker.contacts (b : Breaker) : Option (Bool × Bool) × BreakerPos × Option Bool × ReadyState :=
  (b.prevPos, b.accepted, b.prevReady, b.ready)

@[simp] theorem breakerHardChange_contacts (oh : List Cond) (s : State) :
    (breakerHardChange oh s).brk.contacts = s.brk.contacts := by
  unfold breakerHardChange
  split <;> simp [releaseClose, Breaker.contacts]

@[simp] theorem adoptRecords_contacts (t : CondTable CondRec) (s : State) :
    (adoptRecords t s).brk.contacts = s.brk.contacts := by
  unfold adoptRecords
  split <;> simp

@[simp] theorem ownerReport_contacts (c : Cond) (a : Bool) (s : State) :
    (ownerReport c a s).brk.contacts = s.brk.contacts := by
  unfold ownerReport
  split <;> simp

@[simp] theorem finishHunt_contacts (r : LastResult) (l : List StepRecord) (n : HuntState) (s : State) :
    (finishHunt r l n s).brk.contacts = s.brk.contacts := by
  simp [finishHunt]

@[simp] theorem huntAbort_contacts (k : AbortCause) (s : State) : (huntAbort k s).brk.contacts = s.brk.contacts := by
  unfold huntAbort
  dsimp only
  split <;> simp [endHunt]

@[simp] theorem huntBarArrival_contacts (b s : State) : (huntBarArrival b s).brk.contacts = s.brk.contacts := by
  unfold huntBarArrival
  split <;> simp

@[simp] theorem setCondition_contacts (c : Cond) (a : Bool) (s : State) :
    (setCondition c a s).brk.contacts = s.brk.contacts := by
  simp [setCondition]

@[simp] theorem beginSteps_contacts (u : Option Nat) (l : List HuntStep) (s : State) :
    (beginSteps u l s).brk.contacts = s.brk.contacts := by
  induction l generalizing s with
  | nil => simp [beginSteps, endHunt]
  | cons st rest ih =>
    unfold beginSteps
    dsimp only
    split
    · split
      · next hs =>
        have hf := sendHunt_frame hs
        simp [hf]
      · simp [ih]
    · simp [ih]

@[simp] theorem huntWindowClosed_contacts (s : State) : (huntWindowClosed s).brk.contacts = s.brk.contacts := by
  unfold huntWindowClosed startHuntNow huntNotStarted
  split
  · split <;> simp
  · rfl

@[simp] theorem endWindow_contacts (k : StartCause) (s : State) : (endWindow k s).brk.contacts = s.brk.contacts := by
  unfold endWindow
  split <;> simp

@[simp] theorem seqMove_contacts (r : Sequencer) (e : SeqEvent) (o : Option ChangeOrigin) (s : State) :
    (seqMove r e o s).brk.contacts = s.brk.contacts := by
  unfold seqMove
  split <;> simp

@[simp] theorem openJudgement_contacts (o : ChangeOrigin) (s : State) :
    (openJudgement o s).brk.contacts = s.brk.contacts := by
  unfold openJudgement
  split
  · simp
  · dsimp only
    split <;> simp

@[simp] theorem seqBreakerChange_contacts (n : BreakerPos) (o : ChangeOrigin) (s : State) :
    (seqBreakerChange n o s).brk.contacts = s.brk.contacts := by
  unfold seqBreakerChange initialChange laterChange externalClosing
  dsimp only
  repeat' split
  all_goals simp

@[simp] theorem seqClosedOk_contacts (s : State) : (seqClosedOk s).brk.contacts = s.brk.contacts := by
  unfold seqClosedOk
  split <;> simp

@[simp] theorem completeTrip_contacts (s : State) : (completeTrip s).brk.contacts = s.brk.contacts := by
  rw [completeTrip, setCondition_contacts]
  split <;> rfl

@[simp] theorem completeClose_contacts (s : State) : (completeClose s).brk.contacts = s.brk.contacts := by
  unfold completeClose
  split
  · exact seqClosedOk_contacts _
  · rfl

@[simp] theorem ownOutputs_contacts (n : BreakerPos) (s : State) : (ownOutputs n s).brk.contacts = s.brk.contacts := by
  cases n with
  | opened => exact completeTrip_contacts _
  | closed => exact completeClose_contacts s
  | none | travel | faulty => rfl

/-! ## The two scans -/

theorem acceptPosition_contacts (n : BreakerPos) (s : State) :
    (acceptPosition n s).brk.contacts = (s.brk.prevPos, n, s.brk.prevReady, s.brk.ready) := by
  have haccepted : (s.setBrk { s.brk with accepted := n }).brk.contacts =
      (s.brk.prevPos, n, s.brk.prevReady, s.brk.ready) := rfl
  rw [← haccepted]
  unfold acceptPosition
  dsimp only
  split <;> simp

/-- The position scan is remembered, and accepted when it repeats the one before (R65). -/
theorem scanPosition_contacts (a b : Bool) (s : State) :
    (scanPosition a b s).brk.contacts =
      (some (a, b), if s.brk.prevPos = some (a, b) then positionOf a b else s.brk.accepted, s.brk.prevReady,
        s.brk.ready) := by
  unfold scanPosition
  dsimp only
  split
  · next h => simp [acceptPosition_contacts, h.1]
  · next h =>
    by_cases hprev : s.brk.prevPos = some (a, b)
    · have haccepted : s.brk.accepted = positionOf a b := by simpa [hprev] using h
      simp [Breaker.contacts, hprev, haccepted]
    · simp [Breaker.contacts, hprev]

/-- The ready scan is remembered, and accepted when it repeats the one before (R67). -/
theorem scanReady_contacts (level : Bool) (s : State) :
    (scanReady level s).brk.contacts =
      (s.brk.prevPos, s.brk.accepted, some level,
        if s.brk.prevReady = some level then readyOf level else s.brk.ready) := by
  unfold scanReady
  dsimp only
  split
  · next h =>
    rw [setCondition_contacts, if_pos h.1]
    rfl
  · next h =>
    by_cases hprev : s.brk.prevReady = some level
    · have haccepted : s.brk.ready = readyOf level := by simpa [hprev] using h
      simp [Breaker.contacts, hprev, haccepted]
    · simp [Breaker.contacts, hprev]

/-- A scan that repeats the accepted state is remembered, and nothing else happens (R65, R67). -/
theorem scanPosition_repeated {a b : Bool} {s : State} (hprev : s.brk.prevPos = some (a, b))
    (hacc : s.brk.accepted = positionOf a b) : scanPosition a b s = s := by
  rw [scanPosition, if_neg (by simp [hacc]), ← hprev]
  rfl

theorem scanReady_repeated {level : Bool} {s : State} (hprev : s.brk.prevReady = some level)
    (hready : s.brk.ready = readyOf level) : scanReady level s = s := by
  rw [scanReady, if_neg (by simp [hready]), ← hprev]
  rfl

/-! ## The event -/

/-- The state in which a 1 ms event scans the contacts: the counter advanced, the marks set and the timers paced. -/
def ticked (s : State) : State := paceTimers (advanceTime s)

theorem execTimeBaseEvent_eq (a b ready : Bool) (s : State) :
    exec (.timeBaseEvent a b ready) s = .next (scanReady ready (scanPosition a b (ticked s))) := rfl

@[simp] theorem ticked_frame (s : State) :
    (ticked s).time = s.time + 1 ∧ (ticked s).due = dueAt (s.time + 1) s ∧ (ticked s).port = s.port ∧
    (ticked s).meas = s.meas ∧ (ticked s).store = s.store ∧ (ticked s).regime = s.regime ∧ (ticked s).brk = s.brk ∧
    (ticked s).host = s.host ∧ (ticked s).resetLow = s.resetLow ∧ (ticked s).freeIx = s.freeIx ∧
    (ticked s).pending = s.pending :=
  ⟨rfl, rfl, rfl, rfl, rfl, rfl, rfl, rfl, rfl, rfl, rfl⟩

/-- The contacts after both scans of a 1 ms event (R65, R67). -/
theorem scans_contacts (a b ready : Bool) (s : State) :
    (scanReady ready (scanPosition a b s)).brk.contacts =
      (some (a, b), if s.brk.prevPos = some (a, b) then positionOf a b else s.brk.accepted, some ready,
        if s.brk.prevReady = some ready then readyOf ready else s.brk.ready) := by
  have hposition := scanPosition_contacts a b s
  simp only [Breaker.contacts, Prod.mk.injEq] at hposition
  obtain ⟨hprev, hacc, hprevReady, hready⟩ := hposition
  rw [scanReady_contacts, hprev, hacc, hprevReady, hready]

/-- The mark of a maximum hold exceeded is set by a held event that has gone past it, and stands until the dead time is
left (R85). -/
theorem dueAt_holdOver (now : Time) (s : State) :
    (s.seq.state = .deadTime → s.seq.held = true →
      (dueAt now s).holdOver =
        if s.settings.maxHold < s.seq.holdUsed + 1 then some s.settings.maxHold else s.due.holdOver) ∧
    (s.seq.state = .deadTime → s.seq.held = false → (dueAt now s).holdOver = s.due.holdOver) ∧
    (s.seq.state ≠ .deadTime → (dueAt now s).holdOver = none) := by
  refine ⟨fun hs hh => ?_, fun hs hh => ?_, fun hs => ?_⟩ <;> simp [dueAt, *]

/-- The sequencer's timer that runs is paced, and the others stand (R83, R84, R90). -/
theorem paceSequencer_eq (r : Sequencer) :
    (r.state = .reclaim ∨ r.state = .deadTime ∧ r.held = false →
      paceSequencer r = { r with remaining := r.remaining.map fun n => n - 1 }) ∧
    (r.state = .deadTime → r.held = true → paceSequencer r = { r with holdUsed := r.holdUsed + 1 }) ∧
    (r.state ≠ .deadTime → r.state ≠ .reclaim → paceSequencer r = r) := by
  unfold paceSequencer
  cases r.state with
  | deadTime => cases hh : r.held <;> simp
  | reclaim | ready | opening | closing | lockout => simp

/-- Settles O5: the marks are those of `dueAt`, the contacts those of the two scans, the timers those of
`paceTimers`. -/
theorem timeBaseEventScansAndPaces : Obligations.TimeBaseEventScansAndPaces := by
  refine ⟨fun a b ready s => ?_, fun a b ready s hprev hacc hprevReady hready => ?_⟩
  · have hcontacts := scans_contacts a b ready (ticked s)
    have hdue : (scanReady ready (scanPosition a b (ticked s))).due = dueAt (s.time + 1) s := by simp
    simp only [Breaker.contacts, Prod.mk.injEq, ticked_frame] at hcontacts
    obtain ⟨hprev, hacc, hprevReady, hready⟩ := hcontacts
    obtain ⟨hheld, hunheld, hleft⟩ := dueAt_holdOver (s.time + 1) s
    rw [← hdue] at hheld hunheld hleft
    refine ⟨_, execTimeBaseEvent_eq a b ready s, ?_, ?_, ?_, ?_, hheld, hunheld, hleft, hprev, hprevReady, hacc, hready,
      ?_, ?_, ?_, ?_, ?_, ?_, ?_⟩
    · simp
    · simp [dueAt]
    · simp [dueAt]
    · simp [dueAt]
    · simp
    · simp
    · simp [SameSettings]
    · simp [SameLine]
    · simp
    · simp
    · simp
  · obtain ⟨hrunning, hheld, hother⟩ := paceSequencer_eq s.seq
    refine ⟨paceSequencer s.seq, ?_, hrunning, hheld, hother⟩
    rw [execTimeBaseEvent_eq, scanPosition_repeated (by simpa using hprev) (by simpa using hacc),
      scanReady_repeated (by simpa using hprevReady) (by simpa using hready)]
    rfl

end Sys2Proof.Machine

/-! PROOFS. The end of a dead time (R71, R83, R99): the automatic close, and the two lockouts. -/

namespace Sys2Proof.Machine

/-- A change of state moves the sequencer's record and adds a SEQUENCE report to the queue, nothing else (R99). -/
theorem seqTo_of_change {r : Sequencer} {s : State} (h : r.state ≠ s.seq.state) (e : SeqEvent)
    (o : Option ChangeOrigin) :
    seqTo r e o s =
      { s with
        seq := r
        host := (addReport (.sequence (sequenceReport s.seq.state e o (s.setSeq r))) s).host } := by
  rw [seqTo, if_neg h, addReport_eq (s := s) (by rfl) (by rfl)]
  rfl

/-- The close guards do not read what a move of the sequencer changes (R71). -/
@[simp] theorem closeJudgement_seqTo (r : Sequencer) (e : SeqEvent) (o : Option ChangeOrigin) (s : State) :
    closeJudgement (seqTo r e o s) = closeJudgement s := by
  simp [closeJudgement]

theorem closeJudgement_of_passed {s : State} (htrip : s.brk.tripOut = false) (hhard : s.mon.hard = [])
    (hacc : s.brk.accepted = .opened) (hclose : s.brk.closeOut = false) : closeJudgement s = none := by
  simp [closeJudgement, htrip, hhard, hacc, hclose]

theorem closeJudgement_of_hard {s : State} {c : Cond} {rest : List Cond} (htrip : s.brk.tripOut = false)
    (hhard : s.mon.hard = c :: rest) : closeJudgement s = some .hardBlock := by
  simp [closeJudgement, htrip, hhard]

section
variable {s : State} (hstate : s.seq.state = .deadTime)
include hstate

theorem deadTimerExpiry_of_run_out (hheld : s.seq.held = false) (hzero : s.seq.remaining = some 0) :
    exec .deadTimerExpiry s = .next (deadTimeEnds s) :=
  congrArg Host.Outcome.next (if_pos (by simp [deadTimerDue, hstate, hheld, hzero]))

theorem deadTimeEnds_of_no_shot (h : s.settings.shotLimit ≤ s.seq.shots) :
    deadTimeEnds s = seqTo (enterLockout (.shotsUsed s.seq.shots s.settings.shotLimit) s.seq) .expiry none s := by
  rw [deadTimeEnds, if_pos h, seqMove_of_not_ready (by simp [hstate])]

theorem deadTimeEnds_of_passed (h : s.seq.shots < s.settings.shotLimit) (hj : closeJudgement s = none) :
    deadTimeEnds s = assertClose .automatic (seqTo (enterAutoClosing s.seq) .expiry none s) := by
  simp [deadTimeEnds, h, seqMove_of_not_ready (s := s), hstate, hj, closeRequest]

/-- A refused automatic close passes through CLOSING to LOCKOUT (R83). -/
theorem deadTimeEnds_of_refused {r : CloseRefusal} (h : s.seq.shots < s.settings.shotLimit)
    (hj : closeJudgement s = some r) :
    (deadTimeEnds s).seq = enterLockout (refusedCloseCause s r) (enterAutoClosing s.seq) ∧
      (deadTimeEnds s).brk = s.brk := by
  have hclosing : (seqTo (enterAutoClosing s.seq) .expiry none s).seq.state ≠ .ready := by
    simp [seqTo_seq, enterAutoClosing]
  have hcause : refusedCloseCause (seqTo (enterAutoClosing s.seq) .expiry none s) r = refusedCloseCause s r := by
    simp [refusedCloseCause]
  rw [deadTimeEnds, if_neg (Nat.not_le.mpr h)]
  simp [seqMove_of_not_ready (s := s), hstate, hj, seqMove_of_not_ready hclosing, hcause, seqTo_seq]

end

/-- Settles O14: the expiry is judged by the shots left, then by the guards of the close request. The
obligation's own name is that of the model's function. -/
theorem deadTimeEnds_closesOrLocksOut : Obligations.DeadTimeEnds := by
  refine ⟨fun s hstate hheld hzero hshots htrip hhard hacc hclose => ⟨_, _, rfl, rfl, ?_⟩,
    fun s hstate hheld hzero => ⟨fun hshots => ?_, fun c rest hshots htrip hhard => ?_⟩⟩
  · have hchange : (enterAutoClosing s.seq).state ≠ s.seq.state := by simp [enterAutoClosing, hstate]
    rw [deadTimerExpiry_of_run_out hstate hheld hzero,
      deadTimeEnds_of_passed hstate hshots (closeJudgement_of_passed htrip hhard hacc hclose), seqTo_of_change hchange,
      hstate, sequenceReport, State.setSeq_brk, hacc]
    rfl
  · refine ⟨_, deadTimerExpiry_of_run_out hstate hheld hzero, ?_⟩
    simp [deadTimeEnds_of_no_shot hstate hshots, seqTo_seq, enterLockout]
  · obtain ⟨hseq, hbrk⟩ := deadTimeEnds_of_refused hstate hshots (closeJudgement_of_hard htrip hhard)
    refine ⟨_, deadTimerExpiry_of_run_out hstate hheld hzero, ?_, ?_, hbrk⟩
    · rw [hseq]
      rfl
    · rw [hseq]
      simp [enterLockout, refusedCloseCause, hhard, lowest]

end Sys2Proof.Machine

/-! PROOFS. The manual operations: TRIP (R68, R95, R165). -/

namespace Sys2Proof.Machine

/-- A move into a state that no condition acts on leaves the record as given, and with CLOSE_OUT released the breaker
interface as it was, whatever the end of a window brings about (R84 to R86, R89, R165). -/
theorem seqMove_settled {r : Sequencer} {s : State} (hdead : r.state ≠ .deadTime) (hclosing : r.state ≠ .closing)
    (hout : s.brk.closeOut = false) (e : SeqEvent) (o : Option ChangeOrigin) :
    (seqMove r e o s).seq = r ∧ (seqMove r e o s).brk = s.brk := by
  have hseq : (seqTo r e o s).seq = r := seqTo_seq _ _ _ _
  unfold seqMove
  split
  · rw [endWindow_seq _ (by rwa [hseq]) (by rwa [hseq]), endWindow_brk _ (by simpa using hout)]
    exact ⟨hseq, by simp⟩
  · exact ⟨hseq, by simp⟩

/-- A departure from READY leaves no start window open (R165). -/
theorem seqMove_from_ready {r : Sequencer} {s : State} (h : s.seq.state = .ready) (hr : r.state ≠ .ready)
    (e : SeqEvent) (o : Option ChangeOrigin) : (seqMove r e o s).adm.window = none := by
  rw [seqMove, if_pos ⟨h, hr⟩, endWindow_window]

theorem withdrawClose_closeOut (s : State) : (withdrawClose s).brk.closeOut = false := by
  unfold withdrawClose
  split
  · simp
  · next h => exact Bool.eq_false_iff.mpr h

theorem tripJudgement_of_asserted {b : Breaker} (hacc : b.accepted ≠ .opened) (hout : b.tripOut = false) :
    tripJudgement b = .asserted := by
  simp [tripJudgement, hacc, hout]

/-- TRIP_OUT asserted with its memo and timer, and CLOSE_OUT released (R68, R73). -/
theorem tripRequest_asserts (o : TripOrigin) {s : State} (hacc : s.brk.accepted ≠ .opened)
    (hout : s.brk.tripOut = false) :
    (tripRequest o s).brk.tripOut = true ∧ (tripRequest o s).brk.closeOut = false ∧
      (tripRequest o s).brk.tripMemo = some { origin := o, time := s.time } ∧
      (tripRequest o s).brk.tripTimer = some s.plant.tripTimeout := by
  rw [tripRequest, if_pos (tripJudgement_of_asserted hacc hout)]
  exact ⟨rfl, withdrawClose_closeOut s, rfl, rfl⟩

/-- OPENING is entered alike from the record before a trip request and after it: the withdrawal note of CLOSING is all
that the request moves, and it goes with that state (R73, R95). -/
theorem enterOpening_after_tripRequest (trip : LastTrip) (o : TripOrigin) (s : State) :
    enterOpening trip (tripRequest o s).seq = enterOpening trip s.seq ∧
      (tripRequest o s).seq.state = s.seq.state := by
  obtain ⟨-, h | ⟨-, h⟩⟩ := tripRequest_keeps o s
  · rw [h]
    exact ⟨rfl, rfl⟩
  · rw [h]
    exact ⟨rfl, rfl⟩

section
variable {s : State} (hacc : s.brk.accepted ≠ .opened)
  (hstate : s.seq.state = .ready ∨ s.seq.state = .closing ∨ s.seq.state = .reclaim)
include hacc hstate

/-- TRIP in READY, CLOSING and RECLAIM moves the sequencer to OPENING after the request (R95). -/
theorem ownTrip_move :
    (ownTrip s).2 = seqMove (enterOpening (manualRecord s) s.seq) .manualTrip none (tripRequest .manual s) := by
  obtain ⟨hacc', -⟩ := tripRequest_keeps .manual s
  obtain ⟨hopening, hstate'⟩ := enterOpening_after_tripRequest (manualRecord s) .manual s
  have hclosed : tripFromClosed (manualRecord s) (tripRequest .manual s) =
      seqMove (enterOpening (manualRecord s) s.seq) .manualTrip none (tripRequest .manual s) := by
    rw [tripFromClosed, if_neg (by rwa [hacc']), hopening]
    rfl
  rcases hstate with h | h | h <;> simp [ownTrip, seqTrip, hstate', h, hclosed]

theorem ownTrip_of_asserted (hout : s.brk.tripOut = false) :
    (ownTrip s).1 = okReply (.tripResult .asserted .opening) ∧
      (ownTrip s).2.seq = enterOpening (manualRecord s) s.seq ∧ (ownTrip s).2.brk = (tripRequest .manual s).brk ∧
      (s.seq.state = .ready → (ownTrip s).2.adm.window = none) := by
  obtain ⟨-, hclose, -, -⟩ := tripRequest_asserts .manual hacc hout
  obtain ⟨-, hstate'⟩ := enterOpening_after_tripRequest (manualRecord s) .manual s
  have hmove := ownTrip_move hacc hstate
  obtain ⟨hseq, hbrk⟩ := seqMove_settled (r := enterOpening (manualRecord s) s.seq) (by simp [enterOpening])
    (by simp [enterOpening]) hclose .manualTrip none
  rw [← hmove] at hseq hbrk
  refine ⟨?_, hseq, hbrk, fun hready => ?_⟩
  · have hreply : (ownTrip s).1 = okReply (.tripResult (tripJudgement s.brk) (ownTrip s).2.seq.state) := rfl
    rw [hreply, hseq, tripJudgement_of_asserted hacc hout]
    rfl
  · rw [hmove]
    exact seqMove_from_ready (hstate'.trans hready) (by simp [enterOpening]) _ _

end

theorem ownTrip_frame (s : State) :
    SameClock s (ownTrip s).2 ∧ SameLine s (ownTrip s).2 ∧ (ownTrip s).2.prot = s.prot := by
  simp [SameClock, SameLine, ownTrip]

/-- An owner that keeps the line leaves the head command gone and its place filled (R170). -/
theorem replied_of_line {rest : List Command} {s u : State} (h : SameLine (withCommands rest s) u) (r : Reply) :
    Replied r rest s (fillReply r none u) := by
  obtain ⟨-, -, -, hcommands, hreplies, -⟩ := h
  exact ⟨hcommands, congrArg (fillFirst r none) hreplies⟩

/-- Settles O42: the owner asserts TRIP_OUT and moves the sequencer, on the state without the command. -/
theorem tripCommandOpens : Obligations.TripCommandOpens := by
  intro c rest s hhead hpayload hacc hout hstate
  have hrun := runCommand_head (fun _ => ownTrip) hhead (by rw [hpayload]; rfl)
  obtain ⟨hreply, hseq, hbrk, hwindow⟩ := ownTrip_of_asserted (s := withCommands rest s) hacc hstate hout
  obtain ⟨htrip, hclose, hmemo, htimer⟩ := tripRequest_asserts .manual (s := withCommands rest s) hacc hout
  obtain ⟨hacc', -⟩ := tripRequest_keeps .manual (withCommands rest s)
  obtain ⟨hclock, hline, hprot⟩ := ownTrip_frame (withCommands rest s)
  rw [← hbrk] at htrip hclose hmemo htimer hacc'
  rw [hreply] at hrun
  refine ⟨_, congrArg Host.Outcome.next hrun, htrip, hclose, hmemo, htimer, hacc', ?_, ?_, ?_, ?_, ?_, ?_, hwindow,
    replied_of_line hline _, hclock, ownTrip_sameSettings _, hprot⟩
  all_goals exact (congrArg _ hseq).trans rfl

end Sys2Proof.Machine

/-! PROOFS. RESET_LOCKOUT: the fall of CLOSE_FAIL (R74, R103, R106), and the judgement of the sequencer (R97). -/

namespace Sys2Proof.Machine

/-! ## The fall of a condition -/

/-- The records after the report that a condition is not active (R102). -/
abbrev fallen (d : Cond) (t : CondTable CondRec) : CondTable CondRec := t.set d ((t.get d).setActive false)

theorem fallen_actions (d c : Cond) (t : CondTable CondRec) : ((fallen d t).get c).actions = (t.get c).actions := by
  rw [CondTable.get_set]
  split
  · next h => rw [h, CondRec.setActive_actions]
  · rfl

theorem inForce_of_fallen {d c : Cond} {t : CondTable CondRec} (h : ((fallen d t).get c).inForce = true) :
    (t.get c).inForce = true := by
  rw [CondTable.get_set] at h
  split at h
  · next hc => exact hc ▸ inForce_of_fall h
  · exact h

/-- A fall brings no hold reason (R84, R106). -/
theorem not_arrives_hold_of_fall (d : Cond) (t : CondTable CondRec) :
    ¬ arrives (holdOf t) (holdOf (fallen d t)) = true := by
  rw [arrives_iff]
  rintro ⟨c, hnew, hold⟩
  simp only [holdOf, List.mem_filter, Cond.mem_all, true_and, Bool.and_eq_true, fallen_actions] at hnew hold
  obtain ⟨hforce, hblock⟩ := hnew
  exact hold ⟨inForce_of_fallen hforce, hblock⟩

/-- A fall raises no hunt bar (R108). -/
theorem huntBarOf_of_fallen {d : Cond} {t : CondTable CondRec} (h : huntBarOf (fallen d t) = true) :
    huntBarOf t = true := by
  simp only [huntBarOf, huntBarsOf, Bool.not_eq_true', List.isEmpty_eq_false_iff_exists_mem, List.mem_filter,
    Bool.and_eq_true, fallen_actions] at h ⊢
  obtain ⟨c, hc, hforce, hbar⟩ := h
  exact ⟨c, hc, inForce_of_fallen hforce, hbar⟩

/-- In LIVE mode a condition that falls leaves the hard reasons (R103, R106). -/
theorem hardOf_fallen_of_live {d : Cond} {t : CondTable CondRec} (h : (t.get d).mode = .live) :
    hardOf (fallen d t) = (hardOf t).filter fun c => c != d := by
  have hout : ((t.get d).setActive false).inForce = false := by simp [CondRec.inForce, h]
  rw [hardOf, hardOf, List.filter_filter]
  refine List.filter_congr fun c _ => ?_
  rw [fallen_actions, CondTable.get_set]
  by_cases hc : c = d <;> simp [hc, hout]

/-- In STICKY mode the latch keeps a condition that falls in force (R103). -/
theorem inForce_fallen_of_latched {d : Cond} {t : CondTable CondRec} (hmode : (t.get d).mode = .sticky)
    (hlatched : (t.get d).latched = true) (c : Cond) : ((fallen d t).get c).inForce = (t.get c).inForce := by
  rw [CondTable.get_set]
  split
  · next hc => simp [hc, CondRec.inForce, CondRec.setActive, hmode, hlatched]
  · rfl

theorem blockSet_fallen_of_latched {d : Cond} {t : CondTable CondRec} (hmode : (t.get d).mode = .sticky)
    (hlatched : (t.get d).latched = true) : hardOf (fallen d t) = hardOf t ∧ holdOf (fallen d t) = holdOf t := by
  simp only [hardOf, holdOf, fallen_actions, inForce_fallen_of_latched hmode hlatched, and_self]

/-! ## The report of a fall -/

theorem blockSet_of_consistent {s : State} (hm : MonitorConsistent s) :
    s.mon.hard = hardOf s.mon.recs ∧ s.mon.hold = holdOf s.mon.recs :=
  ⟨congrArg Monitor.hard hm, congrArg Monitor.hold hm⟩

/-- Without an arrival a change of the block set moves no state of the sequencer (R84 to R86, R89). -/
theorem seqBlockChange_state_of_no_arrival {oh oo : List Cond} {s : State} (hhard : ¬ arrives oh s.mon.hard = true)
    (hhold : ¬ arrives oo s.mon.hold = true) : (seqBlockChange oh oo s).seq.state = s.seq.state := by
  unfold seqBlockChange
  split
  · rw [if_neg hhard, if_neg hhold]
    split <;> rfl
  · rw [if_neg hhard]
  all_goals rfl

section
variable {s : State} (hm : MonitorConsistent s) (d : Cond)
include hm

/-- The report of a fall moves no state of the sequencer (R84 to R86, R89). -/
theorem ownerReport_fall_seqState : (ownerReport d false s).seq.state = s.seq.state := by
  obtain ⟨hset, hset'⟩ := blockSet_of_consistent hm
  have hhard : ¬ arrives s.mon.hard (hardOf (fallen d s.mon.recs)) = true := hset ▸ not_arrives_of_fall s.mon.recs d
  have hhold : ¬ arrives s.mon.hold (holdOf (fallen d s.mon.recs)) = true :=
    hset' ▸ not_arrives_hold_of_fall d s.mon.recs
  unfold ownerReport
  split
  · rfl
  · simp only [reportCondition, addReport_frame, adoptRecords]
    split
    · rfl
    · rw [breakerHardChange_of_no_arrival (by exact hhard),
        seqBlockChange_state_of_no_arrival (by exact hhard) (by exact hhold)]
      rfl

/-- The fall of a condition hands nothing on to the hunt controller (R108). -/
theorem setCondition_fall : setCondition d false s = ownerReport d false s := by
  have hbar : s.mon.huntBar = huntBarOf s.mon.recs := congrArg Monitor.huntBar hm
  refine if_neg fun h => ?_
  simp only [Bool.and_eq_true, Bool.not_eq_true', ownerReport_mon] at h
  obtain ⟨hbefore, hafter⟩ := h
  split at hafter
  · simp [hbefore] at hafter
  · have hraised : huntBarOf s.mon.recs = true := huntBarOf_of_fallen hafter
    simp [← hbar, hbefore] at hraised

theorem setCondition_fall_seqState : (setCondition d false s).seq.state = s.seq.state := by
  rw [setCondition_fall hm, ownerReport_fall_seqState hm]

theorem setCondition_fall_mon (h : (s.mon.recs.get d).active = true) :
    (setCondition d false s).mon = monitorOf (fallen d s.mon.recs) := by
  rw [setCondition_fall hm, ownerReport_mon, if_neg (by simp [h])]

end

/-! ## The judgement of RESET_LOCKOUT -/

theorem judgeReset_of_not_lockout {s : State} (h : s.seq.state ≠ .lockout) :
    judgeReset s = (refusedFor .notInLockout (.lockoutReset s.seq.state s.mon.hard), s) :=
  if_pos h

section
variable {s : State} (h : s.seq.state = .lockout)
include h

theorem judgeReset_of_no_position (hpos : s.seq.posAwaited = true) :
    judgeReset s = (refusedFor .noPosition (.lockoutReset .lockout s.mon.hard), s) := by
  simp [judgeReset, resetContent, h, hpos]

theorem judgeReset_of_hard {x : Cond} {l : List Cond} (hpos : s.seq.posAwaited = false) (hhard : s.mon.hard = x :: l) :
    judgeReset s = (refusedBy .hardBlock x (.lockoutReset .lockout s.mon.hard), s) := by
  simp [judgeReset, resetContent, h, hpos, hhard, lowest]

theorem judgeReset_of_clear (hpos : s.seq.posAwaited = false) (hhard : s.mon.hard = []) :
    judgeReset s = (okReply (.lockoutReset .ready []), seqTo (enterReady s.seq) .resetLockout none s) := by
  have hmove := seqMove_of_not_ready (s := s) (by simp [h]) (enterReady s.seq) .resetLockout none
  rw [judgeReset, if_neg (not_not.mpr h), if_neg (by simp [hpos]), if_neg (by simp [hhard]), hmove]
  simp [resetContent, seqTo_seq, enterReady, hhard]

end

/-- The judgement leaves the state as it is, or moves the sequencer from LOCKOUT to READY (R97). -/
theorem judgeReset_state (s : State) :
    (judgeReset s).2 = s ∨ (judgeReset s).2 = seqTo (enterReady s.seq) .resetLockout none s := by
  by_cases hstate : s.seq.state = .lockout
  · cases hpos : s.seq.posAwaited with
    | true => exact .inl (by rw [judgeReset_of_no_position hstate hpos])
    | false =>
      cases hhard : s.mon.hard with
      | nil => exact .inr (by rw [judgeReset_of_clear hstate hpos hhard])
      | cons x l => exact .inl (by rw [judgeReset_of_hard hstate hpos hhard])
  · exact .inl (by rw [judgeReset_of_not_lockout hstate])

theorem ownResetLockout_moves (s : State) :
    OnlySequencerMoved (setCondition .closeFail false s) (ownResetLockout s).2 := by
  unfold ownResetLockout
  rcases judgeReset_state (setCondition .closeFail false s) with h | h <;> simp [h]

theorem ownResetLockout_mon (s : State) : (ownResetLockout s).2.mon = (setCondition .closeFail false s).mon := by
  obtain ⟨-, hmon, -⟩ := ownResetLockout_moves s
  exact hmon

theorem ownResetLockout_frame (s : State) :
    SameClock s (ownResetLockout s).2 ∧ SameLine s (ownResetLockout s).2 ∧ (ownResetLockout s).2.prot = s.prot ∧
      (ownResetLockout s).2.adm = s.adm := by
  unfold ownResetLockout
  rcases judgeReset_state (setCondition .closeFail false s) with h | h <;> simp [h, SameClock, SameLine]

/-! ## RESET_LOCKOUT by the hard reasons that the fall of CLOSE_FAIL leaves -/

section
variable {s : State}

theorem ownResetLockout_hard_of_live (hm : MonitorConsistent s) (hfail : s.mon.recs.closeFail.active = true)
    (hmode : s.mon.recs.closeFail.mode = .live) :
    (ownResetLockout s).2.mon.hard = s.mon.hard.filter fun d => d != .closeFail := by
  obtain ⟨hset, -⟩ := blockSet_of_consistent hm
  rw [ownResetLockout_mon, setCondition_fall_mon hm .closeFail hfail, hset]
  exact hardOf_fallen_of_live hmode

theorem ownResetLockout_blockSet_of_latched (hm : MonitorConsistent s) (hfail : s.mon.recs.closeFail.active = true)
    (hmode : s.mon.recs.closeFail.mode = .sticky) (hlatched : s.mon.recs.closeFail.latched = true) :
    (ownResetLockout s).2.mon.hard = s.mon.hard ∧ (ownResetLockout s).2.mon.hold = s.mon.hold := by
  obtain ⟨hset, hset'⟩ := blockSet_of_consistent hm
  rw [ownResetLockout_mon, setCondition_fall_mon hm .closeFail hfail, hset, hset']
  exact blockSet_fallen_of_latched (d := .closeFail) hmode hlatched

/-- LOCKOUT takes no note of the fall of CLOSE_FAIL (R84 to R86, R89). -/
theorem closeFail_fall_seq (h : s.seq.state = .lockout) : (setCondition .closeFail false s).seq = s.seq :=
  setCondition_seq _ _ (by simp [h]) (by simp [h])

variable {left : List Cond} (hleft : (ownResetLockout s).2.mon.hard = left)
include hleft

theorem ownResetLockout_of_not_lockout (h : s.seq.state ≠ .lockout)
    (hkept : (setCondition .closeFail false s).seq.state = s.seq.state) :
    (ownResetLockout s).2.seq = (setCondition .closeFail false s).seq ∧
      (ownResetLockout s).1 = refusedFor .notInLockout (.lockoutReset s.seq.state left) := by
  rw [ownResetLockout_mon] at hleft
  rw [ownResetLockout, judgeReset_of_not_lockout (by rwa [hkept]), hkept, hleft]
  exact ⟨rfl, rfl⟩

variable (h : s.seq.state = .lockout)
include h

theorem ownResetLockout_of_no_position (hpos : s.seq.posAwaited = true) :
    (ownResetLockout s).2.seq = s.seq ∧
      (ownResetLockout s).1 = refusedFor .noPosition (.lockoutReset .lockout left) := by
  have hseq := closeFail_fall_seq h
  rw [ownResetLockout_mon] at hleft
  rw [ownResetLockout, judgeReset_of_no_position (by rw [hseq, h]) (by rw [hseq, hpos]), hleft]
  exact ⟨hseq, rfl⟩

theorem ownResetLockout_of_hard {x : Cond} {l : List Cond} (hpos : s.seq.posAwaited = false) (hhard : left = x :: l) :
    (ownResetLockout s).2.seq = s.seq ∧
      (ownResetLockout s).1 = refusedBy .hardBlock x (.lockoutReset .lockout left) := by
  have hseq := closeFail_fall_seq h
  rw [ownResetLockout_mon] at hleft
  rw [ownResetLockout, judgeReset_of_hard (by rw [hseq, h]) (by rw [hseq, hpos]) (hleft.trans hhard), hleft]
  exact ⟨hseq, rfl⟩

theorem ownResetLockout_of_clear (hpos : s.seq.posAwaited = false) (hhard : left = []) :
    (ownResetLockout s).2.seq = enterReady s.seq ∧ (ownResetLockout s).1 = okReply (.lockoutReset .ready []) := by
  have hseq := closeFail_fall_seq h
  rw [ownResetLockout_mon] at hleft
  rw [ownResetLockout, judgeReset_of_clear (by rw [hseq, h]) (by rw [hseq, hpos]) (hleft.trans hhard), hseq]
  exact ⟨seqTo_seq _ _ _ _, rfl⟩

end

/-- The state after RESET_LOCKOUT: the owner's answer, and its reply in the command's place (R170). -/
def resetDone (rest : List Command) (s : State) : State :=
  fillReply (ownResetLockout (withCommands rest s)).1 none (ownResetLockout (withCommands rest s)).2

theorem exec_resetLockout_head {c : Command} {rest : List Command} {s : State} (h : HeadIs .resetLockout c rest s)
    (hpayload : c.payload = []) : exec .resetLockout s = .next (resetDone rest s) :=
  congrArg Host.Outcome.next (runCommand_head (fun _ => ownResetLockout) h (by rw [hpayload]; rfl))

theorem resetDone_answer {rest : List Command} {s : State} {q : Sequencer} {r : Reply}
    (h : (ownResetLockout (withCommands rest s)).2.seq = q ∧ (ownResetLockout (withCommands rest s)).1 = r) :
    (resetDone rest s).seq = q ∧ Replied r rest s (resetDone rest s) := by
  obtain ⟨hseq, rfl⟩ := h
  obtain ⟨-, hline, -⟩ := ownResetLockout_frame (withCommands rest s)
  exact ⟨hseq, replied_of_line hline _⟩

theorem resetDone_closeFail (rest : List Command) (s : State) :
    (resetDone rest s).mon.recs.closeFail.active = false := by
  have hfell := setCondition_active (c := .closeFail) (by decide) false (withCommands rest s)
  rw [← ownResetLockout_mon] at hfell
  exact hfell

/-- With CLOSE_FAIL not active the report of its fall changes nothing (R102). -/
theorem resetDone_of_not_failed {s : State} (hfail : s.mon.recs.closeFail.active = false) (rest : List Command) :
    (resetDone rest s).brk = s.brk ∧ (resetDone rest s).mon = s.mon ∧ (resetDone rest s).hunt = s.hunt ∧
      (resetDone rest s).pilot = s.pilot := by
  have hsame : setCondition .closeFail false (withCommands rest s) = withCommands rest s :=
    setCondition_same (c := .closeFail) hfail
  obtain ⟨hbrk, hmon, hhunt, -, hpilot⟩ := ownResetLockout_moves (withCommands rest s)
  rw [hsame] at hbrk hmon hhunt hpilot
  exact ⟨hbrk, hmon, hhunt, hpilot⟩

/-- Settles O44: CLOSE_FAIL falls first, then the sequencer judges the hard reasons that are left. -/
theorem resetLockoutIsJudged : Obligations.ResetLockoutIsJudged := by
  intro c rest s hhead hpayload
  obtain ⟨hclock, -, hprot, hadm⟩ := ownResetLockout_frame (withCommands rest s)
  have hsame (hfail : s.mon.recs.closeFail.active = false) :
      (ownResetLockout (withCommands rest s)).2.mon.hard = s.mon.hard := by
    obtain ⟨-, hmon, -⟩ := resetDone_of_not_failed hfail rest
    exact congrArg Monitor.hard hmon
  refine ⟨resetDone rest s, exec_resetLockout_head hhead hpayload, resetDone_closeFail rest s, hclock,
    ownResetLockout_sameSettings _, hprot, hadm, fun hfail => resetDone_of_not_failed hfail rest,
    fun hfail hstate hpos hhard => resetDone_answer (ownResetLockout_of_clear (hsame hfail) hstate hpos hhard),
    fun hfail hstate => ?_,
    fun hfail hstate hpos => resetDone_answer (ownResetLockout_of_no_position (hsame hfail) hstate hpos),
    fun x l hfail hstate hpos hhard => resetDone_answer (ownResetLockout_of_hard (hsame hfail) hstate hpos hhard),
    fun hfail hm => ⟨ownResetLockout_hard_of_live (s := withCommands rest s) hm hfail,
      ownResetLockout_blockSet_of_latched (s := withCommands rest s) hm hfail,
      fun hstate hpos hhard =>
        resetDone_answer (ownResetLockout_of_clear (s := withCommands rest s) rfl hstate hpos hhard),
      fun x l hstate hpos hhard =>
        resetDone_answer (ownResetLockout_of_hard (s := withCommands rest s) rfl hstate hpos hhard),
      fun hstate hpos =>
        resetDone_answer (ownResetLockout_of_no_position (s := withCommands rest s) rfl hstate hpos),
      fun hstate => ?_⟩⟩
  · have hfall : setCondition .closeFail false (withCommands rest s) = withCommands rest s :=
      setCondition_same (c := .closeFail) hfail
    obtain ⟨hseq, hreply⟩ := resetDone_answer
      (ownResetLockout_of_not_lockout (hsame hfail) hstate (congrArg (fun u : State => u.seq.state) hfall))
    rw [hfall] at hseq
    exact ⟨hseq, hreply⟩
  · have hkept := setCondition_fall_seqState (s := withCommands rest s) hm .closeFail
    obtain ⟨hseq, hreply⟩ :=
      resetDone_answer (ownResetLockout_of_not_lockout (s := withCommands rest s) rfl hstate hkept)
    exact ⟨(congrArg Sequencer.state hseq).trans hkept, hreply⟩

end Sys2Proof.Machine

/-! PROOFS. The ends of a hold and of a reclaim (R85, R90, R98, R99), and the judgement of OPEN in OPENING (R81, R84, R85),
by itself and at the 1 ms event whose scan accepts it (R65, R66, R78). -/

namespace Sys2Proof.Machine

/-! ## The end of a hold and of a reclaim -/

/-- A change of state from outside READY moves the record and adds its SEQUENCE report, and ends no window (R99). -/
theorem seqMove_of_change {r : Sequencer} {s : State} (hready : s.seq.state ≠ .ready) (h : r.state ≠ s.seq.state)
    (e : SeqEvent) (o : Option ChangeOrigin) :
    seqMove r e o s =
      { s with
        seq := r
        host := (addReport (.sequence (sequenceReport s.seq.state e o (s.setSeq r))) s).host } := by
  rw [seqMove_of_not_ready hready, seqTo_of_change h]

/-- Settles O15: both ends are changes of state from outside READY. -/
theorem holdAndReclaimEnd : Obligations.HoldAndReclaimEnd := by
  refine ⟨fun s hmark => ?_, fun s m hstate hmark => ⟨_, _, rfl, rfl, ?_⟩, fun s hstate hzero => ⟨_, rfl, ?_⟩⟩
  · exact congrArg Host.Outcome.next (if_neg (by simp [holdDue, hmark]))
  · have hdue : holdDue s = true := by simp [holdDue, hstate, hmark]
    refine congrArg Host.Outcome.next ((if_pos hdue).trans ?_)
    rw [seqMove_of_change (by simp [hstate]) (by simp [enterLockout, hstate]), hstate, hmark]
    rfl
  · have hdue : reclaimDue s = true := by simp [reclaimDue, hstate, hzero]
    refine congrArg Host.Outcome.next ((if_pos hdue).trans ?_)
    rw [seqMove_of_change (by simp [hstate]) (by simp [enterReady, hstate]), hstate]
    rfl

/-! ## The judgement of OPEN -/

section
variable {s : State} {trip : LastTrip} (hlast : s.seq.lastTrip = some trip)
include hlast

theorem openCause_of_manual (h : trip.origin = .manual) : openCause s = some .manualTrip := by
  simp [openCause, hlast, h]

variable (hprot : trip.origin = .protection)
include hprot

theorem openCause_of_not_eligible (h : trip.eligible = false) : openCause s = some .notEligible := by
  simp [openCause, hlast, hprot, h]

variable (helig : trip.eligible = true)
include helig

theorem openCause_of_no_shot (h : s.settings.shotLimit ≤ s.seq.shots) :
    openCause s = some (.shotsUsed s.seq.shots s.settings.shotLimit) := by
  simp [openCause, hlast, hprot, helig, h]

variable (hshots : s.seq.shots < s.settings.shotLimit)
include hshots

theorem openCause_of_hard {c : Cond} {rest : List Cond} (h : s.mon.hard = c :: rest) :
    openCause s = some (.hardBlock c) := by
  simp [openCause, hlast, hprot, helig, hshots, h, lowest]

theorem openCause_of_passed (h : s.mon.hard = []) : openCause s = none := by
  simp [openCause, hlast, hprot, helig, hshots, h]

end

section
variable {s : State} (hopening : s.seq.state = .opening) (o : ChangeOrigin)
include hopening

/-- A failing test of R81 is a lockout with its cause. -/
theorem openJudgement_of_cause {cause : LockoutCause} (h : openCause s = some cause) :
    (openJudgement o s).seq = enterLockout cause s.seq := by
  simp [openJudgement, h, seqMove_of_not_ready (s := s), hopening, seqTo_seq]

/-- Without a failing test the dead time of the next shot is loaded, and a hold that stands is taken at once (R81, R84,
R85). -/
theorem openJudgement_of_passed (h : openCause s = none) :
    (openJudgement o s).seq =
      if s.mon.hold = [] then enterDeadTime (nextDeadTime s) s.seq
      else if s.settings.maxHold = 0 then enterLockout (.holdExceeded 0 0) (enterDeadTime (nextDeadTime s) s.seq)
      else { enterDeadTime (nextDeadTime s) s.seq with held := true } := by
  have hmaxHold (r e o') : (seqTo r e o' s).settings.maxHold = s.settings.maxHold := by simp [State.settings]
  simp only [openJudgement, h, seqMove_of_not_ready (show s.seq.state ≠ .ready by simp [hopening])]
  split
  · next hnone =>
    rw [if_pos (by simpa using hnone), seqTo_seq]
  · next hsome =>
    rw [if_neg (by simpa using hsome), seqHold, hmaxHold]
    split <;> simp [seqTo_seq, enterDeadTime]

end

/-- The judgement in OPENING is `OpenJudged` (R81, R84, R85). -/
theorem openJudgement_judged (o : ChangeOrigin) {trip : LastTrip} {s : State} (hopening : s.seq.state = .opening)
    (hlast : s.seq.lastTrip = some trip) : OpenJudged trip s (openJudgement o s).seq := by
  have hlocked {cause} (h : openCause s = some cause) :
      (openJudgement o s).seq.state = .lockout ∧ (openJudgement o s).seq.cause = some cause := by
    rw [openJudgement_of_cause hopening o h]
    exact ⟨rfl, rfl⟩
  have hkept : (openJudgement o s).seq.shots = s.seq.shots ∧ (openJudgement o s).seq.lastTrip = s.seq.lastTrip := by
    cases h : openCause s with
    | some cause =>
      rw [openJudgement_of_cause hopening o h]
      exact ⟨rfl, rfl⟩
    | none =>
      rw [openJudgement_of_passed hopening o h]
      split
      · exact ⟨rfl, rfl⟩
      · split <;> exact ⟨rfl, rfl⟩
  refine ⟨fun hm => hlocked (openCause_of_manual hlast hm), fun hp he => hlocked (openCause_of_not_eligible hlast hp he),
    fun hp he hs => hlocked (openCause_of_no_shot hlast hp he hs),
    fun c rest hp he hs hh => hlocked (openCause_of_hard hlast hp he hs hh), fun hp he hs hh => ?_, hkept⟩
  rw [openJudgement_of_passed hopening o (openCause_of_passed hlast hp he hs hh)]
  refine ⟨fun hbegins => ?_, fun hhold hzero => ?_⟩
  · by_cases hhold : s.mon.hold = []
    · rw [if_pos hhold]
      simp [enterDeadTime, nextDeadTime, hhold]
    · rw [if_neg hhold, if_neg (hbegins.resolve_left hhold)]
      simp [enterDeadTime, nextDeadTime, hhold]
  · rw [if_neg hhold, if_pos hzero]
    exact ⟨rfl, rfl⟩

/-! ## OPEN accepted by the scan of a 1 ms event -/

/-- The judgement reads the settings, the block set and, of the record, the shots done and the last trip (R81). -/
theorem OpenJudged.congr {trip : LastTrip} {s u : State} {q : Sequencer} (h : OpenJudged trip u q)
    (hsettings : u.settings = s.settings) (hmon : u.mon = s.mon) (hshots : u.seq.shots = s.seq.shots)
    (hlast : u.seq.lastTrip = s.seq.lastTrip) : OpenJudged trip s q := by
  unfold OpenJudged at h ⊢
  rwa [hsettings, hmon, hshots, hlast] at h

/-- From OPENING the judgement reaches the sequencer and the reports alone. -/
theorem openJudgement_mon {s : State} (hopening : s.seq.state = .opening) (o : ChangeOrigin) :
    (openJudgement o s).mon = s.mon := by
  unfold openJudgement
  simp only [seqMove_of_not_ready (show s.seq.state ≠ .ready by simp [hopening])]
  split
  · simp
  · split <;> simp

/-- The record in OPENING as the acceptance of OPEN hands it to the judgement: its memory of CLOSED gone (log entry
8). -/
theorem seqBreakerChange_opened_of_opening {s : State} (hopening : s.seq.state = .opening) {o : ChangeOrigin}
    (ho : o ≠ .initial) :
    seqBreakerChange .opened o s = openJudgement o (s.setSeq { s.seq with closedLast := false }) := by
  simp [seqBreakerChange, ho, laterChange, hopening, closedAfter]

theorem changeOrigin_ne_initial {b : Breaker} (h : b.accepted ≠ .none) (n : BreakerPos) :
    changeOrigin b n ≠ .initial := by
  unfold changeOrigin
  rw [if_neg h]
  repeat' split
  all_goals simp

/-- The interface's own outputs after OPEN, while BREAKER_FAIL is not active: no condition moves (R69, R102). -/
theorem completeTrip_of_not_failed {s : State} (h : s.mon.recs.breakerFail.active = false) :
    (completeTrip s).mon = s.mon ∧ (completeTrip s).seq = s.seq := by
  unfold completeTrip
  rw [setCondition_same]
  · split <;> exact ⟨rfl, rfl⟩
  · split <;> exact h

/-- The window's end at an accepted OPEN, beside no hunt that waits for it, reaches neither the sequencer nor the
conditions (R143, R165). -/
theorem endWindow_keeps_of_no_wait {s : State} (h : s.adm.window = none ∨ s.hunt.state ≠ .deferred) (k : StartCause) :
    (endWindow k s).seq = s.seq ∧ (endWindow k s).mon = s.mon := by
  rcases h with h | h
  · rw [endWindow_of_no_window h]
    exact ⟨rfl, rfl⟩
  · obtain ⟨-, hseq, hmon, -⟩ := endWindow_of_not_deferred h k
    exact ⟨hseq, hmon⟩

/-- OPEN accepted in OPENING while the event changes no condition: the record is the judgement's (R66, R78, R81). -/
theorem acceptOpen_judged {trip : LastTrip} {s : State} (hopening : s.seq.state = .opening)
    (hlast : s.seq.lastTrip = some trip) (hacc : s.brk.accepted ≠ .none)
    (hfail : s.mon.recs.breakerFail.active = false) (hwait : s.adm.window = none ∨ s.hunt.state ≠ .deferred) :
    OpenJudged trip s (acceptPosition .opened s).seq ∧ (acceptPosition .opened s).mon = s.mon := by
  let u := endWindow .breakerChange (s.setBrk { s.brk with accepted := .opened })
  let v := u.setSeq { u.seq with closedLast := false }
  let o := changeOrigin s.brk .opened
  obtain ⟨hseq, hmon⟩ : u.seq = s.seq ∧ u.mon = s.mon :=
    endWindow_keeps_of_no_wait (s := s.setBrk { s.brk with accepted := .opened }) hwait .breakerChange
  have hsettings : u.settings = s.settings := by simp [u, State.settings]
  have hu : u.seq.state = .opening := by rw [hseq, hopening]
  have hjudged : OpenJudged trip v (openJudgement o v).seq :=
    openJudgement_judged o (s := v) hu (by rw [← hlast, ← hseq]; rfl)
  have hjmon : (openJudgement o v).mon = s.mon := (openJudgement_mon (s := v) hu o).trans hmon
  have haccept : acceptPosition .opened s = completeTrip (endSuspension (openJudgement o v)) := by
    rw [← seqBreakerChange_opened_of_opening hu (changeOrigin_ne_initial hacc _)]
    rfl
  obtain ⟨hdone, hdoneSeq⟩ := completeTrip_of_not_failed (s := endSuspension (openJudgement o v)) (by simp [hjmon, hfail])
  rw [haccept, hdoneSeq, hdone]
  simp only [endSuspension_frame]
  exact ⟨hjudged.congr hsettings hmon (by simp [v, hseq]) (by simp [v, hseq]), hjmon⟩

/-- A ready scan that accepts no new level only remembers it (R67). -/
theorem scanReady_of_accepted {level : Bool} {s : State}
    (h : s.brk.prevReady = some level → s.brk.ready = readyOf level) :
    scanReady level s = s.setBrk { s.brk with prevReady := some level } :=
  if_neg fun ⟨hprev, hnew⟩ => hnew (h hprev)

/-- Settles O16: the judgement by `openJudgement_judged`, and the event by `acceptOpen_judged` on the ticked state. -/
theorem openIsJudgedInOrder : Obligations.OpenIsJudgedInOrder := by
  refine ⟨fun o trip s => openJudgement_judged o,
    fun trip ready s hopening hlast hprev hacc hnone hfail hready hwait => ?_⟩
  let u := (ticked s).setBrk { s.brk with prevPos := some (false, true) }
  obtain ⟨-, -, hunpaced⟩ := paceSequencer_eq s.seq
  have hseq : u.seq = s.seq := hunpaced (by simp [hopening]) (by simp [hopening])
  have hwindow : u.adm.window = none ∨ u.hunt.state ≠ .deferred :=
    hwait.imp (fun h => by simp [u, ticked, paceTimers, advanceTime, h]) id
  obtain ⟨hjudged, hmon⟩ := acceptOpen_judged (s := u) (by rw [hseq, hopening]) (by rw [hseq, hlast]) hnone hfail hwindow
  have hscan : scanPosition false true (ticked s) = acceptPosition .opened u := if_pos ⟨hprev, hacc⟩
  have hcontacts := acceptPosition_contacts .opened u
  simp only [Breaker.contacts, Prod.mk.injEq] at hcontacts
  obtain ⟨-, haccepted, hprevReady, hreadyState⟩ := hcontacts
  refine ⟨_, execTimeBaseEvent_eq false true ready s, ?_⟩
  rw [hscan, scanReady_of_accepted (by rw [hprevReady, hreadyState]; exact hready)]
  exact ⟨haccepted, hjudged.congr rfl rfl (by rw [hseq]) (by rw [hseq]), hmon⟩

end Sys2Proof.Machine

/-! PROOFS. The shape of the sequencer's record (R98, R101) and the guard of the start window (R162, R165): what each shared
operation keeps of the two. -/

namespace Sys2Proof.Machine

/-! ## The shape of the record -/

/-- The shape of the sequencer's record at an accepted position: `SequencerShape`, part by part. -/
structure Shaped (pos : BreakerPos) (r : Sequencer) : Prop where
  timer : r.loaded.isSome = true ↔ r.state = .deadTime ∨ r.state = .reclaim
  remaining : r.remaining.isSome = r.loaded.isSome
  cause : r.cause.isSome = true ↔ r.state = .lockout
  origin : r.closeOrigin.isSome = true ↔ r.state = .closing
  withdrawn : r.closeWithdrawn = true → r.state = .closing
  held : r.held = true → r.state = .deadTime
  awaited : r.posAwaited = true → r.state = .lockout
  position : r.posAwaited = true ↔ pos = .none

theorem sequencerShape_iff (s : State) : SequencerShape s ↔ Shaped s.brk.accepted s.seq :=
  ⟨fun ⟨ht, hr, hc, ho, hw, hh, ha, hp⟩ => ⟨ht, hr, hc, ho, hw, hh, ha, hp⟩,
    fun ⟨ht, hr, hc, ho, hw, hh, ha, hp⟩ => ⟨ht, hr, hc, ho, hw, hh, ha, hp⟩⟩

/-- The position is known, and the record does not wait for it. -/
def PositionKnown (pos : BreakerPos) (r : Sequencer) : Prop := r.posAwaited = false ∧ pos ≠ .none

section
variable {pos : BreakerPos} {r : Sequencer}

theorem Shaped.known_of_accepted (h : Shaped pos r) (hpos : pos ≠ .none) : PositionKnown pos r :=
  ⟨Bool.eq_false_iff.mpr fun e => hpos (h.position.mp e), hpos⟩

theorem Shaped.known_of_state (h : Shaped pos r) (hs : r.state ≠ .lockout) : PositionKnown pos r :=
  h.known_of_accepted fun e => hs (h.awaited (h.position.mpr e))

theorem Shaped.known_of_not_awaited (h : Shaped pos r) (hp : r.posAwaited = false) : PositionKnown pos r :=
  h.known_of_accepted fun e => by simp [h.position.mpr e] at hp

/-- An entry into LOCKOUT has its shape from any record: it clears what belongs to the other states (R98). -/
theorem enterLockout_shaped (h : Shaped pos r) (c : LockoutCause) : Shaped pos (enterLockout c r) := by
  constructor <;> simp [enterLockout, h.position]

theorem enterReclaim_shaped (h : PositionKnown pos r) (time shots : Nat) : Shaped pos (enterReclaim time shots r) := by
  obtain ⟨hawaited, hpos⟩ := h
  constructor <;> simp [enterReclaim, hawaited, hpos]

theorem enterOpening_shaped (h : PositionKnown pos r) (trip : LastTrip) : Shaped pos (enterOpening trip r) := by
  obtain ⟨hawaited, hpos⟩ := h
  constructor <;> simp [enterOpening, hawaited, hpos]

theorem enterManualClosing_shaped (h : PositionKnown pos r) : Shaped pos (enterManualClosing r) := by
  obtain ⟨hawaited, hpos⟩ := h
  constructor <;> simp [enterManualClosing, hawaited, hpos]

/-- The dead time begins in OPENING, which has no cause and no close (R81). -/
theorem enterDeadTime_shaped (h : Shaped pos r) (hs : r.state = .opening) (time : Nat) :
    Shaped pos (enterDeadTime time r) := by
  obtain ⟨hawaited, hpos⟩ := h.known_of_state (by simp [hs])
  have hcause := h.cause
  have horigin := h.origin
  have hwithdrawn := h.withdrawn
  constructor <;> simp_all [enterDeadTime]

/-- The automatic close begins in DEAD_TIME, which has no cause (R83). -/
theorem enterAutoClosing_shaped (h : Shaped pos r) (hs : r.state = .deadTime) : Shaped pos (enterAutoClosing r) := by
  obtain ⟨hawaited, hpos⟩ := h.known_of_state (by simp [hs])
  have hcause := h.cause
  constructor <;> simp_all [enterAutoClosing]

/-- READY is entered from RECLAIM and LOCKOUT, which hold nothing and close nothing (R90, R97). -/
theorem enterReady_shaped (h : Shaped pos r) (hknown : PositionKnown pos r)
    (hs : r.state = .reclaim ∨ r.state = .lockout) : Shaped pos (enterReady r) := by
  obtain ⟨hawaited, hpos⟩ := hknown
  have horigin := h.origin
  have hwithdrawn := h.withdrawn
  have hheld := h.held
  rcases hs with hs | hs <;> constructor <;> simp_all [enterReady]

/-- The last trip record is free of the shape. -/
theorem Shaped.setLastTrip (h : Shaped pos r) (t : Option LastTrip) : Shaped pos { r with lastTrip := t } := by
  obtain ⟨ht, hr, hc, ho, hw, hh, ha, hp⟩ := h
  exact ⟨ht, hr, hc, ho, hw, hh, ha, hp⟩

theorem Shaped.setClosedLast (h : Shaped pos r) (b : Bool) : Shaped pos { r with closedLast := b } := by
  obtain ⟨ht, hr, hc, ho, hw, hh, ha, hp⟩ := h
  exact ⟨ht, hr, hc, ho, hw, hh, ha, hp⟩

/-- A trip in LOCKOUT replaces a cause by a cause. -/
theorem Shaped.trippedInLockout (h : Shaped pos r) (hs : r.state = .lockout) (t : LastTrip)
    (c : LockoutCause) :
    Shaped pos { r with lastTrip := some t, cause := if r.posAwaited then some c else r.cause } := by
  obtain ⟨ht, hr, hc, ho, hw, hh, ha, hp⟩ := h
  refine ⟨ht, hr, ?_, ho, hw, hh, ha, hp⟩
  cases r.posAwaited
  · exact hc
  · simp [hs]

/-- Pacing moves the value of a timer that runs, and the hold time used (R83, R84, R90). -/
theorem Shaped.paced (h : Shaped pos r) : Shaped pos (paceSequencer r) := by
  have hpaced (t : Option Nat) (ht : t.isSome = r.remaining.isSome) (n : Nat) :
      Shaped pos { r with remaining := t, holdUsed := n } := by
    obtain ⟨htimer, hr, hc, ho, hw, hh, ha, hp⟩ := h
    exact ⟨htimer, ht.trans hr, hc, ho, hw, hh, ha, hp⟩
  unfold paceSequencer
  split
  · split
    · exact hpaced _ rfl _
    · exact hpaced _ (by simp) _
  · exact hpaced _ (by simp) _
  all_goals exact h

/-- A record that waits for no first position has its shape at every accepted one. -/
theorem Shaped.setPosition {n : BreakerPos} (h : Shaped pos r) (hpos : pos ≠ .none) (hn : n ≠ .none) :
    Shaped n r := by
  obtain ⟨ht, hr, hc, ho, hw, hh, ha, hp⟩ := h
  exact ⟨ht, hr, hc, ho, hw, hh, ha, by simp_all⟩

end

/-! ## What an operation keeps -/

/-- The two invariants go from the one state to the other: the sequencer's shape and the window's guard. -/
structure SequencerKept (s t : State) : Prop where
  shape : SequencerShape s → SequencerShape t
  guard : WindowGuarded s → WindowGuarded t

/-- What the guard of an open window asks of a state (R162). -/
def Guarded (s : State) : Prop :=
  s.seq.state = .ready ∧ s.brk.accepted = .closed ∧ (s.hunt.state = .idle ∨ s.hunt.state = .deferred)

/-- Everything that the two invariants read is the same in both states. -/
@[simp] def SameSequence (s t : State) : Prop :=
  t.seq = s.seq ∧ t.brk.accepted = s.brk.accepted ∧ t.hunt.state = s.hunt.state ∧
  t.adm.window.isSome = s.adm.window.isSome

namespace SequencerKept

variable {s t u : State}

theorem refl (s : State) : SequencerKept s s := ⟨id, id⟩

theorem trans (h : SequencerKept s t) (h' : SequencerKept t u) : SequencerKept s u :=
  ⟨h'.shape ∘ h.shape, h'.guard ∘ h.guard⟩

theorem of_same (h : SameSequence s t) : SequencerKept s t := by
  obtain ⟨hseq, hacc, hhunt, hwindow⟩ := h
  refine ⟨fun hs => ?_, fun hg => ?_⟩
  · unfold SequencerShape at hs ⊢
    rwa [hseq, hacc]
  · unfold WindowGuarded at hg ⊢
    rwa [hseq, hacc, hhunt, hwindow]

/-- A state without an open window is guarded. -/
theorem of_closed (hshape : SequencerShape s → SequencerShape t) (h : t.adm.window = none) : SequencerKept s t :=
  ⟨hshape, fun _ ho => by simp [h] at ho⟩

/-- Where the guard does not hold no window is open, and none is opened. -/
theorem of_unguarded (hshape : SequencerShape s → SequencerShape t) (hs : ¬ Guarded s)
    (hopen : t.adm.window.isSome = true → s.adm.window.isSome = true) : SequencerKept s t :=
  ⟨hshape, fun hg ho => absurd (hg (hopen ho)) hs⟩

/-- A row or an operation that acts under a condition, and leaves the state alone otherwise. -/
theorem ite {p : Prop} [Decidable p] (h : p → SequencerKept s t) : SequencerKept s (if p then t else s) := by
  split
  · next hp => exact h hp
  · exact .refl s

end SequencerKept

section
variable {s : State}

theorem not_guarded_of_not_ready (h : s.seq.state ≠ .ready) : ¬ Guarded s := fun ⟨hr, _⟩ => h hr

/-- While a hunt runs no window is open (R143). -/
theorem not_guarded_of_running (h : s.hunt.state ≠ .idle ∧ s.hunt.state ≠ .deferred) : ¬ Guarded s :=
  fun ⟨_, _, hw⟩ => hw.elim h.1 h.2

/-- The record changes within its state. -/
theorem setSeq_kept {r : Sequencer} (hstate : r.state = s.seq.state)
    (hr : Shaped s.brk.accepted s.seq → Shaped s.brk.accepted r) : SequencerKept s (s.setSeq r) := by
  refine ⟨fun hs => (sequencerShape_iff _).mpr (hr ((sequencerShape_iff s).mp hs)), fun hg ho => ?_⟩
  obtain ⟨hready, hrest⟩ := hg ho
  exact ⟨hstate.trans hready, hrest⟩

theorem seqTo_shape {r : Sequencer} (hr : Shaped s.brk.accepted s.seq → Shaped s.brk.accepted r) (e : SeqEvent)
    (o : Option ChangeOrigin) (hs : SequencerShape s) : SequencerShape (seqTo r e o s) := by
  rw [sequencerShape_iff] at hs ⊢
  simpa [seqTo_seq] using hr hs

/-- A move from outside READY keeps the guard: no window is open there. -/
theorem seqTo_kept {r : Sequencer} (hready : s.seq.state ≠ .ready)
    (hr : Shaped s.brk.accepted s.seq → Shaped s.brk.accepted r) (e : SeqEvent) (o : Option ChangeOrigin) :
    SequencerKept s (seqTo r e o s) :=
  .of_unguarded (seqTo_shape hr e o) (not_guarded_of_not_ready hready) (by simp)

end

/-! ## The condition monitor -/

section
variable (s : State)

theorem addReport_kept (r : Report) : SequencerKept s (addReport r s) := .of_same (by simp)

theorem seqWithdrawn_kept : SequencerKept s (seqWithdrawn s) := by
  unfold seqWithdrawn
  split
  · next hs =>
    refine setSeq_kept rfl fun h => ?_
    obtain ⟨ht, hr, hc, ho, -, hh, ha, hp⟩ := h
    exact ⟨ht, hr, hc, ho, fun _ => hs, hh, ha, hp⟩
  · exact .refl s

/-- A hold is taken in DEAD_TIME alone (R84, R85). -/
theorem seqHold_kept (hs : s.seq.state = .deadTime) : SequencerKept s (seqHold s) := by
  unfold seqHold
  split
  · exact seqTo_kept (by simp [hs]) (fun h => enterLockout_shaped h _) _ _
  · refine setSeq_kept rfl fun h => ?_
    obtain ⟨ht, hr, hc, ho, hw, -, ha, hp⟩ := h
    exact ⟨ht, hr, hc, ho, hw, fun _ => hs, ha, hp⟩

/-- A change of the block set acts in DEAD_TIME and CLOSING (R84, R85, R86, R89). -/
theorem seqBlockChange_kept (oh oo : List Cond) : SequencerKept s (seqBlockChange oh oo s) := by
  unfold seqBlockChange
  split
  · next hs =>
    split
    · exact seqTo_kept (by simp [hs]) (fun h => enterLockout_shaped h _) _ _
    · split
      · exact seqHold_kept s hs
      · refine .ite fun _ => setSeq_kept rfl fun h => ?_
        obtain ⟨ht, -, hc, ho, hw, -, ha, hp⟩ := h
        exact ⟨ht, rfl, hc, ho, hw, nofun, ha, hp⟩
  · next hs => exact .ite fun _ => seqTo_kept (by simp [hs]) (fun h => enterLockout_shaped h _) _ _
  all_goals exact .refl s

theorem releaseClose_kept : SequencerKept s (releaseClose s) := .of_same (by simp)

theorem breakerHardChange_kept (oh : List Cond) : SequencerKept s (breakerHardChange oh s) :=
  .ite fun _ => (releaseClose_kept s).trans (seqWithdrawn_kept _)

theorem adoptRecords_kept (t : CondTable CondRec) : SequencerKept s (adoptRecords t s) := by
  have hset : SequencerKept s (s.setMon (monitorOf t)) := .of_same (by simp)
  unfold adoptRecords
  split
  · exact hset
  · exact (hset.trans (breakerHardChange_kept _ _)).trans (seqBlockChange_kept _ _ _)

theorem ownerReport_kept (c : Cond) (a : Bool) : SequencerKept s (ownerReport c a s) := by
  unfold ownerReport
  split
  · exact .refl s
  · exact (adoptRecords_kept s _).trans (addReport_kept _ _)

theorem replaceRecords_kept (k : CondCause) (t : CondTable CondRec) : SequencerKept s (replaceRecords k t s) :=
  (adoptRecords_kept s t).trans (.of_same (by simp [replaceRecords]))

end

/-! ## The hunt controller -/

section
variable {s : State}

/-- The hunt controller may leave IDLE and DEFERRED while no window is open. -/
theorem setHunt_kept {v : Hunt}
    (hv : s.adm.window.isSome = true → s.hunt.state = .idle ∨ s.hunt.state = .deferred →
      v.state = .idle ∨ v.state = .deferred) : SequencerKept s (s.setHunt v) := by
  refine ⟨id, fun hg ho => ?_⟩
  obtain ⟨hready, hclosed, hwait⟩ := hg ho
  exact ⟨hready, hclosed, hv ho hwait⟩

theorem setHunt_kept_of_state {v : Hunt} (hv : v.state = s.hunt.state) : SequencerKept s (s.setHunt v) :=
  setHunt_kept fun _ h => by rwa [hv]

theorem setHunt_kept_of_running {v : Hunt} (h : s.hunt.state ≠ .idle ∧ s.hunt.state ≠ .deferred) :
    SequencerKept s (s.setHunt v) :=
  .of_unguarded id (not_guarded_of_running h) id

theorem sendHunt_kept {k : DownKind} {a : Nat} {t : State} (h : sendHunt k a s = some t) : SequencerKept s t := by
  have hstate : t.hunt.state = s.hunt.state := by
    unfold sendHunt at h
    split at h
    · cases h
      rfl
    · rw [Option.map_eq_some_iff] at h
      obtain ⟨u, hj, rfl⟩ := h
      have hf := joinQueue_frame hj
      simp [hf]
  have hf := sendHunt_frame h
  exact .of_same (by simp [hf, hstate])

end

section
variable (s : State)

@[simp] theorem dropOutstanding_state : (dropOutstanding s).hunt.state = s.hunt.state := by
  unfold dropOutstanding
  repeat' split
  all_goals simp

theorem endStep_kept (r : StepResult) : SequencerKept s (endStep r s) := .of_same (by simp [endStep])

theorem finishHunt_shape (r : LastResult) (l : List StepRecord) (n : HuntState) (hs : SequencerShape s) :
    SequencerShape (finishHunt r l n s) :=
  ((addReport_kept _ _).trans (ownerReport_kept _ _ _)).shape (s := s.setHunt _) (by exact hs)

/-- A hunt that ends in IDLE stands beside an open window (R149). -/
theorem finishHunt_kept (r : LastResult) (l : List StepRecord) : SequencerKept s (finishHunt r l .idle s) := by
  have hset (v : Hunt) (hv : v.state = .idle) : SequencerKept s (s.setHunt v) := setHunt_kept fun _ _ => .inl hv
  exact ((hset _ rfl).trans (addReport_kept _ _)).trans (ownerReport_kept _ _ _)

theorem endHunt_kept (o : HuntOutcome) (c : Option AbortCause) (b : Option (List Cond)) (u : Option Nat) :
    SequencerKept s (endHunt o c b u .idle s) := finishHunt_kept _ _ _

end

section
variable (s : State)

/-- What an abort can do: nothing in IDLE and SETTLING, and otherwise an end in SETTLING after a trip or in IDLE (R150). -/
theorem huntAbort_cases (k : AbortCause) :
    huntAbort k s = s ∨ ∃ r l u, SequencerKept s u ∧
      huntAbort k s = finishHunt r l (if k = .trip then .settling else .idle) u := by
  have hended : SequencerKept s (endStep .interrupted (dropOutstanding s)) :=
    .trans (.of_same (by simp)) (endStep_kept _ _)
  unfold huntAbort
  dsimp only
  split
  · exact .inl rfl
  · exact .inl rfl
  · exact .inr ⟨_, _, _, .refl s, rfl⟩
  all_goals exact .inr ⟨_, _, _, hended, rfl⟩

theorem huntAbort_shape (k : AbortCause) (hs : SequencerShape s) : SequencerShape (huntAbort k s) := by
  rcases huntAbort_cases s k with e | ⟨r, l, u, hu, e⟩
  · rwa [e]
  · rw [e]
    exact finishHunt_shape _ _ _ _ (hu.shape hs)

/-- An abort but at a trip ends in IDLE, beside an open window too. -/
theorem huntAbort_kept {k : AbortCause} (hk : k ≠ .trip) : SequencerKept s (huntAbort k s) := by
  rcases huntAbort_cases s k with e | ⟨r, l, u, hu, e⟩
  · rw [e]
    exact .refl s
  · rw [e, if_neg hk]
    exact hu.trans (finishHunt_kept _ _ _)

theorem huntBarArrival_kept (b : State) : SequencerKept s (huntBarArrival b s) :=
  .ite fun _ => huntAbort_kept s (by decide)

theorem setCondition_kept (c : Cond) (a : Bool) : SequencerKept s (setCondition c a s) :=
  (ownerReport_kept s c a).trans (huntBarArrival_kept _ _)

theorem applyTable_kept : SequencerKept s (applyTable s) :=
  (replaceRecords_kept s _ _).trans (huntBarArrival_kept _ _)

theorem huntNotStarted_kept (r : NotStarted) (o : Option HuntOrigin) : SequencerKept s (huntNotStarted r o s) :=
  finishHunt_kept s _ _

theorem huntGroupChange_kept : SequencerKept s (huntGroupChange s) := .ite fun _ => huntAbort_kept s (by decide)

theorem restoreFailed_kept (u : Option Nat) : SequencerKept s (restoreFailed u s) :=
  (endStep_kept s _).trans (endHunt_kept _ _ _ _ _)

end

section
variable {s : State} (hrun : s.hunt.state ≠ .idle ∧ s.hunt.state ≠ .deferred)
include hrun

theorem beginSteps_kept (u : Option Nat) (l : List HuntStep) : SequencerKept s (beginSteps u l s) := by
  induction l generalizing s with
  | nil => exact endHunt_kept _ _ _ _ _
  | cons st rest ih =>
    have hbegun : SequencerKept s (s.setHunt { s.hunt with step := s.hunt.step + 1, state := .opening }) :=
      setHunt_kept_of_running hrun
    have hover := (hbegun.trans (endStep_kept _ .noResponse)).trans (ih (by simp [endStep]))
    unfold beginSteps
    dsimp only
    split
    · split
      · next hsent => exact hbegun.trans (sendHunt_kept hsent)
      · exact hover
    · exact hover

theorem continueHunt_kept (u : Option Nat) : SequencerKept s (continueHunt u s) := beginSteps_kept hrun _ _

theorem stepOver_kept (r : StepResult) (u : Option Nat) : SequencerKept s (stepOver r u s) :=
  (endStep_kept s r).trans (continueHunt_kept (by simpa [endStep] using hrun) u)

theorem beginRestore_kept : SequencerKept s (beginRestore s) := by
  have hset : SequencerKept s (s.setHunt { s.hunt with state := .restoring, phase := none, dwellTimer := none }) :=
    setHunt_kept_of_running hrun
  unfold beginRestore
  dsimp only
  split
  · next hsent => exact hset.trans (sendHunt_kept hsent)
  · exact hset.trans (restoreFailed_kept _ _)

theorem judgeDwell_kept : SequencerKept s (judgeDwell s) := by
  have hset (v : Hunt) : SequencerKept s (s.setHunt v) := setHunt_kept_of_running hrun
  unfold judgeDwell
  dsimp only
  split
  · exact (endStep_kept s _).trans (endHunt_kept _ _ _ _ _)
  · split
    · exact beginRestore_kept hrun
    · split
      · exact ((hset _).trans (endStep_kept _ _)).trans (endHunt_kept _ _ _ _ _)
      · exact (hset _).trans (beginRestore_kept hrun)

end

section
variable (s : State)

/-- A hunt starts while no window is open (R141, R143). -/
theorem startHuntNow_kept (hw : s.adm.window = none) (o : Option HuntOrigin) :
    SequencerKept s (startHuntNow o s) := by
  have hset (v : Hunt) : SequencerKept (updateStations (fun st => { st with openedByHunt := false }) s)
      ((updateStations (fun st => { st with openedByHunt := false }) s).setHunt v) :=
    setHunt_kept fun ho => by simp [hw] at ho
  have hstations : SequencerKept s (updateStations (fun st => { st with openedByHunt := false }) s) :=
    .of_same (by simp)
  exact (((hstations.trans (hset _)).trans (ownerReport_kept _ _ _)).trans (beginSteps_kept (by simp) _ _)).trans
    (huntBarArrival_kept _ _)

theorem admitHunt_kept (o : HuntOrigin) : SequencerKept s (admitHunt o s) := by
  have hset : SequencerKept s (s.setHunt { s.hunt with state := .deferred, origin := some o }) :=
    setHunt_kept fun _ _ => .inr rfl
  unfold admitHunt
  split
  · exact (hset.trans (ownerReport_kept _ _ _)).trans (huntBarArrival_kept _ _)
  · next hw => exact startHuntNow_kept s (by simpa using hw) _

theorem huntRequestSef_kept : SequencerKept s (huntRequestSef s) := by
  unfold huntRequestSef
  split
  · exact admitHunt_kept s _
  · exact addReport_kept s _
  · exact huntNotStarted_kept s _ _

theorem huntWindowClosed_kept (hw : s.adm.window = none) : SequencerKept s (huntWindowClosed s) := by
  unfold huntWindowClosed
  split
  · split
    · exact startHuntNow_kept s hw _
    · exact huntNotStarted_kept s _ _
  · exact .refl s

theorem sendHeldHunt_kept : SequencerKept s (sendHeldHunt s) := by
  unfold sendHeldHunt
  split
  · next hs =>
    split
    · next hsent => exact sendHunt_kept hsent
    · exact stepOver_kept (by simp [hs]) _ _
  · split
    · next hsent => exact sendHunt_kept hsent
    · exact restoreFailed_kept s _
  all_goals exact .refl s

theorem startSwitchWait_kept : SequencerKept s (startSwitchWait s) := setHunt_kept_of_state rfl

theorem huntOutcome_kept (o : DownOutcome) : SequencerKept s (huntOutcome o s) := by
  have hset : SequencerKept s (s.setHunt { s.hunt with outstanding := none }) := setHunt_kept_of_state rfl
  unfold huntOutcome
  split
  · exact .refl s
  · dsimp only
    split
    · exact hset.trans (.ite fun _ => sendHeldHunt_kept _)
    · split
      · split
        · next hs =>
          split
          · exact hset.trans (startSwitchWait_kept _)
          · exact hset.trans (stepOver_kept (by simp [hs]) _ _)
        · split
          · exact hset.trans (startSwitchWait_kept _)
          · exact hset.trans (restoreFailed_kept _ _)
        all_goals exact hset
      · exact hset

theorem updateStation_kept (a : Nat) (f : Station → Station) : SequencerKept s (updateStation a f s) :=
  .of_same (by simp)

theorem huntSwitchDone_kept (a : Nat) (r : SwitchResult) : SequencerKept s (huntSwitchDone a r s) := by
  unfold huntSwitchDone
  split
  · split
    · next hs =>
      split
      · exact (updateStation_kept s _ _).trans (setHunt_kept_of_running (by simp [hs]))
      · exact stepOver_kept (by simp [hs]) _ _
    · next hs =>
      split
      · exact ((updateStation_kept s _ _).trans (setHunt_kept_of_running (by simp [hs]))).trans
          (stepOver_kept (by simp [hs]) _ _)
      · exact restoreFailed_kept s _
    all_goals exact .refl s
  · exact .refl s

end

/-! ## The start admission unit -/

section
variable (s : State)

/-- The admission unit opens no window by a change of its other fields. -/
theorem setAdm_kept {v : Admission} (hv : v.window.isSome = true → s.adm.window.isSome = true) :
    SequencerKept s (s.setAdm v) :=
  ⟨id, fun hg ho => hg (hv ho)⟩

theorem startReport_kept (n : Nat) (e : StartEvent) (c : Option StartCause) (so : Option Nat) (w : Option (Nat × Nat)) :
    SequencerKept s (startReport n e c so w s) := .of_same (by simp)

@[simp] theorem queueRelease_window (d a : Nat) : (queueRelease d a s).adm.window = s.adm.window := by
  unfold queueRelease
  split
  · simp
  · split
    · next hj =>
      have hf := joinQueue_frame hj
      simp [hf]
    · simp

theorem queueRelease_kept (d a : Nat) : SequencerKept s (queueRelease d a s) := .of_same (by simp)

/-- A window's end leaves no window, and reaches the sequencer through the hunt that waited for it alone (R143, R165). -/
theorem endWindow_kept (k : StartCause) : SequencerKept s (endWindow k s) := by
  refine .of_closed (fun hs => ?_) (endWindow_window k s)
  unfold endWindow
  split
  · exact hs
  · next w _ =>
    have hclosed (u : State) (hseq : u.seq = s.seq) (hacc : u.brk.accepted = s.brk.accepted) :
        SequencerShape (huntWindowClosed (u.setAdm { u.adm with window := none })) := by
      refine (huntWindowClosed_kept _ rfl).shape ?_
      rw [sequencerShape_iff] at hs ⊢
      simpa [hseq, hacc] using hs
    exact (startReport_kept _ _ _ _ _ _).shape (hclosed _ (by simp) (by simp))

/-- A GRANT goes to the down queue, or is held, for a window that is open. -/
theorem queueGrant_kept (w : StartWindow) (ho : s.adm.window.isSome = true) : SequencerKept s (queueGrant w s) := by
  unfold queueGrant
  split
  · exact setAdm_kept s fun _ => ho
  · split
    · next hj =>
      have hf := joinQueue_frame hj
      exact .trans (.of_same (by simp [hf])) (setAdm_kept _ fun _ => by simpa [hf] using ho)
    · exact .trans (setAdm_kept s fun _ => ho) (endWindow_kept _ _)

theorem sendReleaseDue_kept : SequencerKept s (sendReleaseDue s) := by
  unfold sendReleaseDue
  split
  · exact .trans (setAdm_kept s (by exact id)) (queueRelease_kept _ _ _)
  · exact .refl s

theorem sendHeldGrant_kept : SequencerKept s (sendHeldGrant s) := by
  unfold sendHeldGrant
  split
  · next hw => exact .ite fun _ => queueGrant_kept s _ (by simp [hw])
  · exact .refl s

theorem admOutcomeEffect_kept (m : StartMessage) (o : DownOutcome) : SequencerKept s (admOutcomeEffect m o s) := by
  unfold admOutcomeEffect
  split
  · split
    · split
      · exact .refl s
      · exact setAdm_kept s id
    · split
      · exact setAdm_kept s (by simp)
      · exact endWindow_kept s _
  · split
    · exact .refl s
    · exact startReport_kept s _ _ _ _ _

theorem admOutcome_kept (o : DownOutcome) : SequencerKept s (admOutcome o s) := by
  unfold admOutcome
  split
  · exact .refl s
  · exact (((setAdm_kept s (by exact id)).trans (admOutcomeEffect_kept _ _ _)).trans (sendReleaseDue_kept _)).trans
      (sendHeldGrant_kept _)

theorem updateDrive_kept (n : Nat) (f : Drive → Drive) : SequencerKept s (updateDrive n f s) := setAdm_kept s id

theorem makePending_kept (d : Drive) (n : Nat) : SequencerKept s (makePending d n s) :=
  ((updateDrive_kept s _ _).trans (setAdm_kept _ (by exact id))).trans (startReport_kept _ _ _ _ _ _)

theorem dropPending_kept (n : Nat) : SequencerKept s (dropPending n s) :=
  (updateDrive_kept s _ _).trans (setAdm_kept _ (by exact id))

theorem withdrawRequest_kept (c : StartCause) (n : Nat) : SequencerKept s (withdrawRequest c s n) :=
  (dropPending_kept s n).trans (startReport_kept _ _ _ _ _ _)

theorem foldl_withdrawRequest_kept (c : StartCause) (l : List Nat) :
    SequencerKept s (l.foldl (withdrawRequest c) s) := by
  induction l generalizing s with
  | nil => exact .refl s
  | cons n rest ih => exact (withdrawRequest_kept s c n).trans (ih _)

theorem admStartRequest_kept (a n : Nat) : SequencerKept s (admStartRequest a n s) := by
  unfold admStartRequest
  split
  · exact startReport_kept s _ _ _ _ _
  · split
    · exact startReport_kept s _ _ _ _ _
    · split
      · exact startReport_kept s _ _ _ _ _
      · split
        · exact .refl s
        · exact makePending_kept s _ _

theorem admStartDone_kept (a n : Nat) : SequencerKept s (admStartDone a n s) := .ite fun _ => endWindow_kept s _

theorem admStartAbandon_kept (a n : Nat) : SequencerKept s (admStartAbandon a n s) := by
  unfold admStartAbandon
  split
  · exact endWindow_kept s _
  · split
    · exact .refl s
    · exact .ite fun _ => withdrawRequest_kept s _ _

theorem admPoint_kept (q : Multiples) : SequencerKept s (admPoint q s) := by
  unfold admPoint
  split <;> exact setAdm_kept s id

theorem afterRestoration_kept : SequencerKept s (afterRestoration s) := by
  unfold afterRestoration
  split
  · exact .trans (setAdm_kept s (by exact id)) (setAdm_kept _ (by exact id))
  · exact setAdm_kept s (by exact id)

/-- A window opens where its guard holds (R162, R163). -/
theorem openWindow_kept (d : Drive) (hguard : Guarded s) : SequencerKept s (openWindow d s) := by
  have hset (v : Admission) : SequencerKept s ((updateDrive d.drive (fun x => { x with request := .window }) s).setAdm v) :=
    ⟨id, fun _ _ => hguard⟩
  unfold openWindow
  dsimp only
  split
  · exact (hset _).trans (startReport_kept _ _ _ _ _ _)
  · exact ((hset _).trans (queueGrant_kept _ _ (by simp))).trans (startReport_kept _ _ _ _ _ _)

theorem guarded_of_admissionOpen (h : admissionOpen s = true) : Guarded s := by
  simp only [admissionOpen, Bool.and_eq_true, beq_iff_eq] at h
  obtain ⟨⟨⟨⟨-, hidle⟩, -⟩, hready⟩, hclosed⟩ := h
  exact ⟨hready, hclosed, .inl hidle⟩

theorem guarded_of_admittedDrive {d : Drive} (h : admittedDrive s = some d) : Guarded s := by
  unfold admittedDrive at h
  split at h
  · next hopen => exact guarded_of_admissionOpen s hopen
  · cases h

theorem rebuildDrives_kept (l : List DriveEntry) : SequencerKept s (rebuildDrives l s) := by
  have hset (v : Admission) (hv : v.window = s.adm.window) : SequencerKept s (s.setAdm v) :=
    setAdm_kept s fun h => hv ▸ h
  exact ((hset _ (by exact rfl)).trans (foldl_withdrawRequest_kept _ _ _)).trans (.ite fun _ => endWindow_kept _ _)

theorem drivesInvalid_kept : SequencerKept s (drivesInvalid s) := foldl_withdrawRequest_kept s _ _

end

end Sys2Proof.Machine

/-! PROOFS. The sequencer's shape and the guard of the start window: what the coil outputs, the sequencer, the breaker
interface, the regime unit and an evaluation point keep of the two. -/

namespace Sys2Proof.Machine

/-! ## The coil outputs -/

section
variable (s : State)

theorem setBrk_kept {v : Breaker} (hv : v.accepted = s.brk.accepted) : SequencerKept s (s.setBrk v) :=
  .of_same (by simp [hv])

theorem withdrawClose_kept : SequencerKept s (withdrawClose s) :=
  .ite fun _ => (releaseClose_kept s).trans (seqWithdrawn_kept _)

theorem tripRequest_kept (o : TripOrigin) : SequencerKept s (tripRequest o s) :=
  .ite fun _ => (withdrawClose_kept s).trans (setBrk_kept _ (by exact rfl))

theorem closeRequest_kept (o : CloseOrigin) : SequencerKept s (closeRequest o s) :=
  .ite fun _ => setBrk_kept s (by exact rfl)

end

/-! ## The reclose sequencer -/

section
variable (s : State)

/-- A departure from READY ends an open window, so a move keeps the guard whatever its record (R99, R165). -/
theorem seqMove_kept {r : Sequencer} (hr : Shaped s.brk.accepted s.seq → Shaped s.brk.accepted r) (e : SeqEvent)
    (o : Option ChangeOrigin) : SequencerKept s (seqMove r e o s) := by
  unfold seqMove
  split
  · exact .of_closed (fun hs => (endWindow_kept _ _).shape (seqTo_shape hr e o hs)) (endWindow_window _ _)
  · next hstays =>
    by_cases hready : s.seq.state = .ready
    · have hr' : r.state = s.seq.state := by
        rw [hready]
        by_contra hleft
        exact hstays ⟨hready, hleft⟩
      rw [seqTo, if_pos hr']
      exact setSeq_kept hr' hr
    · exact seqTo_kept hready hr e o

theorem seqMove_enterLockout_kept (c : LockoutCause) (e : SeqEvent) (o : Option ChangeOrigin) :
    SequencerKept s (seqMove (enterLockout c s.seq) e o s) :=
  seqMove_kept s (fun h => enterLockout_shaped h c) e o

theorem tripFromClosed_kept (t : LastTrip) (hs : s.seq.state ≠ .lockout) : SequencerKept s (tripFromClosed t s) := by
  unfold tripFromClosed
  split
  · exact seqMove_kept s (fun h => enterLockout_shaped (h.setLastTrip _) _) _ _
  · exact seqMove_kept s (fun h => enterOpening_shaped (h.known_of_state hs) t) _ _

theorem seqTrip_kept (t : LastTrip) : SequencerKept s (seqTrip t s) := by
  unfold seqTrip
  split
  · next hs => exact tripFromClosed_kept s t (by simp [hs])
  · next hs => exact tripFromClosed_kept s t (by simp [hs])
  · next hs => exact tripFromClosed_kept s t (by simp [hs])
  · exact setSeq_kept rfl fun h => h.setLastTrip _
  · exact seqMove_kept s (fun h => enterLockout_shaped (h.setLastTrip _) _) _ _
  · next hs => exact setSeq_kept rfl fun h => h.trippedInLockout hs t _

theorem openJudgement_kept (o : ChangeOrigin) (hs : s.seq.state = .opening) : SequencerKept s (openJudgement o s) := by
  unfold openJudgement
  split
  · exact seqMove_enterLockout_kept s _ _ _
  · have hmove := seqMove_kept s (fun h => enterDeadTime_shaped h hs (nextDeadTime s)) .openAccepted (some o)
    dsimp only
    split
    · exact hmove
    · refine hmove.trans (seqHold_kept _ ?_)
      rw [seqMove_of_not_ready (by simp [hs]), seqTo_seq]
      rfl

theorem externalClosing_kept (o : ChangeOrigin) (hacc : s.brk.accepted ≠ .none) :
    SequencerKept s (externalClosing o s) :=
  seqMove_kept s (fun h => enterReclaim_shaped (h.known_of_accepted hacc) _ _) _ _

theorem laterChange_kept (n : BreakerPos) (o : ChangeOrigin) (b : Bool) (hacc : s.brk.accepted ≠ .none) :
    SequencerKept s (laterChange n o b s) := by
  unfold laterChange
  split
  · next hs => exact .ite fun _ => openJudgement_kept s o hs
  · split
    · exact seqMove_enterLockout_kept s _ _ _
    · exact .ite fun _ => externalClosing_kept s o hacc
  · exact .ite fun _ => seqMove_enterLockout_kept s _ _ _
  · exact .ite fun _ => externalClosing_kept s o hacc
  · exact .ite fun _ => externalClosing_kept s o hacc
  · exact .refl s

theorem seqClosedOk_kept (hacc : s.brk.accepted ≠ .none) : SequencerKept s (seqClosedOk s) := by
  unfold seqClosedOk
  split
  · exact seqMove_kept s (fun h => enterReclaim_shaped (h.known_of_accepted hacc) _ _) _ _
  · exact seqMove_kept s (fun h => enterReclaim_shaped (h.known_of_accepted hacc) _ _) _ _
  all_goals exact .refl s

theorem seqTimedOut_kept : SequencerKept s (seqTimedOut s) := .ite fun _ => seqMove_enterLockout_kept s _ _ _

theorem seqBreakerFail_kept : SequencerKept s (seqBreakerFail s) := .ite fun _ => seqMove_enterLockout_kept s _ _ _

theorem seqGroupChange_kept : SequencerKept s (seqGroupChange s) := by
  unfold seqGroupChange
  split
  · split
    · exact seqMove_enterLockout_kept s _ _ _
    · exact .ite fun _ => seqMove_enterLockout_kept s _ _ _
  · exact .refl s

theorem ownTrip_kept : SequencerKept s (ownTrip s).2 := (tripRequest_kept s _).trans (seqTrip_kept _ _)

theorem accepted_of_closeGuards (h : closeGuards s = none) : s.brk.accepted = .opened := by
  by_contra hacc
  rw [closeGuards, if_pos (c := s.brk.accepted ≠ .opened) hacc] at h
  split at h <;> cases h

/-- A manual close is admitted on a breaker that is OPEN, so the position is known (R96). -/
theorem ownClose_kept : SequencerKept s (ownClose s).2 := by
  unfold ownClose
  split
  · exact .refl s
  · next hguards =>
    split
    · exact .refl s
    · have hacc : (closeRequest .manual s).brk.accepted = .opened := by
        rw [← accepted_of_closeGuards s hguards]
        unfold closeRequest
        split <;> rfl
      refine (closeRequest_kept s .manual).trans (seqMove_kept _ (fun h => ?_) _ _)
      have hseq : (closeRequest .manual s).seq = s.seq := by simp
      rw [hseq] at h
      exact enterManualClosing_shaped (h.known_of_accepted (by simp [hacc]))

theorem judgeReset_kept : SequencerKept s (judgeReset s).2 := by
  unfold judgeReset
  split
  · exact .refl s
  · next hlock =>
    split
    · exact .refl s
    · next hpos =>
      split
      · exact .refl s
      · exact seqMove_kept s (fun h => enterReady_shaped h (h.known_of_not_awaited (by simpa using hpos))
          (.inr (by simpa using hlock))) _ _

theorem ownResetLockout_kept : SequencerKept s (ownResetLockout s).2 :=
  (setCondition_kept s _ _).trans (judgeReset_kept _)

theorem deadTimeEnds_kept (hs : s.seq.state = .deadTime) : SequencerKept s (deadTimeEnds s) := by
  have hclosing := seqMove_kept s (fun h => enterAutoClosing_shaped h hs) .expiry none
  unfold deadTimeEnds
  split
  · exact seqMove_enterLockout_kept s _ _ _
  · dsimp only
    split
    · exact hclosing.trans (closeRequest_kept _ _)
    · exact hclosing.trans (seqMove_enterLockout_kept _ _ _ _)

/-- READY is entered from RECLAIM, where the position is known (R90). -/
theorem seqMove_enterReady_kept (hs : s.seq.state = .reclaim) (e : SeqEvent) (o : Option ChangeOrigin) :
    SequencerKept s (seqMove (enterReady s.seq) e o s) :=
  seqMove_kept s (fun h => enterReady_shaped h (h.known_of_state (by simp [hs])) (.inl hs)) e o

theorem paceSequencer_state (r : Sequencer) : (paceSequencer r).state = r.state := by
  unfold paceSequencer
  split
  · split <;> rfl
  all_goals rfl

end

/-! ## The breaker interface -/

section
variable (s : State)

theorem completeTrip_kept : SequencerKept s (completeTrip s) :=
  .trans (.ite fun _ => .of_same (by simp)) (setCondition_kept _ _ _)

theorem completeClose_kept (hacc : s.brk.accepted ≠ .none) : SequencerKept s (completeClose s) :=
  .ite fun _ => (releaseClose_kept s).trans (seqClosedOk_kept _ (by simpa using hacc))

theorem endSuspension_kept : SequencerKept s (endSuspension s) := .of_same (by simp)

theorem ownOutputs_kept (n : BreakerPos) (hacc : s.brk.accepted ≠ .none) : SequencerKept s (ownOutputs n s) := by
  unfold ownOutputs
  split
  · exact (endSuspension_kept s).trans (completeTrip_kept _)
  · exact completeClose_kept s hacc
  all_goals exact .refl s

/-- The record once a first position has been accepted: it waits in LOCKOUT no longer (R101). -/
theorem initialChange_shape {pos n : BreakerPos} (hpos : pos ≠ .none) (hacc : s.brk.accepted = pos)
    (h : Shaped .none s.seq) : SequencerShape (initialChange n s) := by
  have hlock : s.seq.state = .lockout := h.awaited (h.position.mpr rfl)
  have hstays : Shaped pos { s.seq with posAwaited := false } := by
    obtain ⟨ht, hr, hc, ho, hw, hh, -, -⟩ := h
    exact ⟨ht, hr, hc, ho, hw, hh, nofun, by simp [hpos]⟩
  unfold initialChange
  dsimp only
  split
  · rw [seqMove_of_not_ready (by simp [hlock]), sequencerShape_iff, seqTo_seq]
    obtain ⟨ht, hr, -, ho, hw, hh, -, hp⟩ := hstays
    simp only [hlock] at ht ho hw hh
    simp only [seqTo_frame, hacc]
    constructor <;> simp_all
  · rw [sequencerShape_iff]
    simpa [hacc] using hstays

theorem changeOrigin_of_none {b : Breaker} (h : b.accepted = .none) (n : BreakerPos) : changeOrigin b n = .initial :=
  if_pos h

theorem accepted_of_contacts {b b' : Breaker} (h : b.contacts = b'.contacts) : b.accepted = b'.accepted :=
  congrArg (fun c => c.2.1) h

/-- A new position, handed to the admission unit: its window ends unless the breaker is CLOSED (R165). -/
def positionTaken (n : BreakerPos) (s : State) : State :=
  if n = .closed then s.setBrk { s.brk with accepted := n }
  else endWindow .breakerChange (s.setBrk { s.brk with accepted := n })

theorem acceptPosition_eq (n : BreakerPos) :
    acceptPosition n s = ownOutputs n (seqBreakerChange n (changeOrigin s.brk n) (positionTaken n s)) := rfl

theorem positionTaken_accepted (n : BreakerPos) : (positionTaken n s).brk.accepted = n := by
  unfold positionTaken
  split
  · rfl
  · exact accepted_of_contacts (endWindow_contacts _ _)

theorem seqBreakerChange_accepted (n : BreakerPos) (o : ChangeOrigin) :
    (seqBreakerChange n o s).brk.accepted = s.brk.accepted := accepted_of_contacts (seqBreakerChange_contacts n o s)

end

section
variable {s : State} {n : BreakerPos} (hn : n ≠ .none)
include hn

/-- A position that follows another is handed on with both invariants. -/
theorem positionTaken_kept (hacc : s.brk.accepted ≠ .none) : SequencerKept s (positionTaken n s) := by
  have hshape (hs : SequencerShape s) : SequencerShape (s.setBrk { s.brk with accepted := n }) :=
    (sequencerShape_iff _).mpr (((sequencerShape_iff s).mp hs).setPosition hacc hn)
  unfold positionTaken
  split
  · next hclosed =>
    refine ⟨hshape, fun hg ho => ?_⟩
    obtain ⟨hready, -, hwait⟩ := hg ho
    exact ⟨hready, hclosed, hwait⟩
  · exact .of_closed (fun hs => (endWindow_kept _ _).shape (hshape hs)) (endWindow_window _ _)

theorem acceptPosition_kept_of_later (hacc : s.brk.accepted ≠ .none) : SequencerKept s (acceptPosition n s) := by
  have hset (u : State) (b : Bool) : SequencerKept u (u.setSeq { u.seq with closedLast := b }) :=
    setSeq_kept rfl fun h => h.setClosedLast b
  have hchange (u : State) (hu : u.brk.accepted = n) : SequencerKept u (seqBreakerChange n (changeOrigin s.brk n) u) := by
    unfold seqBreakerChange
    rw [if_neg (changeOrigin_ne_initial hacc n)]
    exact (hset u _).trans (laterChange_kept _ _ _ _ (by simpa [hu] using hn))
  have htaken := positionTaken_accepted s n
  rw [acceptPosition_eq]
  exact ((positionTaken_kept hn hacc).trans (hchange _ htaken)).trans
    (ownOutputs_kept _ _ (by rwa [seqBreakerChange_accepted, htaken]))

/-- The first position of all finds the sequencer in LOCKOUT, whose record no window's end reaches (R101). -/
theorem acceptPosition_shape_of_first (hacc : s.brk.accepted = .none) (hs : SequencerShape s) :
    SequencerShape (acceptPosition n s) := by
  rw [sequencerShape_iff, hacc] at hs
  have hlock : s.seq.state = .lockout := hs.awaited (hs.position.mpr rfl)
  have htaken := positionTaken_accepted s n
  have hseq : (positionTaken n s).seq = s.seq := by
    unfold positionTaken
    split
    · rfl
    · rw [endWindow_seq] <;> simp [hlock]
  rw [acceptPosition_eq, changeOrigin_of_none hacc]
  refine (ownOutputs_kept _ _ (by rwa [seqBreakerChange_accepted, htaken])).shape ?_
  refine initialChange_shape _ hn htaken ?_
  rw [hseq]
  exact hs.setClosedLast _

theorem acceptPosition_guard_of_first (hacc : s.brk.accepted = .none) (hg : WindowGuarded s) :
    WindowGuarded (acceptPosition n s) := by
  have hwindow : s.adm.window = none := by
    by_contra ho
    obtain ⟨-, hclosed, -⟩ := hg (Option.isSome_iff_ne_none.mpr ho)
    simp [hacc] at hclosed
  have htaken : (positionTaken n s).adm.window = none := by
    unfold positionTaken
    split
    · exact hwindow
    · exact endWindow_window _ _
  obtain ⟨-, -, -, hadm, -⟩ := seqBreakerChange_of_no_window htaken n (changeOrigin s.brk n)
  rw [acceptPosition_eq]
  refine (ownOutputs_kept _ _ ?_).guard fun ho => ?_
  · rwa [seqBreakerChange_accepted, positionTaken_accepted]
  · simp [hadm, htaken] at ho

theorem acceptPosition_kept : SequencerKept s (acceptPosition n s) := by
  by_cases hacc : s.brk.accepted = .none
  · exact ⟨acceptPosition_shape_of_first hn hacc, acceptPosition_guard_of_first hn hacc⟩
  · exact acceptPosition_kept_of_later hn hacc

end

theorem positionOf_ne_none (a b : Bool) : positionOf a b ≠ .none := by cases a <;> cases b <;> simp [positionOf]

section
variable (s : State)

theorem scanPosition_kept (a b : Bool) : SequencerKept s (scanPosition a b s) :=
  (setBrk_kept s (by exact rfl)).trans (.ite fun _ => acceptPosition_kept (positionOf_ne_none a b))

theorem scanReady_kept (level : Bool) : SequencerKept s (scanReady level s) :=
  (setBrk_kept s (by exact rfl)).trans
    (.ite fun _ => (setBrk_kept _ (by exact rfl)).trans (setCondition_kept _ _ _))

theorem tripTimeout_kept : SequencerKept s (tripTimeout s) := by
  have hreleased : SequencerKept s (tripReleased s) := (setBrk_kept s (by exact rfl)).trans (setCondition_kept _ _ _)
  rw [tripTimeout_eq]
  split
  · exact hreleased.trans (endSuspension_kept _)
  · exact (hreleased.trans (seqBreakerFail_kept _)).trans (endSuspension_kept _)

/-- The pacing of the timers keeps the record's shape, and the hunt controller's state and the window's presence (R83, R84,
R90, R163). -/
theorem ticked_kept : SequencerKept s (ticked s) := by
  have hwindow : (ticked s).adm.window.isSome = s.adm.window.isSome := by simp [ticked, paceTimers, advanceTime]
  refine ⟨fun hs => (sequencerShape_iff _).mpr ((sequencerShape_iff s).mp hs).paced, fun hg ho => ?_⟩
  obtain ⟨hready, hclosed, hwait⟩ := hg (hwindow ▸ ho)
  exact ⟨(paceSequencer_state s.seq).trans hready, hclosed, hwait⟩

end

/-! ## The regime unit -/

section
variable (s : State)

theorem setRegime_kept (v : Regime) : SequencerKept s (s.setRegime v) := .of_same (by simp)

theorem judgeFireStale_kept : SequencerKept s (judgeFireStale s) := setCondition_kept s _ _

theorem judgeFireRegime_kept : SequencerKept s (judgeFireRegime s) := setCondition_kept s _ _

theorem recompute_kept : SequencerKept s (recompute s) := .of_same (by simp)

theorem withOverride_kept (o : Option Nat) : SequencerKept s (withOverride o s) := .of_same (by simp)

theorem takeIntoForce_kept (g : Nat) : SequencerKept s (takeIntoForce g s) := by
  have htaken := (setRegime_kept s (takenRegime g s)).trans (addReport_kept _ (.group (takeReport g s)))
  unfold takeIntoForce
  dsimp only
  split
  · exact htaken.trans (judgeFireRegime_kept _)
  · exact ((htaken.trans (seqGroupChange_kept _)).trans (huntGroupChange_kept _)).trans (judgeFireRegime_kept _)

theorem regimeStages_kept : SequencerKept s (regimeStages s) := .of_same (by simp)

theorem groupWork_kept : SequencerKept s (groupWork s) := by
  unfold groupWork
  dsimp only
  split
  · exact (regimeStages_kept s).trans (takeIntoForce_kept _ _)
  · exact regimeStages_kept s

end

/-! ## The protection unit and the measurement unit -/

section
variable (s : State)

theorem setProt_kept (v : Protection) : SequencerKept s (s.setProt v) := .of_same (by simp)

/-- A trip may leave a hunt SETTLING while the window is still open: the end of the window follows it (R32). -/
theorem beforeSequencer_kept (t : Trip) : SequencerKept s (beforeSequencer t s) := by
  have hrequested := (addReport_kept s (tripReport t s)).trans (tripRequest_kept _ .protection)
  exact .of_closed (fun hs => (endWindow_kept _ _).shape (huntAbort_shape _ _ (hrequested.shape hs)))
    (beforeSequencer_window t s)

theorem handTrip_kept (t : Trip) : SequencerKept s (handTrip t s) := (beforeSequencer_kept s t).trans (seqTrip_kept _ _)

theorem issueTrip_kept (t : Trip) : SequencerKept s (issueTrip t s) := (setProt_kept s _).trans (handTrip_kept _ _)

theorem sefStage_kept : SequencerKept s (sefStage s) :=
  ((setProt_kept s _).trans (setCondition_kept _ _ _)).trans (.ite fun _ => huntRequestSef_kept _)

theorem protPoint_kept (q : Multiples) (b : Bool) : SequencerKept s (protPoint q b s) := by
  by_cases h : tripEntries s.settings q (stepValues s.regime.inForce q s.prot) = []
  · rw [protPoint_of_no_entry h]
    exact (setProt_kept s _).trans (sefStage_kept _)
  · obtain ⟨trip, e⟩ := protPoint_of_entry h
    rw [e]
    exact ((setProt_kept s _).trans (issueTrip_kept _ _)).trans (sefStage_kept _)

theorem protLoss_kept : SequencerKept s (protLoss s) := (setProt_kept s _).trans (setCondition_kept _ _ _)

theorem evaluationPoint_kept : SequencerKept s (evaluationPoint s) := by
  have hstored (u : State) : SequencerKept u (storeRecord u) := .of_same (by simp)
  have hhanded (u : State) : SequencerKept u (handPoint u) := (admPoint_kept u _).trans (protPoint_kept _ _ _)
  exact (((groupWork_kept s).trans (hstored _)).trans (setCondition_kept _ _ _)).trans (hhanded _)

theorem acceptSet_kept (set : SampleSet) : SequencerKept s (acceptSet set s) := by
  have htaken : SequencerKept s (takenIn set s) := .of_same (by simp [takenIn])
  cases h : raisesPoint (measBefore set s)
  · rwa [acceptSet_of_no_point h]
  · rw [acceptSet_of_point h]
    exact htaken.trans (evaluationPoint_kept _)

end

end Sys2Proof.Machine

/-! PROOFS. The sequencer's shape and the guard of the start window across every command: the pilot bus controller, the
settings store, the host's commands, the restart, and every step. -/

namespace Sys2Proof.Machine

/-! ## The pilot bus controller -/

section
variable (s : State)

theorem setPilot_kept (v : Pilot) : SequencerKept s (s.setPilot v) := .of_same (by simp)

theorem settle_kept : SequencerKept s (settle s) := .of_same (by simp)

theorem resettle_kept : SequencerKept s (resettle s) := .of_same (by simp)

theorem takeHalf_kept (up : BitVec 32) : SequencerKept s (takeHalf up s) := .of_same (by simp)

/-- A message in flight is noted by its requester, whose state and window stand (R133, R148, R164). -/
theorem noteInFlight_kept (m : DownMessage) : SequencerKept s (noteInFlight m s) := by
  unfold noteInFlight
  split
  · exact setHunt_kept_of_state rfl
  · refine setAdm_kept s fun ho => ?_
    dsimp only at ho
    split at ho
    · simpa using ho
    · exact ho
  all_goals exact updateStation_kept s _ _

theorem arbitrate_kept : SequencerKept s (arbitrate s) := by
  unfold arbitrate
  split
  · split
    · exact (setPilot_kept s _).trans (noteInFlight_kept _ _)
    · exact .refl s
  · exact .refl s

theorem changeStation_kept (old new : Station) (q : Option QueryResult) :
    SequencerKept s (changeStation old new q s) := by
  have hreport (u : State) : SequencerKept u (reportStation new q u) := .of_same (by simp)
  unfold changeStation
  dsimp only
  split
  · exact ((updateStation_kept s _ _).trans (hreport _)).trans (setCondition_kept _ _ _)
  · exact (updateStation_kept s _ _).trans (setCondition_kept _ _ _)

theorem missedAnswer_kept (st : Station) : SequencerKept s (missedAnswer st s) := changeStation_kept s _ _ _

theorem queryOutcome_kept (o : DownOutcome) (a : Nat) : SequencerKept s (queryOutcome o a s) := by
  unfold queryOutcome
  split
  · exact .refl s
  · split
    · split
      · exact updateStation_kept s _ _
      · exact missedAnswer_kept s _
    · exact updateStation_kept s _ _
    all_goals exact .refl s

theorem handOutcome_kept (m : DownMessage) (o : DownOutcome) : SequencerKept s (handOutcome m o s) := by
  unfold handOutcome
  split
  · exact huntOutcome_kept s _
  · exact admOutcome_kept s _
  all_goals exact queryOutcome_kept s _ _

theorem endMessage_kept : SequencerKept s (endMessage s) := by
  unfold endMessage
  split
  · exact (setPilot_kept s _).trans (handOutcome_kept _ _ _)
  · exact setPilot_kept s _

theorem deliverTo_kept (a : Nat) (f : Station → Station) (q : Station → Option QueryResult) :
    SequencerKept s (deliverTo a f q s) := by
  unfold deliverTo
  split
  · exact changeStation_kept s _ _ _
  · exact .refl s

theorem closeDelivery_kept : SequencerKept s (closeDelivery s) := .of_same (by simp)

theorem rebuildStations_kept (l : List StationEntry) : SequencerKept s (rebuildStations l s) :=
  (setPilot_kept s _).trans (setCondition_kept _ _ _)

theorem stationsInvalid_kept : SequencerKept s (stationsInvalid s) := .of_same (by simp)

end

/-! ## The settings store -/

section
variable (s : State)

theorem setStore_kept (v : Store) : SequencerKept s (s.setStore v) := .of_same (by simp)

theorem judgeIntegrity_kept : SequencerKept s (judgeIntegrity s) := setCondition_kept s _ _

theorem plantChanged_kept : SequencerKept s (plantChanged s) :=
  (((applyTable_kept s).trans (judgeFireStale_kept _)).trans (judgeFireRegime_kept _)).trans (recompute_kept _)

theorem usersAccept_kept (i : ImageId) : SequencerKept s (usersAccept i s) := by
  cases i with
  | plant => exact plantChanged_kept s
  | stations => exact rebuildStations_kept s _
  | curve0 | curve1 | curve2 | curve3 | group0 | group1 | group2 | group3 => exact .of_same (by simp [usersAccept])
  | hunt => exact .refl s
  | drives => exact rebuildDrives_kept s _

theorem usersInvalid_kept (i : ImageId) : SequencerKept s (usersInvalid i s) := by
  cases i with
  | plant => exact plantChanged_kept s
  | stations => exact stationsInvalid_kept s
  | curve0 | curve1 | curve2 | curve3 | group0 | group1 | group2 | group3 => exact recompute_kept s
  | hunt => exact .refl s
  | drives => exact drivesInvalid_kept s

theorem checkImage_kept (i : ImageId) : SequencerKept s (checkImage s i) := by
  have hchecked : SequencerKept s (updateImage i checkedImage s) := setStore_kept s _
  unfold checkImage
  dsimp only
  split
  · exact ((hchecked.trans (addReport_kept _ _)).trans (usersInvalid_kept _ i)).trans (judgeIntegrity_kept _)
  · exact hchecked

theorem foldl_checkImage_kept (l : List ImageId) : SequencerKept s (l.foldl checkImage s) := by
  induction l generalizing s with
  | nil => exact .refl s
  | cons i rest ih => exact (checkImage_kept s i).trans (ih _)

theorem endCheck_kept : SequencerKept s (endCheck s) := by
  unfold endCheck
  split
  · exact checkImage_kept s _
  · exact .refl s

theorem fullPass_kept : SequencerKept s (fullPass s) :=
  (((setStore_kept s _).trans (foldl_checkImage_kept _ _)).trans (setStore_kept _ _)).trans (addReport_kept _ _)

theorem acceptImage_kept (i : ImageId) (l : List Byte) (w : Word16) : SequencerKept s (acceptImage i l w s) :=
  .trans (.trans (.of_same (by simp)) (judgeIntegrity_kept _)) (usersAccept_kept _ i)

end

/-! ## The full restart -/

/-- A restart waits for a first position in LOCKOUT, with no window open (R101, R167). -/
theorem fullRestart_kept (k : RestartCause) (b1 b0 : Bool) (s : State) : SequencerKept s (fullRestart k b1 b0 s) := by
  refine .of_closed (fun _ => ?_) rfl
  rw [sequencerShape_iff]
  constructor <;> simp [fullRestart, restarted, sequencerAtRestart, breakerAtRestart]

/-! ## Host commands -/

section
variable (s : State)

theorem setHost_kept (v : HostIf) : SequencerKept s (s.setHost v) := .of_same (by simp)

/-- A command's row keeps the two invariants when the command's owner does (R170). -/
theorem runCommand_kept (k : CommandKind) {own : List Byte → State → Reply × State}
    (hown : ∀ p u, SequencerKept u (own p u).2) : SequencerKept s (runCommand k own s) := by
  unfold runCommand
  split
  · unfold execute
    split
    · exact ((setHost_kept s _).trans (hown _ (popCommand s))).trans (setHost_kept _ _)
    · exact (setHost_kept s _).trans (setHost_kept (popCommand s) _)
  · exact .refl s

theorem runRestart_kept (other : List Byte) : SequencerKept s (runRestart other s) := by
  refine .of_same ?_
  unfold runRestart executeRestart linkRestartTaken fullRestartTaken
  repeat' split
  all_goals exact ⟨rfl, rfl, rfl, rfl⟩

theorem ownLoadImage_kept (p : List Byte) : SequencerKept s (ownLoadImage p s).2 := by
  unfold ownLoadImage
  dsimp only
  split
  · exact .refl s
  · split
    · exact .refl s
    · split
      · exact .refl s
      · split
        · exact .refl s
        · split
          · exact acceptImage_kept s _ _ _
          · exact .refl s

theorem ownSetFireLevel_kept (p : List Byte) : SequencerKept s (ownSetFireLevel p s).2 := by
  unfold ownSetFireLevel
  dsimp only
  split
  · exact .refl s
  · exact (setRegime_kept s _).trans (judgeFireStale_kept _)

theorem ownSelectGroup_kept (p : List Byte) : SequencerKept s (ownSelectGroup p s).2 := by
  unfold ownSelectGroup
  dsimp only
  split
  · exact withOverride_kept s _
  · split
    · exact .refl s
    · split
      · exact .refl s
      · exact withOverride_kept s _

theorem ownSetPermit_kept (p : List Byte) : SequencerKept s (ownSetPermit p s).2 := by
  unfold ownSetPermit
  split
  · exact .refl s
  · split
    · exact .refl s
    · exact setCondition_kept s _ _

theorem ownAckConditions_kept (p : List Byte) : SequencerKept s (ownAckConditions p s).2 := by
  unfold ownAckConditions
  dsimp only
  split
  · exact .refl s
  · exact (replaceRecords_kept s _ _).trans (huntBarArrival_kept _ _)

theorem ownStartHunt_kept (p : List Byte) : SequencerKept s (ownStartHunt p s).2 := by
  unfold ownStartHunt
  split
  · exact .refl s
  · exact admitHunt_kept s _

theorem ownStopHunt_kept (p : List Byte) : SequencerKept s (ownStopHunt p s).2 := by
  unfold ownStopHunt
  split
  · exact .refl s
  · exact huntAbort_kept s (by decide)

theorem ownRequestStart_kept (p : List Byte) : SequencerKept s (ownRequestStart p s).2 := by
  unfold ownRequestStart
  dsimp only
  split
  · exact .refl s
  · split
    · exact .refl s
    · split
      · exact .refl s
      · split
        · exact .refl s
        · split
          · exact .refl s
          · exact makePending_kept s _ _

theorem ownCancelStart_kept (p : List Byte) : SequencerKept s (ownCancelStart p s).2 := by
  unfold ownCancelStart
  dsimp only
  split
  · exact .refl s
  · split
    · exact .refl s
    · split
      · exact .refl s
      · exact withdrawRequest_kept s _ _
      · exact endWindow_kept s _

theorem ownPilotQuery_kept (p : List Byte) : SequencerKept s (ownPilotQuery p s).2 := by
  unfold ownPilotQuery
  dsimp only
  split
  · exact .refl s
  · split
    · exact .refl s
    · split
      · exact .of_same (by simp)
      · split
        · next hj =>
          have hf := joinQueue_frame hj
          exact .of_same (by simp [hf])
        · exact .refl s

end

/-! ## Every command -/

section
variable (s : State)

/-- A row that acts when it is due, and leaves the state alone when it is not. -/
theorem ends_ite_kept {p : Prop} [Decidable p] {t : State} (h : p → SequencerKept s t) :
    Ends (.next (if p then t else s)) (SequencerKept s) := (ends_next _ _).mpr (.ite h)

/-- A host command's row, by its owner. -/
theorem ends_runCommand_kept {k : CommandKind} {own : List Byte → State → Reply × State}
    (hown : ∀ p u, SequencerKept u (own p u).2) : Ends (.next (runCommand k own s)) (SequencerKept s) :=
  (ends_next _ _).mpr (runCommand_kept s k hown)

theorem execTimeBaseEvent_kept (a b r : Bool) : Ends (exec (.timeBaseEvent a b r) s) (SequencerKept s) := by
  rw [execTimeBaseEvent_eq, ends_next]
  exact ((ticked_kept s).trans (scanPosition_kept _ _ _)).trans (scanReady_kept _ _)

theorem execBackingWriteCompletion_kept (b : Bool) : Ends (execBackingWriteCompletion b s) (SequencerKept s) := by
  rw [execBackingWriteCompletion, ends_next]
  dsimp only
  split
  · exact .refl s
  · split <;> exact .of_same (by simp)

theorem execDownMessageEnd_kept : Ends (execDownMessageEnd s) (SequencerKept s) := by
  refine ends_ite_kept s fun _ => ?_
  dsimp only
  split
  · exact ((endMessage_kept s).trans (arbitrate_kept _)).trans (settle_kept _)
  · exact endMessage_kept s

theorem execStatus_kept : Ends (execStatus s) (SequencerKept s) := by
  rw [execStatus, ends_next]
  split
  · exact (deliverTo_kept s _ _ _).trans (closeDelivery_kept _)
  · exact .refl s

theorem execSwitchDone_kept : Ends (execSwitchDone s) (SequencerKept s) := by
  rw [execSwitchDone, ends_next]
  split
  · exact ((deliverTo_kept s _ _ _).trans (huntSwitchDone_kept _ _ _)).trans (closeDelivery_kept _)
  · exact .refl s

theorem execStartRequest_kept : Ends (execStartRequest s) (SequencerKept s) := by
  rw [execStartRequest, ends_next]
  split
  · exact ((deliverTo_kept s _ _ _).trans (admStartRequest_kept _ _ _)).trans (closeDelivery_kept _)
  · exact .refl s

theorem execStartDone_kept : Ends (execStartDone s) (SequencerKept s) := by
  rw [execStartDone, ends_next]
  split
  · exact ((deliverTo_kept s _ _ _).trans (admStartDone_kept _ _ _)).trans (closeDelivery_kept _)
  · exact .refl s

theorem execStartAbandon_kept : Ends (execStartAbandon s) (SequencerKept s) := by
  rw [execStartAbandon, ends_next]
  split
  · exact ((deliverTo_kept s _ _ _).trans (admStartAbandon_kept _ _ _)).trans (closeDelivery_kept _)
  · exact .refl s

theorem execPollTimerExpiry_kept : Ends (execPollTimerExpiry s) (SequencerKept s) := by
  refine ends_ite_kept s fun _ => .of_same ?_
  dsimp only
  repeat' split
  all_goals simp

theorem execReplyWaitExpiry_kept (a : Nat) : Ends (execReplyWaitExpiry a s) (SequencerKept s) := by
  rw [execReplyWaitExpiry, ends_next]
  split
  · exact .ite fun _ => missedAnswer_kept s _
  · exact .refl s

theorem execSwitchWaitExpiry_kept : Ends (execSwitchWaitExpiry s) (SequencerKept s) := by
  refine ends_ite_kept s fun _ => ?_
  split
  · next hs => exact stepOver_kept (by simp [hs]) _ _
  · exact restoreFailed_kept s _
  all_goals exact .refl s

theorem execDwellExpiry_kept : Ends (execDwellExpiry s) (SequencerKept s) := by
  refine ends_ite_kept s fun hdue => ?_
  simp only [Bool.and_eq_true, beq_iff_eq] at hdue
  obtain ⟨-, hdwell⟩ := hdue
  exact judgeDwell_kept (by simp [hdwell])

theorem execWholeSecondBoundary_kept : Ends (execWholeSecondBoundary s) (SequencerKept s) := by
  have hset : SequencerKept s (s.setDue { s.due with second := false }) := .of_same (by simp)
  refine ends_ite_kept s fun _ => ?_
  dsimp only
  split
  · next hd =>
    exact (hset.trans (afterRestoration_kept _)).trans (openWindow_kept _ _ (guarded_of_admittedDrive _ hd))
  · exact hset.trans (afterRestoration_kept _)

theorem execRequestLifetimeExpiry_kept (n : Nat) : Ends (execRequestLifetimeExpiry n s) (SequencerKept s) := by
  rw [execRequestLifetimeExpiry, ends_next]
  split
  · exact .ite fun _ => (dropPending_kept s n).trans (startReport_kept _ _ _ _ _ _)
  · exact .refl s

theorem execHostRecordArrival_kept : Ends (execHostRecordArrival s) (SequencerKept s) := by
  rw [execHostRecordArrival, ends_next]
  split
  · exact setHost_kept s _
  · exact .refl s

theorem execTransmissionEnd_kept : Ends (execTransmissionEnd s) (SequencerKept s) := by
  rw [execTransmissionEnd, ends_next]
  split
  · exact .refl s
  all_goals exact setHost_kept s _

/-- Every command keeps the sequencer's shape and the window's guard. -/
theorem exec_kept (c : Instr) : Ends (exec c s) (SequencerKept s) := by
  cases c with
  | fullRestart k b1 b0 =>
    exact (ends_next _ _).mpr ((fullRestart_kept (causeOf k) b1 b0 s).trans (.of_same (by simp)))
  | fullRestartByCommand b1 b0 => exact ends_ite_kept s fun _ => fullRestart_kept _ _ _ s
  | timeBaseEvent a b r => exact execTimeBaseEvent_kept s a b r
  | sampleSetArrival n f => exact ends_ite_kept s fun _ => acceptSet_kept s _
  | lossDeclared =>
    exact ends_ite_kept s fun _ =>
      .trans (.trans (.of_same (by simp)) (setCondition_kept _ _ _)) (protLoss_kept _)
  | tripTimerExpiry => exact ends_ite_kept s fun _ => tripTimeout_kept s
  | closeTimerExpiry =>
    exact ends_ite_kept s fun _ =>
      ((releaseClose_kept s).trans (setCondition_kept _ _ _)).trans (seqTimedOut_kept _)
  | deadTimerExpiry =>
    refine ends_ite_kept s fun hdue => deadTimeEnds_kept s ?_
    simp only [deadTimerDue, Bool.and_eq_true, beq_iff_eq] at hdue
    obtain ⟨⟨hdead, -⟩, -⟩ := hdue
    exact hdead
  | holdExceeded => exact ends_ite_kept s fun _ => seqMove_enterLockout_kept s _ _ _
  | reclaimTimerExpiry =>
    refine ends_ite_kept s fun hdue => seqMove_enterReady_kept s ?_ _ _
    simp only [reclaimDue, Bool.and_eq_true, beq_iff_eq] at hdue
    obtain ⟨hreclaim, -⟩ := hdue
    exact hreclaim
  | scanEvent =>
    exact ends_ite_kept s fun _ => .trans (.trans (.of_same (by simp)) (endCheck_kept _)) (setStore_kept _ _)
  | backingWriteCompletion b => exact execBackingWriteCompletion_kept s b
  | fireLevelExpiry => exact ends_ite_kept s fun _ => (setRegime_kept s _).trans (judgeFireStale_kept _)
  | slotEvent up =>
    exact ends_ite_kept s fun _ =>
      .trans (.trans (.trans (.of_same (by simp)) (takeHalf_kept _ up)) (arbitrate_kept _)) (settle_kept _)
  | takeTimeout | holdingTimeout | refusingEnd =>
    exact ends_ite_kept s fun _ => (setPilot_kept s _).trans (resettle_kept _)
  | downMessageEnd => exact execDownMessageEnd_kept s
  | coolDownEnd => exact ends_ite_kept s fun _ => setPilot_kept s _
  | status => exact execStatus_kept s
  | switchDone => exact execSwitchDone_kept s
  | startRequest => exact execStartRequest_kept s
  | startDone => exact execStartDone_kept s
  | startAbandon => exact execStartAbandon_kept s
  | pollTimerExpiry => exact execPollTimerExpiry_kept s
  | replyWaitExpiry a => exact execReplyWaitExpiry_kept s a
  | switchWaitExpiry => exact execSwitchWaitExpiry_kept s
  | dwellExpiry => exact execDwellExpiry_kept s
  | settlingEnd =>
    exact ends_ite_kept s fun _ => .trans (setHunt_kept (by exact fun _ _ => .inl rfl)) (ownerReport_kept _ _ _)
  | wholeSecondBoundary => exact execWholeSecondBoundary_kept s
  | requestLifetimeExpiry n => exact execRequestLifetimeExpiry_kept s n
  | startWindowExpiry => exact ends_ite_kept s fun _ => endWindow_kept s _
  | hostRecordArrival => exact execHostRecordArrival_kept s
  | receiveTimeout | transmissionStart => exact ends_ite_kept s fun _ => setHost_kept s _
  | transmissionEnd => exact execTransmissionEnd_kept s
  | hostByteReceived b => exact (ends_next _ _).mpr (setHost_kept s _)
  | echo => exact ends_runCommand_kept s fun _ u => .refl u
  | readStatus => exact ends_runCommand_kept s fun p u => (ownReadStatus_state p u).symm ▸ .refl u
  | readMeasure => exact ends_runCommand_kept s fun _ u => .refl u
  | readImage => exact ends_runCommand_kept s fun p u => (ownReadImage_state p u).symm ▸ .refl u
  | loadImage => exact ends_runCommand_kept s fun p u => ownLoadImage_kept u p
  | checkImages => exact ends_runCommand_kept s fun _ u => fullPass_kept u
  | setFireLevel => exact ends_runCommand_kept s fun p u => ownSetFireLevel_kept u p
  | selectGroup => exact ends_runCommand_kept s fun p u => ownSelectGroup_kept u p
  | trip => exact ends_runCommand_kept s fun _ u => ownTrip_kept u
  | close => exact ends_runCommand_kept s fun _ u => ownClose_kept u
  | resetLockout => exact ends_runCommand_kept s fun _ u => ownResetLockout_kept u
  | setPermit => exact ends_runCommand_kept s fun p u => ownSetPermit_kept u p
  | ackConditions => exact ends_runCommand_kept s fun p u => ownAckConditions_kept u p
  | startHunt => exact ends_runCommand_kept s fun p u => ownStartHunt_kept u p
  | stopHunt => exact ends_runCommand_kept s fun p u => ownStopHunt_kept u p
  | requestStart => exact ends_runCommand_kept s fun p u => ownRequestStart_kept u p
  | cancelStart => exact ends_runCommand_kept s fun p u => ownCancelStart_kept u p
  | pilotQuery => exact ends_runCommand_kept s fun p u => ownPilotQuery_kept u p
  | setReportMask => exact ends_runCommand_kept s fun _ u => setHost_kept u _
  | restartLink | restartFull => exact (ends_next _ _).mpr (runRestart_kept s _)

end

theorem step_kept {s t : State} (e : step s = .next t) : SequencerKept s t := by
  unfold step at e
  split at e
  · cases e
    exact .refl s
  · next c rest _ => exact .trans (.of_same (by simp)) (exec_kept (s.setPending rest) c t e)

/-- Settles O57: every step keeps the record's shape and the window's guard, each by itself. -/
theorem stepKeepsSequencerAndWindow : Obligations.StepKeepsSequencerAndWindow :=
  ⟨fun _ _ h e => (step_kept e).shape h, fun _ _ h e => (step_kept e).guard h⟩

end Sys2Proof.Machine

/-! PROOFS. The coil interlock (R68 to R73) and the derived state of the conditions (R106, R108, R109): what the condition
monitor, the hunt controller, the admission unit and the sequencer may do to the two coil outputs, which is to withdraw a
close, and never to let a hard reason arrive beside one. -/

namespace Sys2Proof.Machine

/-! ## The two coil outputs -/

/-- What the breaker interface holds of a close. -/
def Breaker.closeSide (b : Breaker) : Bool × Option Nat × Option CloseMemo := (b.closeOut, b.closeTimer, b.closeMemo)

/-- The interlock of the two coil outputs under a set of hard reasons: `CoilInterlock`, part by part, but for the accepted
position. -/
structure Interlocked (b : Breaker) (hard : List Cond) : Prop where
  apart : ¬(b.tripOut = true ∧ b.closeOut = true)
  clear : b.closeOut = true → hard = []
  closeMemo : b.closeMemo.isSome = b.closeOut
  closeTimer : b.closeTimer.isSome = b.closeOut
  tripTimer : b.tripTimer.isSome = b.tripOut
  tripMemo : b.tripOut = true → b.tripMemo.isSome = true
  oneMemo : b.tripMemo.isSome = true → b.closeMemo = none

/-- A trip memo stands only off OPEN: OPEN answers the trip (R69). -/
def TripAwaited (b : Breaker) : Prop := b.tripMemo.isSome = true → b.accepted ≠ .opened

theorem coilInterlock_iff (s : State) : CoilInterlock s ↔ Interlocked s.brk s.mon.hard ∧ TripAwaited s.brk :=
  ⟨fun ⟨ha, hc, hm, ht, htt, htm, ho⟩ => ⟨⟨ha, hc, hm, ht, htt, htm, fun h => (ho h).1⟩, fun h => (ho h).2⟩,
    fun ⟨⟨ha, hc, hm, ht, htt, htm, ho⟩, hp⟩ => ⟨ha, hc, hm, ht, htt, htm, fun h => ⟨ho h, hp h⟩⟩⟩

theorem TripAwaited.of_tripSide {b b' : Breaker} (h : b'.tripSide = b.tripSide) (hb : TripAwaited b) :
    TripAwaited b' := by
  obtain ⟨hacc, -, hmemo, -⟩ := (Breaker.tripSide_eq_iff _ _).mp h
  rwa [TripAwaited, hacc, hmemo]

/-! ## Operations that leave the trip side alone -/

/-- From the one state to the other the trip side stands, a close stands or is withdrawn, no hard reason arrives beside a
close that stands, and the derived state of the conditions stays that of the records. -/
structure CoilsEased (s t : State) : Prop where
  monitor : MonitorConsistent s → MonitorConsistent t
  trip : t.brk.tripSide = s.brk.tripSide
  close : t.brk.closeSide = s.brk.closeSide ∨ t.brk.closeSide = (false, none, none)
  clear : t.brk.closeOut = true → s.mon.hard = [] → t.mon.hard = []

/-- The breaker interface and the condition monitor are the same in both states. -/
@[simp] def SameCoils (s t : State) : Prop := t.brk = s.brk ∧ t.mon = s.mon

namespace CoilsEased

variable {s t u : State}

theorem of_same (h : SameCoils s t) : CoilsEased s t := by
  obtain ⟨hbrk, hmon⟩ := h
  refine ⟨fun hs => ?_, by rw [hbrk], .inl (by rw [hbrk]), fun _ hclear => by rw [hmon, hclear]⟩
  rwa [MonitorConsistent, hmon]

theorem refl (s : State) : CoilsEased s s := of_same ⟨rfl, rfl⟩

/-- CLOSE_OUT is not asserted from the one state to the other. -/
theorem closeOut_of (h : CoilsEased s t) (ht : t.brk.closeOut = true) : s.brk.closeOut = true := by
  rcases h.close with hc | hc
  · rw [← ht, show s.brk.closeOut = t.brk.closeOut from congrArg Prod.fst hc.symm]
  · cases ht.symm.trans (congrArg Prod.fst hc)

theorem trans (h : CoilsEased s t) (h' : CoilsEased t u) : CoilsEased s u := by
  refine ⟨h'.monitor ∘ h.monitor, h'.trip.trans h.trip, ?_,
    fun hout hclear => h'.clear hout (h.clear (h'.closeOut_of hout) hclear)⟩
  rcases h'.close with hc | hc
  · rw [hc]
    exact h.close
  · exact .inr hc

/-- An operation that acts under a condition, and leaves the state alone otherwise. -/
theorem ite {p : Prop} [Decidable p] (h : p → CoilsEased s t) : CoilsEased s (if p then t else s) := by
  split
  · next hp => exact h hp
  · exact .refl s

theorem interlocked (h : CoilsEased s t) (hs : Interlocked s.brk s.mon.hard) : Interlocked t.brk t.mon.hard := by
  obtain ⟨ha, hc, hm, ht, htt, htm, ho⟩ := hs
  obtain ⟨-, hout, hmemo, htimer⟩ := (Breaker.tripSide_eq_iff _ _).mp h.trip
  have hclear (hcl : t.brk.closeOut = true) : t.mon.hard = [] := h.clear hcl (hc (h.closeOut_of hcl))
  rcases h.close with hclose | hclose
  all_goals
    simp only [Breaker.closeSide, Prod.mk.injEq] at hclose
    obtain ⟨hcloseOut, hcloseTimer, hcloseMemo⟩ := hclose
    constructor <;> simp_all

theorem interlock (h : CoilsEased s t) (hs : CoilInterlock s) : CoilInterlock t := by
  rw [coilInterlock_iff] at hs ⊢
  obtain ⟨hlocked, hawaited⟩ := hs
  exact ⟨h.interlocked hlocked, hawaited.of_tripSide h.trip⟩

end CoilsEased

/-! ## The condition monitor -/

section
variable (s : State)

theorem releaseClose_eased : CoilsEased s (releaseClose s) := ⟨id, rfl, .inr rfl, nofun⟩

theorem releaseClose_seqWithdrawn_eased : CoilsEased s (seqWithdrawn (releaseClose s)) :=
  (releaseClose_eased s).trans (.of_same (by simp))

/-- After a change of the hard reasons a close stands as it was beside no arrival, or is withdrawn (R73). -/
theorem breakerHardChange_cases (oh : List Cond) :
    (breakerHardChange oh s).brk = s.brk ∧ (s.brk.closeOut = true → ¬ arrives oh s.mon.hard = true) ∨
      (breakerHardChange oh s).brk = (releaseClose s).brk := by
  unfold breakerHardChange
  split
  · exact .inr (by simp)
  · next h => exact .inl ⟨rfl, fun hout harr => h (by simp [hout, harr])⟩

/-- Where no reason stood and none arrives, none stands. -/
theorem eq_nil_of_not_arrives {l : List Cond} (h : ¬ arrives [] l = true) : l = [] := by
  rw [List.eq_nil_iff_forall_not_mem]
  exact fun c hc => h (arrives_iff.mpr ⟨c, hc, List.not_mem_nil⟩)

/-- New records derive the rest anew, and a hard reason that arrives withdraws a close (R73, R106, R108, R109). -/
theorem adoptRecords_eased (t : CondTable CondRec) : CoilsEased s (adoptRecords t s) := by
  by_cases hsame : s.mon.hard = hardOf t ∧ s.mon.hold = holdOf t
  · rw [adoptRecords, if_pos hsame]
    exact ⟨fun _ => rfl, rfl, .inl rfl, fun _ hnone => hsame.1.symm.trans hnone⟩
  · rw [adoptRecords, if_neg hsame]
    refine ⟨fun _ => by simp [MonitorConsistent, monitorOf], by simp, ?_, fun hout hnone => ?_⟩
    all_goals
      rcases breakerHardChange_cases (s.setMon (monitorOf t)) s.mon.hard with ⟨hbrk, hkept⟩ | hbrk
    · exact .inl (by simp [hbrk])
    · exact .inr (by simp [hbrk, Breaker.closeSide])
    · have hnew := hkept (by simpa [hbrk] using hout)
      rw [hnone] at hnew
      simpa using eq_nil_of_not_arrives hnew
    · simp [hbrk] at hout

theorem addReport_eased (r : Report) : CoilsEased s (addReport r s) := .of_same (by simp)

theorem ownerReport_eased (c : Cond) (a : Bool) : CoilsEased s (ownerReport c a s) := by
  unfold ownerReport
  split
  · exact .refl s
  · exact (adoptRecords_eased s _).trans (addReport_eased _ _)

theorem replaceRecords_eased (k : CondCause) (t : CondTable CondRec) : CoilsEased s (replaceRecords k t s) :=
  (adoptRecords_eased s t).trans (.of_same (by simp [replaceRecords]))

end

/-! ## The hunt controller -/

section
variable (s : State)

theorem sendHunt_eased {s t : State} {k : DownKind} {a : Nat} (h : sendHunt k a s = some t) : CoilsEased s t := by
  have hf := sendHunt_frame h
  exact .of_same (by simp [hf])

theorem finishHunt_eased (r : LastResult) (l : List StepRecord) (n : HuntState) :
    CoilsEased s (finishHunt r l n s) :=
  .trans (.of_same (by simp)) (ownerReport_eased _ _ _)

theorem endHunt_eased (o : HuntOutcome) (c : Option AbortCause) (b : Option (List Cond)) (u : Option Nat)
    (n : HuntState) : CoilsEased s (endHunt o c b u n s) := finishHunt_eased s _ _ _

theorem endStep_eased (r : StepResult) : CoilsEased s (endStep r s) := .of_same (by simp)

theorem huntAbort_eased (k : AbortCause) : CoilsEased s (huntAbort k s) := by
  have hended : CoilsEased s (endStep .interrupted (dropOutstanding s)) := .of_same (by simp)
  unfold huntAbort
  dsimp only
  split
  · exact .refl s
  · exact .refl s
  · exact finishHunt_eased s _ _ _
  all_goals exact hended.trans (endHunt_eased _ _ _ _ _ _)

theorem huntBarArrival_eased (b : State) : CoilsEased s (huntBarArrival b s) := .ite fun _ => huntAbort_eased s _

theorem setCondition_eased (c : Cond) (a : Bool) : CoilsEased s (setCondition c a s) :=
  (ownerReport_eased s c a).trans (huntBarArrival_eased _ _)

theorem applyTable_eased : CoilsEased s (applyTable s) :=
  (replaceRecords_eased s _ _).trans (huntBarArrival_eased _ _)

theorem huntGroupChange_eased : CoilsEased s (huntGroupChange s) := .ite fun _ => huntAbort_eased s _

theorem restoreFailed_eased (u : Option Nat) : CoilsEased s (restoreFailed u s) :=
  (endStep_eased s _).trans (endHunt_eased _ _ _ _ _ _)

theorem beginSteps_eased (u : Option Nat) (l : List HuntStep) : CoilsEased s (beginSteps u l s) := by
  induction l generalizing s with
  | nil => exact endHunt_eased s _ _ _ _ _
  | cons st rest ih =>
    have hbegun : CoilsEased s (s.setHunt { s.hunt with step := s.hunt.step + 1, state := .opening }) :=
      .of_same (by simp)
    have hover := (hbegun.trans (endStep_eased _ .noResponse)).trans (ih _)
    unfold beginSteps
    dsimp only
    split
    · split
      · next hsent => exact hbegun.trans (sendHunt_eased hsent)
      · exact hover
    · exact hover

theorem stepOver_eased (r : StepResult) (u : Option Nat) : CoilsEased s (stepOver r u s) :=
  (endStep_eased s r).trans (beginSteps_eased _ _ _)

theorem startHuntNow_eased (o : Option HuntOrigin) : CoilsEased s (startHuntNow o s) :=
  .trans (.trans (.trans (.of_same (by simp)) (ownerReport_eased _ _ _)) (beginSteps_eased _ _ _))
    (huntBarArrival_eased _ _)

theorem admitHunt_eased (o : HuntOrigin) : CoilsEased s (admitHunt o s) := by
  unfold admitHunt
  split
  · exact .trans (.trans (.of_same (by simp)) (ownerReport_eased _ _ _)) (huntBarArrival_eased _ _)
  · exact startHuntNow_eased s _

theorem huntNotStarted_eased (r : NotStarted) (o : Option HuntOrigin) : CoilsEased s (huntNotStarted r o s) :=
  finishHunt_eased s _ _ _

theorem huntRequestSef_eased : CoilsEased s (huntRequestSef s) := by
  unfold huntRequestSef
  split
  · exact admitHunt_eased s _
  · exact addReport_eased s _
  · exact huntNotStarted_eased s _ _

theorem huntWindowClosed_eased : CoilsEased s (huntWindowClosed s) := by
  unfold huntWindowClosed
  split
  · split
    · exact startHuntNow_eased s _
    · exact huntNotStarted_eased s _ _
  · exact .refl s

theorem sendHeldHunt_eased : CoilsEased s (sendHeldHunt s) := by
  unfold sendHeldHunt
  split
  · split
    · next hsent => exact sendHunt_eased hsent
    · exact stepOver_eased s _ _
  · split
    · next hsent => exact sendHunt_eased hsent
    · exact restoreFailed_eased s _
  all_goals exact .refl s

theorem startSwitchWait_eased : CoilsEased s (startSwitchWait s) := .of_same (by simp)

theorem huntOutcome_eased (o : DownOutcome) : CoilsEased s (huntOutcome o s) := by
  have hset : CoilsEased s (s.setHunt { s.hunt with outstanding := none }) := .of_same (by simp)
  unfold huntOutcome
  split
  · exact .refl s
  · dsimp only
    split
    · exact hset.trans (.ite fun _ => sendHeldHunt_eased _)
    · split
      · split
        · split
          · exact hset.trans (startSwitchWait_eased _)
          · exact hset.trans (stepOver_eased _ _ _)
        · split
          · exact hset.trans (startSwitchWait_eased _)
          · exact hset.trans (restoreFailed_eased _ _)
        all_goals exact hset
      · exact hset

theorem huntSwitchDone_eased (a : Nat) (r : SwitchResult) : CoilsEased s (huntSwitchDone a r s) := by
  unfold huntSwitchDone
  split
  · split
    · split
      · exact .of_same (by simp)
      · exact stepOver_eased s _ _
    · split
      · exact .trans (.of_same (by simp)) (stepOver_eased _ _ _)
      · exact restoreFailed_eased s _
    all_goals exact .refl s
  · exact .refl s

theorem beginRestore_eased : CoilsEased s (beginRestore s) := by
  have hset : CoilsEased s (s.setHunt { s.hunt with state := .restoring, phase := none, dwellTimer := none }) :=
    .of_same (by simp)
  unfold beginRestore
  dsimp only
  split
  · next hsent => exact hset.trans (sendHunt_eased hsent)
  · exact hset.trans (restoreFailed_eased _ _)

theorem judgeDwell_eased : CoilsEased s (judgeDwell s) := by
  have hset (v : Hunt) : CoilsEased s (s.setHunt v) := .of_same (by simp)
  unfold judgeDwell
  dsimp only
  split
  · exact (endStep_eased s _).trans (endHunt_eased _ _ _ _ _ _)
  · split
    · exact beginRestore_eased s
    · split
      · exact ((hset _).trans (endStep_eased _ _)).trans (endHunt_eased _ _ _ _ _ _)
      · exact (hset _).trans (beginRestore_eased _)

end

/-! ## The start admission unit -/

section
variable (s : State)

theorem setAdm_eased (v : Admission) : CoilsEased s (s.setAdm v) := .of_same (by simp)

theorem startReport_eased (n : Nat) (e : StartEvent) (c : Option StartCause) (so : Option Nat) (w : Option (Nat × Nat)) :
    CoilsEased s (startReport n e c so w s) := .of_same (by simp)

theorem updateDrive_eased (n : Nat) (f : Drive → Drive) : CoilsEased s (updateDrive n f s) := .of_same (by simp)

theorem settleGrant_eased (w : StartWindow) (b : Bool) : CoilsEased s (settleGrant w b s) := .of_same (by simp)

theorem sendReleaseDue_eased : CoilsEased s (sendReleaseDue s) := .of_same (by simp)

/-- A window's end reaches the conditions through the hunt that waited for it alone (R143, R165). -/
theorem endWindow_eased (k : StartCause) : CoilsEased s (endWindow k s) := by
  unfold endWindow
  split
  · exact .refl s
  · exact ((((updateDrive_eased s _ _).trans (settleGrant_eased _ _ _)).trans (setAdm_eased _ _)).trans
      (huntWindowClosed_eased _)).trans (startReport_eased _ _ _ _ _ _)

theorem queueGrant_eased (w : StartWindow) : CoilsEased s (queueGrant w s) := by
  unfold queueGrant
  split
  · exact .of_same (by simp)
  · split
    · next hj =>
      have hf := joinQueue_frame hj
      exact .of_same (by simp [hf])
    · exact .trans (.of_same (by simp)) (endWindow_eased _ _)

theorem sendHeldGrant_eased : CoilsEased s (sendHeldGrant s) := by
  unfold sendHeldGrant
  split
  · exact .ite fun _ => queueGrant_eased s _
  · exact .refl s

theorem admOutcomeEffect_eased (m : StartMessage) (o : DownOutcome) : CoilsEased s (admOutcomeEffect m o s) := by
  unfold admOutcomeEffect
  split
  · split
    · exact .of_same (by split <;> simp)
    · split
      · exact .of_same (by simp)
      · exact endWindow_eased s _
  · exact .of_same (by split <;> simp)

theorem admOutcome_eased (o : DownOutcome) : CoilsEased s (admOutcome o s) := by
  unfold admOutcome
  split
  · exact .refl s
  · exact (((setAdm_eased s _).trans (admOutcomeEffect_eased _ _ _)).trans (sendReleaseDue_eased _)).trans
      (sendHeldGrant_eased _)

theorem admStartRequest_eased (a n : Nat) : CoilsEased s (admStartRequest a n s) := .of_same (by simp)

theorem admStartDone_eased (a n : Nat) : CoilsEased s (admStartDone a n s) := .ite fun _ => endWindow_eased s _

theorem admStartAbandon_eased (a n : Nat) : CoilsEased s (admStartAbandon a n s) := by
  unfold admStartAbandon
  split
  · exact endWindow_eased s _
  · split
    · exact .refl s
    · exact .ite fun _ => .of_same (by simp)

theorem openWindow_eased (d : Drive) : CoilsEased s (openWindow d s) := by
  have hopened (v : Admission) : CoilsEased s ((updateDrive d.drive (fun x => { x with request := .window }) s).setAdm v) :=
    .of_same (by simp)
  unfold openWindow
  dsimp only
  split
  · exact (hopened _).trans (startReport_eased _ _ _ _ _ _)
  · exact ((hopened _).trans (queueGrant_eased _ _)).trans (startReport_eased _ _ _ _ _ _)

theorem rebuildDrives_eased (l : List DriveEntry) : CoilsEased s (rebuildDrives l s) :=
  .trans (.of_same (by simp)) (.ite fun _ => endWindow_eased _ _)

end

/-! ## The reclose sequencer -/

section
variable (s : State)

/-- A move of the sequencer reaches the conditions through the window that it ends alone (R99, R165). -/
theorem seqMove_eased (r : Sequencer) (e : SeqEvent) (o : Option ChangeOrigin) : CoilsEased s (seqMove r e o s) := by
  have hmoved : CoilsEased s (seqTo r e o s) := .of_same (by simp)
  unfold seqMove
  split
  · exact hmoved.trans (endWindow_eased _ _)
  · exact hmoved

theorem seqTrip_eased (t : LastTrip) : CoilsEased s (seqTrip t s) := by
  have hclosed : CoilsEased s (tripFromClosed t s) := by
    unfold tripFromClosed
    split <;> exact seqMove_eased s _ _ _
  unfold seqTrip
  split
  · exact hclosed
  · exact hclosed
  · exact hclosed
  · exact .of_same (by simp)
  · exact seqMove_eased s _ _ _
  · exact .of_same (by simp)

theorem seqHold_eased : CoilsEased s (seqHold s) := .of_same (by simp)

theorem openJudgement_eased (o : ChangeOrigin) : CoilsEased s (openJudgement o s) := by
  unfold openJudgement
  split
  · exact seqMove_eased s _ _ _
  · dsimp only
    split
    · exact seqMove_eased s _ _ _
    · exact (seqMove_eased s _ _ _).trans (seqHold_eased _)

theorem laterChange_eased (n : BreakerPos) (o : ChangeOrigin) (b : Bool) : CoilsEased s (laterChange n o b s) := by
  unfold laterChange
  split
  · exact .ite fun _ => openJudgement_eased s o
  · split
    · exact seqMove_eased s _ _ _
    · exact .ite fun _ => seqMove_eased s _ _ _
  · exact .ite fun _ => seqMove_eased s _ _ _
  · exact .ite fun _ => seqMove_eased s _ _ _
  · exact .ite fun _ => seqMove_eased s _ _ _
  · exact .refl s

theorem initialChange_eased (n : BreakerPos) : CoilsEased s (initialChange n s) := by
  unfold initialChange
  dsimp only
  split
  · exact seqMove_eased s _ _ _
  · exact .of_same (by simp)

theorem seqBreakerChange_eased (n : BreakerPos) (o : ChangeOrigin) : CoilsEased s (seqBreakerChange n o s) := by
  have hset : CoilsEased s (s.setSeq { s.seq with closedLast := closedAfter n s.seq.closedLast }) :=
    .of_same (by simp)
  unfold seqBreakerChange
  dsimp only
  split
  · exact hset.trans (initialChange_eased _ _)
  · exact hset.trans (laterChange_eased _ _ _ _)

theorem seqClosedOk_eased : CoilsEased s (seqClosedOk s) := by
  unfold seqClosedOk
  split
  · exact seqMove_eased s _ _ _
  · exact seqMove_eased s _ _ _
  all_goals exact .refl s

theorem seqTimedOut_eased : CoilsEased s (seqTimedOut s) := .ite fun _ => seqMove_eased s _ _ _

theorem seqBreakerFail_eased : CoilsEased s (seqBreakerFail s) := .ite fun _ => seqMove_eased s _ _ _

theorem seqGroupChange_eased : CoilsEased s (seqGroupChange s) := by
  unfold seqGroupChange
  split
  · split
    · exact seqMove_eased s _ _ _
    · exact .ite fun _ => seqMove_eased s _ _ _
  · exact .refl s

theorem judgeReset_eased : CoilsEased s (judgeReset s).2 := by
  unfold judgeReset
  repeat' split
  · exact .refl s
  · exact .refl s
  · exact .refl s
  · exact seqMove_eased s _ _ _

theorem ownResetLockout_eased : CoilsEased s (ownResetLockout s).2 :=
  (setCondition_eased s .closeFail false).trans (judgeReset_eased _)

end

end Sys2Proof.Machine

/-! PROOFS. The coil interlock and the derived state of the conditions across every command: the two requests and the breaker
interface, which move the coil outputs themselves, and the rows of the other blocks. -/

namespace Sys2Proof.Machine

/-! ## What an operation keeps -/

/-- The two invariants go from the one state to the other: the derived state of the conditions, and the coil interlock. -/
structure InterlockKept (s t : State) : Prop where
  monitor : MonitorConsistent s → MonitorConsistent t
  coils : CoilInterlock s → CoilInterlock t

theorem CoilsEased.kept {s t : State} (h : CoilsEased s t) : InterlockKept s t := ⟨h.monitor, h.interlock⟩

namespace InterlockKept

variable {s t u : State}

theorem refl (s : State) : InterlockKept s s := ⟨id, id⟩

theorem trans (h : InterlockKept s t) (h' : InterlockKept t u) : InterlockKept s u :=
  ⟨h'.monitor ∘ h.monitor, h'.coils ∘ h.coils⟩

theorem of_same (h : SameCoils s t) : InterlockKept s t := (CoilsEased.of_same h).kept

/-- A row or an operation that acts under a condition, and leaves the state alone otherwise. -/
theorem ite {p : Prop} [Decidable p] (h : p → InterlockKept s t) : InterlockKept s (if p then t else s) := by
  split
  · next hp => exact h hp
  · exact .refl s

/-- The breaker interface changes under the conditions as they stand. -/
theorem setBrk {v : Breaker}
    (hv : Interlocked s.brk s.mon.hard → TripAwaited s.brk → Interlocked v s.mon.hard ∧ TripAwaited v) :
    InterlockKept s (s.setBrk v) := by
  refine ⟨id, fun hs => ?_⟩
  obtain ⟨hlocked, hawaited⟩ := (coilInterlock_iff s).mp hs
  exact (coilInterlock_iff _).mpr (hv hlocked hawaited)

end InterlockKept

/-! ## The coil outputs -/

section
variable (s : State)

theorem withdrawClose_eased : CoilsEased s (withdrawClose s) := .ite fun _ => releaseClose_seqWithdrawn_eased s

/-- TRIP_OUT is asserted off OPEN alone, after the withdrawal of a close (R68, R73). -/
theorem tripRequest_interlock (o : TripOrigin) : InterlockKept s (tripRequest o s) := by
  refine .ite fun hjudged => (withdrawClose_eased s).kept.trans (.setBrk fun hlocked _ => ?_)
  have hopened : (withdrawClose s).brk.accepted ≠ .opened := by
    obtain ⟨hacc, -⟩ := (Breaker.tripSide_eq_iff _ _).mp (withdrawClose_eased s).trip
    rw [hacc]
    intro h
    simp [tripJudgement, h] at hjudged
  obtain ⟨-, hclear, hmemo, htimer, -⟩ := hlocked
  have hout := withdrawClose_closeOut s
  refine ⟨?_, fun _ => hopened⟩
  constructor <;> simp_all

/-- CLOSE_OUT is asserted beside no trip and no hard reason alone, on OPEN (R71). -/
theorem closeRequest_interlock (o : CloseOrigin) : InterlockKept s (closeRequest o s) := by
  refine .ite fun hjudged => .setBrk fun hlocked hawaited => ?_
  unfold closeJudgement at hjudged
  split at hjudged
  · cases hjudged
  split at hjudged
  · cases hjudged
  split at hjudged
  · cases hjudged
  next htrip hhard hacc =>
  have hmemo : s.brk.tripMemo.isSome = false :=
    Bool.eq_false_iff.mpr fun h => hawaited h (by simpa using hacc)
  obtain ⟨-, -, -, -, htimer, -⟩ := hlocked
  refine ⟨?_, hawaited⟩
  constructor <;> simp_all

end

/-! ## The reclose sequencer's requests -/

section
variable (s : State)

theorem ownTrip_interlock : InterlockKept s (ownTrip s).2 :=
  (tripRequest_interlock s _).trans (seqTrip_eased _ _).kept

theorem ownClose_interlock : InterlockKept s (ownClose s).2 := by
  unfold ownClose
  split
  · exact .refl s
  · split
    · exact .refl s
    · exact (closeRequest_interlock s _).trans (seqMove_eased _ _ _ _).kept

theorem deadTimeEnds_interlock : InterlockKept s (deadTimeEnds s) := by
  unfold deadTimeEnds
  split
  · exact (seqMove_eased s _ _ _).kept
  · dsimp only
    split
    · exact (seqMove_eased s _ _ _).kept.trans (closeRequest_interlock _ _)
    · exact ((seqMove_eased s _ _ _).trans (seqMove_eased _ _ _ _)).kept

end

/-! ## The breaker interface -/

section
variable (s : State)

theorem endSuspension_eased : CoilsEased s (endSuspension s) := .of_same (by simp)

theorem completeClose_eased : CoilsEased s (completeClose s) :=
  .ite fun _ => (releaseClose_eased s).trans (seqClosedOk_eased _)

theorem completeTrip_monitor (h : MonitorConsistent s) : MonitorConsistent (completeTrip s) := by
  unfold completeTrip
  split
  · exact (setCondition_eased _ _ _).monitor h
  · exact (setCondition_eased _ _ _).monitor h

/-- The answer to a trip leaves no memo of it, so the interlock stands at OPEN too (R69). -/
theorem completeTrip_coils (h : Interlocked s.brk s.mon.hard) : CoilInterlock (completeTrip s) := by
  refine (setCondition_eased _ _ _).interlock ((coilInterlock_iff _).mpr ?_)
  obtain ⟨-, hclear, hmemo, htimer, htt, htm, -⟩ := id h
  split
  · refine ⟨?_, nofun⟩
    constructor <;> simp_all
  · next hnone => exact ⟨h, fun hsome => absurd hsome hnone⟩

theorem positionTaken_eased (n : BreakerPos) :
    CoilsEased (s.setBrk { s.brk with accepted := n }) (positionTaken n s) := by
  unfold positionTaken
  split
  · exact .refl _
  · exact endWindow_eased _ _

/-- Everything of an acceptance but the interface's own acts leaves the trip side alone (R66, R165). -/
theorem positionHanded_eased (n : BreakerPos) :
    CoilsEased (s.setBrk { s.brk with accepted := n })
      (seqBreakerChange n (changeOrigin s.brk n) (positionTaken n s)) :=
  (positionTaken_eased s n).trans (seqBreakerChange_eased _ _ _)

/-- OPEN answers a trip that is awaited; any other position leaves it awaited (R69, R72). -/
theorem acceptPosition_interlock (n : BreakerPos) : InterlockKept s (acceptPosition n s) := by
  have hhanded := positionHanded_eased s n
  have haccepted (hlocked : Interlocked s.brk s.mon.hard) : Interlocked { s.brk with accepted := n } s.mon.hard := by
    obtain ⟨ha, hc, hm, ht, htt, htm, ho⟩ := hlocked
    exact ⟨ha, hc, hm, ht, htt, htm, ho⟩
  have hother (hn : n ≠ .opened) : InterlockKept s (s.setBrk { s.brk with accepted := n }) :=
    .setBrk fun hlocked _ => ⟨haccepted hlocked, fun _ => hn⟩
  rw [acceptPosition_eq]
  unfold ownOutputs
  cases n with
  | opened =>
    refine ⟨fun hs => completeTrip_monitor _ (hhanded.monitor hs), fun hs => completeTrip_coils _ ?_⟩
    obtain ⟨hlocked, -⟩ := (coilInterlock_iff s).mp hs
    exact (hhanded.trans (endSuspension_eased _)).interlocked (haccepted hlocked)
  | closed => exact (hother (by decide)).trans (hhanded.trans (completeClose_eased _)).kept
  | travel | faulty | none => exact (hother (by decide)).trans hhanded.kept

/-- The scans and READY are free of the interlock. -/
theorem setBrk_eased {v : Breaker} (htrip : v.tripSide = s.brk.tripSide) (hclose : v.closeSide = s.brk.closeSide) :
    CoilsEased s (s.setBrk v) := ⟨id, htrip, .inl hclose, fun _ => id⟩

theorem scanPosition_interlock (a b : Bool) : InterlockKept s (scanPosition a b s) :=
  (setBrk_eased s (by exact rfl) (by exact rfl)).kept.trans (.ite fun _ => acceptPosition_interlock _ _)

theorem scanReady_eased (level : Bool) : CoilsEased s (scanReady level s) :=
  (setBrk_eased s (by exact rfl) (by exact rfl)).trans
    (.ite fun _ => (setBrk_eased _ (by exact rfl) (by exact rfl)).trans (setCondition_eased _ _ _))

/-- TRIP_OUT is released with its memo kept, so the trip is awaited still (R70). -/
theorem tripReleased_interlock : InterlockKept s (tripReleased s) := by
  have hreleased : InterlockKept s (s.setBrk { s.brk with tripOut := false, tripTimer := none }) := by
    refine .setBrk fun hlocked hawaited => ⟨?_, hawaited⟩
    obtain ⟨-, hclear, hmemo, htimer, -, -, hone⟩ := hlocked
    constructor <;> simp_all
  exact hreleased.trans (setCondition_eased _ _ _).kept

theorem tripTimeout_interlock : InterlockKept s (tripTimeout s) := by
  rw [tripTimeout_eq]
  split
  · exact (tripReleased_interlock s).trans (endSuspension_eased _).kept
  · exact (tripReleased_interlock s).trans ((seqBreakerFail_eased _).trans (endSuspension_eased _)).kept

end

/-! ## The regime unit -/

section
variable (s : State)

theorem judgeFireRegime_eased : CoilsEased s (judgeFireRegime s) := setCondition_eased s _ _

theorem judgeFireStale_eased : CoilsEased s (judgeFireStale s) := setCondition_eased s _ _

theorem takeIntoForce_eased (g : Nat) : CoilsEased s (takeIntoForce g s) := by
  have htaken : CoilsEased s (addReport (.group (takeReport g s)) (s.setRegime (takenRegime g s))) :=
    .of_same (by simp)
  unfold takeIntoForce
  dsimp only
  split
  · exact htaken.trans (judgeFireRegime_eased _)
  · exact ((htaken.trans (seqGroupChange_eased _)).trans (huntGroupChange_eased _)).trans (judgeFireRegime_eased _)

theorem groupWork_eased : CoilsEased s (groupWork s) := by
  have hstages : CoilsEased s (regimeStages s) := .of_same (by simp)
  unfold groupWork
  dsimp only
  split
  · exact hstages.trans (takeIntoForce_eased _ _)
  · exact hstages

end

/-! ## The protection unit and the measurement unit -/

section
variable (s : State)

theorem setProt_eased (v : Protection) : CoilsEased s (s.setProt v) := .of_same (by simp)

theorem handTrip_interlock (t : Trip) : InterlockKept s (handTrip t s) :=
  ((addReport_eased s (tripReport t s)).kept.trans (tripRequest_interlock _ _)).trans
    (((huntAbort_eased _ _).trans (endWindow_eased _ _)).trans (seqTrip_eased _ _)).kept

theorem sefStage_eased : CoilsEased s (sefStage s) :=
  ((setProt_eased s _).trans (setCondition_eased _ _ _)).trans (.ite fun _ => huntRequestSef_eased _)

theorem protPoint_interlock (q : Multiples) (b : Bool) : InterlockKept s (protPoint q b s) := by
  by_cases h : tripEntries s.settings q (stepValues s.regime.inForce q s.prot) = []
  · rw [protPoint_of_no_entry h]
    exact ((setProt_eased s _).trans (sefStage_eased _)).kept
  · obtain ⟨trip, e⟩ := protPoint_of_entry h
    rw [e, issueTrip_eq]
    exact (((setProt_eased s _).trans (setProt_eased _ _)).kept.trans (handTrip_interlock _ _)).trans
      (sefStage_eased _).kept

theorem protLoss_eased : CoilsEased s (protLoss s) := (setProt_eased s _).trans (setCondition_eased _ _ _)

theorem evaluationPoint_interlock : InterlockKept s (evaluationPoint s) := by
  have hstored (u : State) : CoilsEased u (storeRecord u) := .of_same (by simp)
  have hpoint (u : State) (q : Multiples) : CoilsEased u (admPoint q u) := .of_same (by simp)
  exact (((groupWork_eased s).trans (hstored _)).trans (setCondition_eased _ _ _)).kept.trans
    ((hpoint _ _).kept.trans (protPoint_interlock _ _ _))

theorem acceptSet_interlock (set : SampleSet) : InterlockKept s (acceptSet set s) := by
  have htaken : InterlockKept s (takenIn set s) := .of_same (by simp [takenIn])
  cases h : raisesPoint (measBefore set s)
  · rwa [acceptSet_of_no_point h]
  · rw [acceptSet_of_point h]
    exact htaken.trans (evaluationPoint_interlock _)

end

/-! ## The pilot bus controller -/

section
variable (s : State)

theorem setPilot_eased (v : Pilot) : CoilsEased s (s.setPilot v) := .of_same (by simp)

theorem changeStation_eased (old new : Station) (q : Option QueryResult) : CoilsEased s (changeStation old new q s) := by
  have hupdated : CoilsEased s (updateStation old.address (fun _ => new) s) := .of_same (by simp)
  have hreport (u : State) : CoilsEased u (reportStation new q u) := .of_same (by simp)
  unfold changeStation
  dsimp only
  split
  · exact (hupdated.trans (hreport _)).trans (setCondition_eased _ _ _)
  · exact hupdated.trans (setCondition_eased _ _ _)

theorem missedAnswer_eased (st : Station) : CoilsEased s (missedAnswer st s) := changeStation_eased s _ _ _

theorem queryOutcome_eased (o : DownOutcome) (a : Nat) : CoilsEased s (queryOutcome o a s) := by
  unfold queryOutcome
  split
  · exact .refl s
  · split
    · split
      · exact .of_same (by simp)
      · exact missedAnswer_eased s _
    · exact .of_same (by simp)
    all_goals exact .refl s

theorem endMessage_eased : CoilsEased s (endMessage s) := by
  have hhanded (u : State) (m : DownMessage) (o : DownOutcome) : CoilsEased u (handOutcome m o u) := by
    unfold handOutcome
    split
    · exact huntOutcome_eased u _
    · exact admOutcome_eased u _
    all_goals exact queryOutcome_eased u _ _
  unfold endMessage
  split
  · exact (setPilot_eased s _).trans (hhanded _ _ _)
  · exact setPilot_eased s _

theorem deliverTo_eased (a : Nat) (f : Station → Station) (q : Station → Option QueryResult) :
    CoilsEased s (deliverTo a f q s) := by
  unfold deliverTo
  split
  · exact changeStation_eased s _ _ _
  · exact .refl s

theorem closeDelivery_eased : CoilsEased s (closeDelivery s) := .of_same (by simp)

end

/-! ## The settings store -/

section
variable (s : State)

theorem judgeIntegrity_eased : CoilsEased s (judgeIntegrity s) := setCondition_eased s _ _

theorem recompute_eased : CoilsEased s (recompute s) := .of_same (by simp)

theorem plantChanged_eased : CoilsEased s (plantChanged s) :=
  (((applyTable_eased s).trans (judgeFireStale_eased _)).trans (judgeFireRegime_eased _)).trans (recompute_eased _)

theorem usersAccept_eased (i : ImageId) : CoilsEased s (usersAccept i s) := by
  cases i with
  | plant => exact plantChanged_eased s
  | stations => exact (setPilot_eased s _).trans (setCondition_eased _ _ _)
  | curve0 | curve1 | curve2 | curve3 | group0 | group1 | group2 | group3 => exact .of_same (by simp [usersAccept])
  | hunt => exact .refl s
  | drives => exact rebuildDrives_eased s _

theorem usersInvalid_eased (i : ImageId) : CoilsEased s (usersInvalid i s) := by
  cases i with
  | plant => exact plantChanged_eased s
  | stations | drives => exact .of_same (by simp [usersInvalid])
  | curve0 | curve1 | curve2 | curve3 | group0 | group1 | group2 | group3 => exact recompute_eased s
  | hunt => exact .refl s

theorem checkImage_eased (i : ImageId) : CoilsEased s (checkImage s i) := by
  have hchecked : CoilsEased s (updateImage i checkedImage s) := .of_same (by simp)
  unfold checkImage
  dsimp only
  split
  · exact ((hchecked.trans (addReport_eased _ _)).trans (usersInvalid_eased _ i)).trans (judgeIntegrity_eased _)
  · exact hchecked

theorem foldl_checkImage_eased (l : List ImageId) : CoilsEased s (l.foldl checkImage s) := by
  induction l generalizing s with
  | nil => exact .refl s
  | cons i rest ih => exact (checkImage_eased s i).trans (ih _)

theorem setStore_eased (v : Store) : CoilsEased s (s.setStore v) := .of_same (by simp)

theorem endCheck_eased : CoilsEased s (endCheck s) := by
  unfold endCheck
  split
  · exact checkImage_eased s _
  · exact .refl s

theorem fullPass_eased : CoilsEased s (fullPass s) :=
  (((setStore_eased s _).trans (foldl_checkImage_eased _ _)).trans (setStore_eased _ _)).trans (addReport_eased _ _)

theorem acceptImage_eased (i : ImageId) (l : List Byte) (w : Word16) : CoilsEased s (acceptImage i l w s) :=
  .trans (.trans (.of_same (by simp)) (judgeIntegrity_eased _)) (usersAccept_eased _ i)

end

/-! ## The full restart -/

/-- A restart releases both outputs, and derives the conditions anew (R77, R113). -/
theorem fullRestart_interlock (k : RestartCause) (b1 b0 : Bool) (s : State) :
    InterlockKept s (fullRestart k b1 b0 s) := by
  refine ⟨fun _ => rfl, fun _ => (coilInterlock_iff _).mpr ⟨?_, nofun⟩⟩
  constructor <;> simp [fullRestart, restarted, breakerAtRestart]

/-! ## Host commands -/

section
variable (s : State)

theorem setHost_eased (v : HostIf) : CoilsEased s (s.setHost v) := .of_same (by simp)

/-- A command's row keeps the two invariants when the command's owner does (R170). -/
theorem runCommand_interlock (k : CommandKind) {own : List Byte → State → Reply × State}
    (hown : ∀ p u, InterlockKept u (own p u).2) : InterlockKept s (runCommand k own s) := by
  unfold runCommand
  split
  · unfold execute
    split
    · exact ((setHost_eased s _).kept.trans (hown _ (popCommand s))).trans (setHost_eased _ _).kept
    · exact ((setHost_eased s _).trans (setHost_eased (popCommand s) _)).kept
  · exact .refl s

theorem runRestart_eased (other : List Byte) : CoilsEased s (runRestart other s) := by
  refine .of_same ?_
  unfold runRestart executeRestart linkRestartTaken fullRestartTaken
  repeat' split
  all_goals exact ⟨rfl, rfl⟩

theorem ownLoadImage_eased (p : List Byte) : CoilsEased s (ownLoadImage p s).2 := by
  unfold ownLoadImage
  dsimp only
  split
  · exact .refl s
  · split
    · exact .refl s
    · split
      · exact .refl s
      · split
        · exact .refl s
        · split
          · exact acceptImage_eased s _ _ _
          · exact .refl s

theorem ownSetFireLevel_eased (p : List Byte) : CoilsEased s (ownSetFireLevel p s).2 := by
  have hset (v : Regime) : CoilsEased s (s.setRegime v) := .of_same (by simp)
  unfold ownSetFireLevel
  dsimp only
  split
  · exact .refl s
  · exact (hset _).trans (judgeFireStale_eased _)

theorem ownSelectGroup_eased (p : List Byte) : CoilsEased s (ownSelectGroup p s).2 := by
  refine .of_same ?_
  unfold ownSelectGroup
  dsimp only
  repeat' split
  all_goals simp

theorem ownSetPermit_eased (p : List Byte) : CoilsEased s (ownSetPermit p s).2 := by
  unfold ownSetPermit
  split
  · exact .refl s
  · split
    · exact .refl s
    · exact setCondition_eased s _ _

theorem acknowledge_eased (n : Nat) : CoilsEased s (acknowledge n s) :=
  (replaceRecords_eased s _ _).trans (huntBarArrival_eased _ _)

theorem ownAckConditions_eased (p : List Byte) : CoilsEased s (ownAckConditions p s).2 := by
  unfold ownAckConditions
  dsimp only
  split
  · exact .refl s
  · exact acknowledge_eased s _

theorem ownStartHunt_eased (p : List Byte) : CoilsEased s (ownStartHunt p s).2 := by
  unfold ownStartHunt
  split
  · exact .refl s
  · exact admitHunt_eased s _

theorem ownStopHunt_eased (p : List Byte) : CoilsEased s (ownStopHunt p s).2 := by
  unfold ownStopHunt
  split
  · exact .refl s
  · exact huntAbort_eased s _

theorem ownRequestStart_eased (p : List Byte) : CoilsEased s (ownRequestStart p s).2 := by
  refine .of_same ?_
  unfold ownRequestStart
  dsimp only
  repeat' split
  all_goals simp

theorem ownCancelStart_eased (p : List Byte) : CoilsEased s (ownCancelStart p s).2 := by
  unfold ownCancelStart
  dsimp only
  split
  · exact .refl s
  · split
    · exact .refl s
    · split
      · exact .refl s
      · exact .of_same (by simp)
      · exact endWindow_eased s _

theorem ownPilotQuery_eased (p : List Byte) : CoilsEased s (ownPilotQuery p s).2 := by
  unfold ownPilotQuery
  dsimp only
  split
  · exact .refl s
  · split
    · exact .refl s
    · split
      · exact .of_same (by simp)
      · split
        · next hj =>
          have hf := joinQueue_frame hj
          exact .of_same (by simp [hf])
        · exact .refl s

end

/-! ## Every command -/

section
variable (s : State)

/-- A row that acts when it is due, and leaves the state alone when it is not. -/
theorem ends_ite_interlock {p : Prop} [Decidable p] {t : State} (h : p → InterlockKept s t) :
    Ends (.next (if p then t else s)) (InterlockKept s) := (ends_next _ _).mpr (.ite h)

/-- A row that does not assert an output or accept a position. -/
theorem ends_ite_eased {p : Prop} [Decidable p] {t : State} (h : p → CoilsEased s t) :
    Ends (.next (if p then t else s)) (InterlockKept s) := ends_ite_interlock s fun hp => (h hp).kept

/-- A host command's row, by its owner. -/
theorem ends_runCommand_interlock {k : CommandKind} {own : List Byte → State → Reply × State}
    (hown : ∀ p u, InterlockKept u (own p u).2) : Ends (.next (runCommand k own s)) (InterlockKept s) :=
  (ends_next _ _).mpr (runCommand_interlock s k hown)

theorem execTimeBaseEvent_interlock (a b r : Bool) : Ends (exec (.timeBaseEvent a b r) s) (InterlockKept s) := by
  have hticked : InterlockKept s (ticked s) := .of_same ⟨rfl, rfl⟩
  rw [execTimeBaseEvent_eq, ends_next]
  exact (hticked.trans (scanPosition_interlock _ _ _)).trans (scanReady_eased _ _).kept

theorem execBackingWriteCompletion_interlock (b : Bool) :
    Ends (execBackingWriteCompletion b s) (InterlockKept s) := by
  rw [execBackingWriteCompletion, ends_next]
  dsimp only
  split
  · exact .refl s
  · split <;> exact .of_same (by simp)

theorem execDownMessageEnd_interlock : Ends (execDownMessageEnd s) (InterlockKept s) := by
  refine ends_ite_eased s fun _ => ?_
  dsimp only
  split
  · exact (endMessage_eased s).trans (.of_same (by simp))
  · exact endMessage_eased s

theorem execStatus_interlock : Ends (execStatus s) (InterlockKept s) := by
  rw [execStatus, ends_next]
  split
  · exact ((deliverTo_eased s _ _ _).trans (closeDelivery_eased _)).kept
  · exact .refl s

theorem execSwitchDone_interlock : Ends (execSwitchDone s) (InterlockKept s) := by
  rw [execSwitchDone, ends_next]
  split
  · exact (((deliverTo_eased s _ _ _).trans (huntSwitchDone_eased _ _ _)).trans (closeDelivery_eased _)).kept
  · exact .refl s

theorem execStartRequest_interlock : Ends (execStartRequest s) (InterlockKept s) := by
  rw [execStartRequest, ends_next]
  split
  · exact (((deliverTo_eased s _ _ _).trans (admStartRequest_eased _ _ _)).trans (closeDelivery_eased _)).kept
  · exact .refl s

theorem execStartDone_interlock : Ends (execStartDone s) (InterlockKept s) := by
  rw [execStartDone, ends_next]
  split
  · exact (((deliverTo_eased s _ _ _).trans (admStartDone_eased _ _ _)).trans (closeDelivery_eased _)).kept
  · exact .refl s

theorem execStartAbandon_interlock : Ends (execStartAbandon s) (InterlockKept s) := by
  rw [execStartAbandon, ends_next]
  split
  · exact (((deliverTo_eased s _ _ _).trans (admStartAbandon_eased _ _ _)).trans (closeDelivery_eased _)).kept
  · exact .refl s

theorem execPollTimerExpiry_interlock : Ends (execPollTimerExpiry s) (InterlockKept s) := by
  refine ends_ite_interlock s fun _ => .of_same ?_
  dsimp only
  repeat' split
  all_goals simp

theorem execReplyWaitExpiry_interlock (a : Nat) : Ends (execReplyWaitExpiry a s) (InterlockKept s) := by
  rw [execReplyWaitExpiry, ends_next]
  split
  · exact .ite fun _ => (missedAnswer_eased s _).kept
  · exact .refl s

theorem execSwitchWaitExpiry_interlock : Ends (execSwitchWaitExpiry s) (InterlockKept s) := by
  refine ends_ite_eased s fun _ => ?_
  split
  · exact stepOver_eased s _ _
  · exact restoreFailed_eased s _
  all_goals exact .refl s

theorem execWholeSecondBoundary_interlock : Ends (execWholeSecondBoundary s) (InterlockKept s) := by
  have hcounted : CoilsEased s (afterRestoration (s.setDue { s.due with second := false })) := .of_same (by simp)
  refine ends_ite_eased s fun _ => ?_
  dsimp only
  split
  · exact hcounted.trans (openWindow_eased _ _)
  · exact hcounted

theorem execRequestLifetimeExpiry_interlock (n : Nat) :
    Ends (execRequestLifetimeExpiry n s) (InterlockKept s) := by
  rw [execRequestLifetimeExpiry, ends_next]
  split
  · exact .ite fun _ => .of_same (by simp)
  · exact .refl s

theorem execHostRecordArrival_interlock : Ends (execHostRecordArrival s) (InterlockKept s) := by
  rw [execHostRecordArrival, ends_next]
  split
  · exact (setHost_eased s _).kept
  · exact .refl s

theorem execTransmissionEnd_interlock : Ends (execTransmissionEnd s) (InterlockKept s) := by
  rw [execTransmissionEnd, ends_next]
  split
  · exact .refl s
  all_goals exact (setHost_eased s _).kept

/-- Every command keeps the derived state of the conditions and the coil interlock. -/
theorem exec_interlock (c : Instr) : Ends (exec c s) (InterlockKept s) := by
  cases c with
  | fullRestart k b1 b0 =>
    exact (ends_next _ _).mpr ((fullRestart_interlock (causeOf k) b1 b0 s).trans (.of_same (by simp)))
  | fullRestartByCommand b1 b0 => exact ends_ite_interlock s fun _ => fullRestart_interlock _ _ _ s
  | timeBaseEvent a b r => exact execTimeBaseEvent_interlock s a b r
  | sampleSetArrival n f => exact ends_ite_interlock s fun _ => acceptSet_interlock s _
  | lossDeclared =>
    exact ends_ite_eased s fun _ => .trans (.trans (.of_same (by simp)) (setCondition_eased _ _ _)) (protLoss_eased _)
  | tripTimerExpiry => exact ends_ite_interlock s fun _ => tripTimeout_interlock s
  | closeTimerExpiry =>
    exact ends_ite_eased s fun _ =>
      ((releaseClose_eased s).trans (setCondition_eased _ _ _)).trans (seqTimedOut_eased _)
  | deadTimerExpiry => exact ends_ite_interlock s fun _ => deadTimeEnds_interlock s
  | holdExceeded | reclaimTimerExpiry => exact ends_ite_eased s fun _ => seqMove_eased s _ _ _
  | scanEvent =>
    exact ends_ite_eased s fun _ => .trans (.trans (.of_same (by simp)) (endCheck_eased _)) (setStore_eased _ _)
  | backingWriteCompletion b => exact execBackingWriteCompletion_interlock s b
  | fireLevelExpiry => exact ends_ite_eased s fun _ => .trans (.of_same (by simp)) (judgeFireStale_eased _)
  | slotEvent up => exact ends_ite_eased s fun _ => .of_same (by simp)
  | takeTimeout | holdingTimeout | refusingEnd | coolDownEnd => exact ends_ite_eased s fun _ => .of_same (by simp)
  | downMessageEnd => exact execDownMessageEnd_interlock s
  | status => exact execStatus_interlock s
  | switchDone => exact execSwitchDone_interlock s
  | startRequest => exact execStartRequest_interlock s
  | startDone => exact execStartDone_interlock s
  | startAbandon => exact execStartAbandon_interlock s
  | pollTimerExpiry => exact execPollTimerExpiry_interlock s
  | replyWaitExpiry a => exact execReplyWaitExpiry_interlock s a
  | switchWaitExpiry => exact execSwitchWaitExpiry_interlock s
  | dwellExpiry => exact ends_ite_eased s fun _ => judgeDwell_eased s
  | settlingEnd => exact ends_ite_eased s fun _ => .trans (.of_same (by simp)) (ownerReport_eased _ _ _)
  | wholeSecondBoundary => exact execWholeSecondBoundary_interlock s
  | requestLifetimeExpiry n => exact execRequestLifetimeExpiry_interlock s n
  | startWindowExpiry => exact ends_ite_eased s fun _ => endWindow_eased s _
  | hostRecordArrival => exact execHostRecordArrival_interlock s
  | receiveTimeout | transmissionStart => exact ends_ite_eased s fun _ => setHost_eased s _
  | transmissionEnd => exact execTransmissionEnd_interlock s
  | hostByteReceived b => exact (ends_next _ _).mpr (setHost_eased s _).kept
  | echo => exact ends_runCommand_interlock s fun _ u => .refl u
  | readStatus => exact ends_runCommand_interlock s fun p u => (ownReadStatus_state p u).symm ▸ .refl u
  | readMeasure => exact ends_runCommand_interlock s fun _ u => .refl u
  | readImage => exact ends_runCommand_interlock s fun p u => (ownReadImage_state p u).symm ▸ .refl u
  | loadImage => exact ends_runCommand_interlock s fun p u => (ownLoadImage_eased u p).kept
  | checkImages => exact ends_runCommand_interlock s fun _ u => (fullPass_eased u).kept
  | setFireLevel => exact ends_runCommand_interlock s fun p u => (ownSetFireLevel_eased u p).kept
  | selectGroup => exact ends_runCommand_interlock s fun p u => (ownSelectGroup_eased u p).kept
  | trip => exact ends_runCommand_interlock s fun _ u => ownTrip_interlock u
  | close => exact ends_runCommand_interlock s fun _ u => ownClose_interlock u
  | resetLockout => exact ends_runCommand_interlock s fun _ u => (ownResetLockout_eased u).kept
  | setPermit => exact ends_runCommand_interlock s fun p u => (ownSetPermit_eased u p).kept
  | ackConditions => exact ends_runCommand_interlock s fun p u => (ownAckConditions_eased u p).kept
  | startHunt => exact ends_runCommand_interlock s fun p u => (ownStartHunt_eased u p).kept
  | stopHunt => exact ends_runCommand_interlock s fun p u => (ownStopHunt_eased u p).kept
  | requestStart => exact ends_runCommand_interlock s fun p u => (ownRequestStart_eased u p).kept
  | cancelStart => exact ends_runCommand_interlock s fun p u => (ownCancelStart_eased u p).kept
  | pilotQuery => exact ends_runCommand_interlock s fun p u => (ownPilotQuery_eased u p).kept
  | setReportMask => exact ends_runCommand_interlock s fun _ u => (setHost_eased u _).kept
  | restartLink | restartFull => exact (ends_next _ _).mpr (runRestart_eased s _).kept

end

theorem step_interlock {s t : State} (e : step s = .next t) : InterlockKept s t := by
  unfold step at e
  split at e
  · cases e
    exact .refl s
  · next c rest _ => exact .trans (.of_same (by simp)) (exec_interlock (s.setPending rest) c t e)

/-- Settles O55: every step keeps the derived state of the conditions, and the interlock of the coil outputs. -/
theorem stepKeepsTheCoilInterlock : Obligations.StepKeepsTheCoilInterlock :=
  ⟨fun _ _ h e => (step_interlock e).monitor h, fun _ _ _ h e => (step_interlock e).coils h⟩

end Sys2Proof.Machine

/-! PROOFS. The condition monitor's own operations: an owner's report (R102, R103, R106 to R109, R112) with the arrival of a
hard reason (R73, R86, R89), SET_PERMIT (R111) and ACK_CONDITIONS (R110). -/

namespace Sys2Proof.Machine

/-! ## An owner's report -/

/-- A STICKY condition is latched at its rise (R103). -/
theorem setActive_latched_iff {r : CondRec} {a : Bool} (h : r.active ≠ a) :
    (r.setActive a).latched = true ↔ r.latched = true ∨ r.mode = .sticky ∧ a = true := by
  cases a <;> simp_all [CondRec.setActive]

theorem alarmOf_iff {t : CondTable CondRec} :
    alarmOf t = true ↔ ∃ d, (t.get d).inForce = true ∧ (t.get d).actions.alarmPin = true := by
  simp [alarmOf, Cond.mem_all]

/-- While both sets stay as they were nothing is handed on (R106, R107). -/
theorem adoptRecords_of_same_sets {t : CondTable CondRec} {s : State} (hhard : hardOf t = s.mon.hard)
    (hhold : holdOf t = s.mon.hold) : adoptRecords t s = s.setMon (monitorOf t) :=
  if_pos ⟨hhard.symm, hhold.symm⟩

section
variable {c : Cond} {a : Bool} {s : State} (h : (s.mon.recs.get c).active ≠ a)
include h

/-- A report of a new active state: the records adopted, then the CONDITION report (R102, R112). -/
theorem ownerReport_of_change :
    ownerReport c a s =
      reportCondition .owner (adoptRecords (s.mon.recs.set c ((s.mon.recs.get c).setActive a)) s) c := if_neg h

theorem ownerReport_mon_of_change :
    (ownerReport c a s).mon = monitorOf (s.mon.recs.set c ((s.mon.recs.get c).setActive a)) := by
  rw [ownerReport_mon, if_neg h]

theorem ownerReport_latched_iff :
    ((ownerReport c a s).mon.recs.get c).latched = true ↔
      (s.mon.recs.get c).latched = true ∨ (s.mon.recs.get c).mode = .sticky ∧ a = true := by
  rw [ownerReport_mon_of_change h, monitorOf, CondTable.get_set, if_pos rfl, setActive_latched_iff h]

end

/-! ## The arrival of a hard reason -/

/-- A condition that rises into force with BLOCK_HARD is a hard reason that arrives (R106, R107). -/
theorem arrives_of_rise {c : Cond} {s : State} (hm : MonitorConsistent s)
    (hforce : (s.mon.recs.get c).inForce = false) (hblock : (s.mon.recs.get c).actions.blockHard = true) :
    arrives s.mon.hard (hardOf (s.mon.recs.set c ((s.mon.recs.get c).setActive true))) = true := by
  obtain ⟨hhard, -⟩ := blockSet_of_consistent hm
  rw [arrives_iff, hhard]
  refine ⟨c, ?_, ?_⟩
  · simp [mem_hardOf, CondRec.inForce, hblock]
  · simp [mem_hardOf, hforce]

/-- The arrival of a hard reason leaves no close standing (R73). -/
theorem breakerHardChange_closeOut_of_arrival {oh : List Cond} {s : State} (h : arrives oh s.mon.hard = true) :
    (breakerHardChange oh s).brk.closeOut = false := by
  rcases breakerHardChange_cases s oh with ⟨hbrk, hkept⟩ | hbrk
  · rw [hbrk]
    exact Bool.eq_false_iff.mpr fun hout => hkept hout h
  · rw [hbrk]
    rfl

/-- In DEAD_TIME a hard reason's arrival is a lockout with the lowest of them (R86). -/
theorem seqBlockChange_of_deadTime_arrival {s : State} (hs : s.seq.state = .deadTime) {oh : List Cond}
    (h : arrives oh s.mon.hard = true) (oo : List Cond) :
    (seqBlockChange oh oo s).seq = enterLockout (.hardBlock (lowest s.mon.hard)) s.seq := by
  simp [seqBlockChange, hs, h, seqTo_seq]

section
variable {t : CondTable CondRec} {s : State} (h : arrives s.mon.hard (hardOf t) = true)
include h

/-- Records that bring a hard reason are handed on, to the breaker interface first (R107). -/
theorem adoptRecords_of_arrival :
    adoptRecords t s = seqBlockChange s.mon.hard s.mon.hold (breakerHardChange s.mon.hard (s.setMon (monitorOf t))) := by
  refine if_neg fun ⟨hsame, _⟩ => ?_
  obtain ⟨c, hnew, hold⟩ := arrives_iff.mp h
  exact hold (hsame ▸ hnew)

theorem adoptRecords_closeOut_of_arrival : (adoptRecords t s).brk.closeOut = false := by
  rw [adoptRecords_of_arrival h]
  simpa using breakerHardChange_closeOut_of_arrival (s := s.setMon (monitorOf t)) h

theorem adoptRecords_deadTime_of_arrival (hs : s.seq.state = .deadTime) :
    (adoptRecords t s).seq.state = .lockout ∧
      (adoptRecords t s).seq.cause = some (.hardBlock (lowest (hardOf t))) := by
  rw [adoptRecords_of_arrival h, seqBlockChange_of_deadTime_arrival (by simpa using hs) (by simpa [monitorOf] using h)]
  simp [enterLockout, monitorOf]

theorem adoptRecords_closing_of_arrival (hs : s.seq.state = .closing) : (adoptRecords t s).seq.state = .lockout := by
  rw [adoptRecords_of_arrival h, seqBlockChange_of_closing (by simpa using hs), if_pos (by simpa [monitorOf] using h)]
  rfl

end

/-- Settles O17: the records are adopted and reported; an arrival withdraws a close, and locks out a sequence in DEAD_TIME or
CLOSING. -/
theorem ownerReportLatchesAndDerives : Obligations.OwnerReportLatchesAndDerives := by
  refine ⟨fun c a s => ⟨ownerReport_same, fun hchange => ?_⟩, fun c s hm hfell hforce hblock => ?_⟩
  · have hmon := ownerReport_mon_of_change hchange
    refine ⟨ownerReport_active c a s, ownerReport_latched_iff hchange, fun d hd => ownerReport_other hd a s,
      fun d => by rw [hmon]; exact mem_hardOf, by rw [hmon]; exact alarmOf_iff, by rw [MonitorConsistent, hmon]; rfl,
      by simp [SameClock], by simp [SameSettings], by simp [SameLine],
      adoptRecords (s.mon.recs.set c ((s.mon.recs.get c).setActive a)) s, _, _, rfl, rfl, ?_, ?_, ?_⟩
    · rw [hmon, ownerReport_of_change hchange]
      simp [reportCondition, conditionReport, adoptRecords_mon, monitorOf]
    · rw [hmon, adoptRecords_mon]
    · rw [hmon]
      exact adoptRecords_of_same_sets
  · have harrives := arrives_of_rise hm hforce hblock
    have hchange : (s.mon.recs.get c).active ≠ true := by simp [hfell]
    rw [ownerReport_mon_of_change hchange, ownerReport_of_change hchange]
    simp only [reportCondition_frame]
    exact ⟨adoptRecords_closeOut_of_arrival harrives, adoptRecords_deadTime_of_arrival harrives,
      adoptRecords_closing_of_arrival harrives⟩

/-! ## SET_PERMIT -/

/-- Settles O45: the condition is set as its owner reports it, on the state without the command, and the reply reads the
record after it. -/
theorem setPermitSetsItsCondition : Obligations.SetPermitSetsItsCondition := by
  intro c rest p v s hhead hpayload
  have hrun : exec .setPermit s = .next
      (fillReply (ownSetPermit [p, v] (withCommands rest s)).1 none (ownSetPermit [p, v] (withCommands rest s)).2) := by
    rw [← hpayload]
    exact congrArg Host.Outcome.next (runCommand_head ownSetPermit hhead (by rw [hpayload]; rfl))
  refine ⟨fun k hk hv => ?_, fun h1 h2 => ?_, fun hp hv => ?_⟩
  · have hpermit : permitOf p.toNat = some k := by
      rcases hk with ⟨rfl, rfl⟩ | ⟨rfl, rfl⟩ <;> rfl
    have hown : k ≠ .huntActive := by rcases hk with ⟨-, rfl⟩ | ⟨-, rfl⟩ <;> decide
    have hanswer : ownSetPermit [p, v] (withCommands rest s) =
        (permitReply k (setCondition k (decide (v = 1)) (withCommands rest s)),
          setCondition k (decide (v = 1)) (withCommands rest s)) := by
      rcases hv with rfl | rfl <;> simp [ownSetPermit, u8, hpermit]
    rw [hrun, hanswer]
    refine ⟨_, rfl, ?_, fun d hd hd' => ?_, ?_, fun hsame => ?_, ?_, ?_, ?_, ?_⟩
    · simpa using setCondition_active hown _ _
    · simp [setCondition_other hd hd']
    · exact replied_of_line (by simp [SameLine]) _
    · rw [setCondition_same (by simpa using hsame), fillReply_withCommands]
    all_goals simp [SameClock, SameSettings]
  · have hpermit : permitOf p.toNat = none := by
      have h1' : p.toNat ≠ 1 := fun e => h1 (BitVec.eq_of_toNat_eq e)
      have h2' : p.toNat ≠ 2 := fun e => h2 (BitVec.eq_of_toNat_eq e)
      simp [permitOf, h1', h2']
    rw [hrun, ← fillReply_withCommands]
    simp [ownSetPermit, u8, hpermit]
  · rw [hrun, ← fillReply_withCommands]
    rcases hp with rfl | rfl <;> simp [ownSetPermit, u8, permitOf, hv]

/-! ## ACK_CONDITIONS -/

/-- An acknowledgement clears the latch of a named condition that is not active, and nothing else (R110). -/
theorem get_acknowledgedTable (n : Nat) (t : CondTable CondRec) (d : Cond) :
    (acknowledgedTable n t).get d =
      if n.testBit (d.number - 1) = true ∧ (t.get d).active = false then { t.get d with latched := false }
      else t.get d := by
  simp only [acknowledgedTable, CondTable.get_build, acknowledged]
  cases n.testBit (d.number - 1) <;> cases (t.get d).active <;> rfl

theorem acknowledgedTable_actions (n : Nat) (t : CondTable CondRec) (d : Cond) :
    ((acknowledgedTable n t).get d).actions = (t.get d).actions := by
  rw [get_acknowledgedTable]
  split <;> rfl

theorem filter_namedConditions (n : Nat) (p : Cond → Bool) :
    (namedConditions n).filter p = Cond.all.filter fun d => n.testBit (d.number - 1) && p d := by
  rw [namedConditions, List.filter_filter]
  exact List.filter_congr fun _ _ => Bool.and_comm _ _

/-- An acknowledgement brings no condition into force (Table 6.2). -/
theorem inForce_of_acknowledged {n : Nat} {t : CondTable CondRec} {d : Cond}
    (h : ((acknowledgedTable n t).get d).inForce = true) : (t.get d).inForce = true := by
  rw [get_acknowledgedTable] at h
  split at h
  · simp_all [CondRec.inForce]
  · exact h

theorem not_arrives_of_acknowledged (n : Nat) (t : CondTable CondRec) :
    ¬ arrives (hardOf t) (hardOf (acknowledgedTable n t)) = true := by
  rw [arrives_iff]
  rintro ⟨c, hnew, hold⟩
  rw [mem_hardOf, acknowledgedTable_actions] at hnew
  obtain ⟨hforce, hblock⟩ := hnew
  exact hold (mem_hardOf.mpr ⟨inForce_of_acknowledged hforce, hblock⟩)

theorem huntBarOf_of_acknowledged {n : Nat} {t : CondTable CondRec} (h : huntBarOf (acknowledgedTable n t) = true) :
    huntBarOf t = true := by
  simp only [huntBarOf, huntBarsOf, Bool.not_eq_true', List.isEmpty_eq_false_iff_exists_mem, List.mem_filter,
    Bool.and_eq_true, acknowledgedTable_actions] at h ⊢
  obtain ⟨c, hc, hforce, hbar⟩ := h
  exact ⟨c, hc, inForce_of_acknowledged hforce, hbar⟩

/-- Records that bring no hard reason leave the breaker interface as it is (R73). -/
theorem adoptRecords_brk_of_no_arrival {t : CondTable CondRec} {s : State}
    (h : ¬ arrives s.mon.hard (hardOf t) = true) : (adoptRecords t s).brk = s.brk := by
  unfold adoptRecords
  split
  · rfl
  · rw [breakerHardChange_of_no_arrival (by exact h)]
    simp

section
variable (n : Nat) {s : State} (hm : MonitorConsistent s)
include hm

/-- No bar arrives at an acknowledgement, so the hunt controller takes nothing of it (R108). -/
theorem acknowledge_eq : acknowledge n s = replaceRecords .ack (acknowledgedTable n s.mon.recs) s := by
  have hbar : s.mon.huntBar = huntBarOf s.mon.recs := congrArg Monitor.huntBar hm
  refine if_neg fun h => ?_
  simp only [Bool.and_eq_true, Bool.not_eq_true', replaceRecords_mon] at h
  obtain ⟨hbefore, hafter⟩ := h
  have hraised : huntBarOf s.mon.recs = true := huntBarOf_of_acknowledged hafter
  simp [← hbar, hbefore] at hraised

theorem acknowledge_mon : (acknowledge n s).mon = monitorOf (acknowledgedTable n s.mon.recs) := by
  rw [acknowledge_eq n hm, replaceRecords_mon]

theorem acknowledge_frame :
    SameClock s (acknowledge n s) ∧ SameSettings s (acknowledge n s) ∧ SameLine s (acknowledge n s) ∧
      (acknowledge n s).prot = s.prot ∧ (acknowledge n s).brk = s.brk ∧ (acknowledge n s).hunt = s.hunt ∧
      (acknowledge n s).pilot = s.pilot ∧ (acknowledge n s).adm = s.adm := by
  obtain ⟨hhard, -⟩ := blockSet_of_consistent hm
  have hbrk : (replaceRecords .ack (acknowledgedTable n s.mon.recs) s).brk = s.brk := by
    simpa [replaceRecords] using adoptRecords_brk_of_no_arrival (hhard ▸ not_arrives_of_acknowledged n s.mon.recs)
  rw [acknowledge_eq n hm]
  simp [SameClock, SameSettings, SameLine, hbrk]

end

/-- Settles O46: the acknowledgement brings nothing into force, so it is handed to no block but the sequencer. -/
theorem acknowledgementClearsLatches : Obligations.AcknowledgementClearsLatches := by
  intro c rest hi lo n s hhead hpayload hn
  have hset : u16 [hi, lo] 0 = n := hn.symm
  have hrun : exec .ackConditions s = .next (fillReply (ownAckConditions [hi, lo] (withCommands rest s)).1 none
      (ownAckConditions [hi, lo] (withCommands rest s)).2) := by
    rw [← hpayload]
    exact congrArg Host.Outcome.next (runCommand_head ownAckConditions hhead (by rw [hpayload]; rfl))
  refine ⟨fun hlt hm => ?_, fun hge => ?_⟩
  · have hmon := acknowledge_mon n (s := withCommands rest s) hm
    obtain ⟨hclock, hsettings, hline, hframe⟩ := acknowledge_frame n (s := withCommands rest s) hm
    rw [hrun, ownAckConditions, hset, if_neg (Nat.not_le.mpr hlt)]
    refine ⟨_, rfl, ?_, fun d => ?_, ?_, hclock, hsettings, hframe⟩
    · exact (acknowledge_eased _ n).monitor hm
    · simp only [fillReply_frame, hmon]
      exact get_acknowledgedTable n _ d
    · rw [filter_namedConditions, filter_namedConditions]
      exact replied_of_line hline _
  · rw [hrun, ownAckConditions, hset, if_pos hge]
    exact congrArg Host.Outcome.next (fillReply_withCommands _ _ _ _)

end Sys2Proof.Machine

/-! PROOFS. At most one hunt message is queued and in flight (R122, R148): the waiting entries of class HUNT with the
hunt controller's outstanding message, and what the hunt controller, the admission unit and the condition monitor
keep of it. -/

namespace Sys2Proof.Machine

/-! ## The waiting hunt messages -/

/-- The waiting entries of class HUNT, in their order. -/
def huntEntries (q : List QueueEntry) : List QueueEntry := q.filter fun e => e.msg.cls == .hunt

@[simp] theorem huntEntries_nil : huntEntries [] = [] := rfl

@[simp] theorem huntEntries_append (q r : List QueueEntry) :
    huntEntries (q ++ r) = huntEntries q ++ huntEntries r := List.filter_append ..

theorem huntEntries_cons (e : QueueEntry) (q : List QueueEntry) :
    huntEntries (e :: q) = if e.msg.cls = .hunt then e :: huntEntries q else huntEntries q := by
  simp [huntEntries, List.filter_cons]

theorem mem_huntEntries {e : QueueEntry} {q : List QueueEntry} :
    e ∈ huntEntries q ↔ e ∈ q ∧ e.msg.cls = .hunt := by
  simp [huntEntries]

/-- A withdrawal of another class leaves the hunt messages (R124). -/
theorem huntEntries_eraseP_other {p : QueueEntry → Bool} (hp : ∀ e, p e = true → e.msg.cls ≠ .hunt)
    (q : List QueueEntry) : huntEntries (q.eraseP p) = huntEntries q := by
  induction q with
  | nil => rfl
  | cons e rest ih =>
    cases he : p e with
    | true => simp [he, huntEntries_cons, hp e he]
    | false => simp [he, huntEntries_cons, ih]

/-- A withdrawal of the class takes the first hunt message (R124). -/
theorem huntEntries_eraseP_hunt (q : List QueueEntry) :
    huntEntries (q.eraseP fun e => e.msg.cls == .hunt) = (huntEntries q).tail := by
  induction q with
  | nil => rfl
  | cons e rest ih =>
    by_cases he : e.msg.cls = .hunt
    · simp [he, huntEntries_cons]
    · simp [beq_eq_false_iff_ne.mpr he, he, huntEntries_cons, ih]

/-- Entries that are no hunt messages are taken out or changed. -/
theorem huntEntries_filter {p : QueueEntry → Bool} {q : List QueueEntry} (hp : ∀ e ∈ huntEntries q, p e = true) :
    huntEntries (q.filter p) = huntEntries q := by
  rw [huntEntries, List.filter_filter]
  refine List.filter_congr fun e he => ?_
  by_cases hc : e.msg.cls = .hunt
  · simp [hc, hp e (mem_huntEntries.mpr ⟨he, hc⟩)]
  · simp [hc]

theorem huntEntries_map {f : QueueEntry → QueueEntry} {q : List QueueEntry} (hf : ∀ e ∈ huntEntries q, f e = e)
    (hc : ∀ e, (f e).msg.cls = .hunt → e.msg.cls = .hunt) : huntEntries (q.map f) = huntEntries q := by
  induction q with
  | nil => rfl
  | cons e rest ih =>
    have hrest := ih fun x hx => hf x (by
      rw [huntEntries_cons]
      split
      · exact .tail _ hx
      · exact hx)
    rw [List.map_cons, huntEntries_cons, huntEntries_cons, hrest]
    by_cases he : e.msg.cls = .hunt
    · have hfe : f e = e := hf e (mem_huntEntries.mpr ⟨.head _, he⟩)
      simp [he, hfe]
    · have hfe : (f e).msg.cls ≠ .hunt := fun h => he (hc e h)
      simp [he, hfe]

/-! ## The invariant, part by part -/

/-- `HuntMessageTracked`, part by part, over the down channel, the waiting hunt messages and the outstanding message. -/
structure Tracked (d : DownChannel) (l : List QueueEntry) (o : Option HuntMessage) : Prop where
  free : d.stage = .freeChannel → d.msg = none
  offering : d.stage = .offering → d.msg.isSome = true
  ending : d.stage = .ending → d.msg.isSome = d.outcome.isSome
  kinds : ∀ e ∈ l, e.msg.kind ≠ .query
  waiting : l.length = if o.any (fun m => !m.inFlight) then 1 else 0
  flying : (d.msg.any fun m => m.cls == .hunt) = o.any fun m => m.inFlight

theorem huntMessageTracked_iff (s : State) :
    HuntMessageTracked s ↔ Tracked s.pilot.down (huntEntries s.pilot.queue) s.hunt.outstanding := by
  have hkinds : (∀ e ∈ huntEntries s.pilot.queue, e.msg.kind ≠ .query) ↔
      ∀ e ∈ s.pilot.queue, e.msg.cls = .hunt → e.msg.kind ≠ .query := by
    simp only [mem_huntEntries, and_imp]
  have hcount : (huntEntries s.pilot.queue).length = s.pilot.queue.countP fun e => e.msg.cls == .hunt :=
    List.countP_eq_length_filter.symm
  constructor
  · rintro ⟨hfree, hoffer, hend, hk, hw, hf⟩
    exact ⟨hfree, hoffer, hend, hkinds.mpr hk, hcount.trans hw, hf⟩
  · rintro ⟨hfree, hoffer, hend, hk, hw, hf⟩
    exact ⟨hfree, hoffer, hend, hkinds.mp hk, hcount.symm.trans hw, hf⟩

section
variable {d : DownChannel} {l : List QueueEntry} {o : Option HuntMessage}

theorem Tracked.no_entries (h : Tracked d l o) (ho : ∀ m ∈ o, m.inFlight = true) : l = [] := by
  rw [← List.length_eq_zero_iff, h.waiting, if_neg]
  cases o <;> simp_all

/-- The down channel moves, with the message and what its stage holds as before. -/
theorem Tracked.setDown {d' : DownChannel} (h : Tracked d l o) (hmsg : d'.msg = d.msg)
    (hfree : d'.stage = .freeChannel → d.stage = .freeChannel) (hoffer : d'.stage = .offering → d.stage = .offering)
    (hend : d'.stage = .ending → d'.msg.isSome = d'.outcome.isSome) : Tracked d' l o where
  free hs := hmsg.trans (h.free (hfree hs))
  offering hs := hmsg ▸ h.offering (hoffer hs)
  ending := hend
  kinds := h.kinds
  waiting := h.waiting
  flying := hmsg ▸ h.flying

/-- A first message of the controller waits (R144, R146). -/
theorem Tracked.joined (h : Tracked d l none) {e : QueueEntry} (hk : e.msg.kind ≠ .query) {m : HuntMessage}
    (hm : m.inFlight = false) : Tracked d (l ++ [e]) (some m) where
  free := h.free
  offering := h.offering
  ending := h.ending
  kinds := by
    simp only [h.no_entries nofun, List.nil_append, List.mem_singleton, forall_eq]
    exact hk
  waiting := by simp [h.no_entries nofun, hm]
  flying := by simpa [hm] using h.flying

/-- The waiting message is withdrawn (R148). -/
theorem Tracked.withdrawn {m : HuntMessage} (h : Tracked d l (some m)) (hm : m.inFlight = false) :
    Tracked d l.tail none where
  free := h.free
  offering := h.offering
  ending := h.ending
  kinds e he := h.kinds e (List.mem_of_mem_tail he)
  waiting := by simp [h.waiting, hm]
  flying := by simpa [hm] using h.flying

/-- The message keeps its place under another mark (R148). -/
theorem Tracked.remarked {m m' : HuntMessage} (h : Tracked d l (some m)) (hm : m'.inFlight = m.inFlight) :
    Tracked d l (some m') where
  free := h.free
  offering := h.offering
  ending := h.ending
  kinds := h.kinds
  waiting := by simpa [hm] using h.waiting
  flying := by simpa [hm] using h.flying

end

/-! ## What an operation keeps -/

/-- The invariant goes from the one state to the other. -/
def HuntMessageKept (s t : State) : Prop := HuntMessageTracked s → HuntMessageTracked t

/-- Everything that the invariant reads is the same in both states. -/
@[simp] def SameHuntMessage (s t : State) : Prop :=
  t.hunt.outstanding = s.hunt.outstanding ∧ t.pilot.down = s.pilot.down ∧
  huntEntries t.pilot.queue = huntEntries s.pilot.queue

namespace HuntMessageKept

variable {s t u : State}

theorem refl (s : State) : HuntMessageKept s s := id

theorem trans (h : HuntMessageKept s t) (h' : HuntMessageKept t u) : HuntMessageKept s u := h' ∘ h

theorem of_tracked
    (h : Tracked s.pilot.down (huntEntries s.pilot.queue) s.hunt.outstanding →
      Tracked t.pilot.down (huntEntries t.pilot.queue) t.hunt.outstanding) : HuntMessageKept s t :=
  fun hs => (huntMessageTracked_iff t).mpr (h ((huntMessageTracked_iff s).mp hs))

theorem of_same (h : SameHuntMessage s t) : HuntMessageKept s t := by
  obtain ⟨hout, hdown, hqueue⟩ := h
  refine of_tracked fun hs => ?_
  rwa [hout, hdown, hqueue]

/-- A row or an operation that acts under a condition, and leaves the state alone otherwise. -/
theorem ite {p : Prop} [Decidable p] (h : p → HuntMessageKept s t) : HuntMessageKept s (if p then t else s) := by
  split
  · next hp => exact h hp
  · exact .refl s

end HuntMessageKept

/-! ## The down queue -/

theorem joinQueue_queue {m : DownMessage} {s t : State} (h : joinQueue m s = some t) :
    ∃ kept, t.pilot.queue = s.pilot.queue ++ [{ msg := m, kept := kept }] := by
  unfold joinQueue at h
  rw [Option.map_eq_some_iff] at h
  obtain ⟨kept, -, rfl⟩ := h
  exact ⟨kept, rfl⟩

/-- A message of another class joins the queue. -/
theorem joinQueue_message {m : DownMessage} {s t : State} (hm : m.cls ≠ .hunt) (h : joinQueue m s = some t) :
    SameHuntMessage s t := by
  obtain ⟨kept, hqueue⟩ := joinQueue_queue h
  obtain ⟨hdown, -⟩ := joinQueue_pilot h
  have hf := joinQueue_frame h
  simp [hf, hdown, hqueue, huntEntries_cons, hm]

theorem withdrawWaiting_message {c : DownClass} (hc : c ≠ .hunt) (s : State) :
    SameHuntMessage s (withdrawWaiting c s) := by
  have hother (e : QueueEntry) (he : (e.msg.cls == c) = true) : e.msg.cls ≠ .hunt := by
    rw [beq_iff_eq] at he
    rwa [he]
  simp [withdrawWaiting, huntEntries_eraseP_other hother]

/-! ## The hunt controller -/

section
variable {s : State}

theorem setHunt_message {v : Hunt} (hv : v.outstanding = s.hunt.outstanding) :
    HuntMessageKept s (s.setHunt v) := .of_same (by simp [hv])

/-- The controller sends while nothing is outstanding, and holds behind an outstanding message (R148). -/
theorem sendHunt_message {k : DownKind} (hk : k ≠ .query) {a : Nat} {t : State} (h : sendHunt k a s = some t) :
    HuntMessageKept s t := by
  unfold sendHunt at h
  split at h
  · cases h
    exact setHunt_message rfl
  · next hnone =>
    rw [Option.map_eq_some_iff] at h
    obtain ⟨u, hj, rfl⟩ := h
    obtain ⟨kept, hqueue⟩ := joinQueue_queue hj
    obtain ⟨hdown, -⟩ := joinQueue_pilot hj
    refine .of_tracked fun hs => ?_
    rw [Option.not_isSome_iff_eq_none.mp hnone] at hs
    simpa [hdown, hqueue, huntEntries_cons, huntMessage] using
      hs.joined (e := { msg := huntMessage k a, kept := kept }) hk rfl

theorem sendOpen_message {a : Nat} {t : State} (h : sendHunt .openSwitch a s = some t) : HuntMessageKept s t :=
  sendHunt_message (by decide) h

theorem sendClose_message {a : Nat} {t : State} (h : sendHunt .closeSwitch a s = some t) : HuntMessageKept s t :=
  sendHunt_message (by decide) h

end

section
variable (s : State)

/-- The owner of the outstanding message ends: a waiting one leaves the queue, one in flight stays as a STALE one
(R148). -/
theorem dropOutstanding_message : HuntMessageKept s (dropOutstanding s) := by
  refine .of_tracked fun hs => ?_
  unfold dropOutstanding
  split
  · exact hs
  · next m hm =>
    rw [hm] at hs
    split
    · next hflying => exact hs.remarked (by rfl)
    · next hwaits =>
      simpa [withdrawWaiting, huntEntries_eraseP_hunt] using hs.withdrawn (by simpa using hwaits)

theorem endStep_message (r : StepResult) : HuntMessageKept s (endStep r s) := .of_same (by simp [endStep])

theorem finishHunt_message (r : LastResult) (l : List StepRecord) (n : HuntState) :
    HuntMessageKept s (finishHunt r l n s) := .of_same (by simp [finishHunt])

theorem endHunt_message (o : HuntOutcome) (c : Option AbortCause) (b : Option (List Cond)) (u : Option Nat)
    (n : HuntState) : HuntMessageKept s (endHunt o c b u n s) := finishHunt_message s _ _ _

theorem huntAbort_message (k : AbortCause) : HuntMessageKept s (huntAbort k s) := by
  have hended : HuntMessageKept s (endStep .interrupted (dropOutstanding s)) :=
    (dropOutstanding_message s).trans (endStep_message _ _)
  unfold huntAbort
  dsimp only
  split
  · exact .refl s
  · exact .refl s
  · exact finishHunt_message s _ _ _
  all_goals exact hended.trans (endHunt_message _ _ _ _ _ _)

theorem ownerReport_message (c : Cond) (a : Bool) : HuntMessageKept s (ownerReport c a s) := .of_same (by simp)

theorem huntBarArrival_message (b : State) : HuntMessageKept s (huntBarArrival b s) :=
  .ite fun _ => huntAbort_message s _

theorem setCondition_message (c : Cond) (a : Bool) : HuntMessageKept s (setCondition c a s) :=
  (ownerReport_message s c a).trans (huntBarArrival_message _ _)

theorem replaceRecords_message (k : CondCause) (t : CondTable CondRec) :
    HuntMessageKept s (replaceRecords k t s) := .of_same (by simp)

theorem applyTable_message : HuntMessageKept s (applyTable s) :=
  (replaceRecords_message s _ _).trans (huntBarArrival_message _ _)

theorem beginSteps_message (u : Option Nat) (l : List HuntStep) : HuntMessageKept s (beginSteps u l s) := by
  induction l generalizing s with
  | nil => exact endHunt_message s _ _ _ _ _
  | cons st rest ih =>
    have hbegun : HuntMessageKept s (s.setHunt { s.hunt with step := s.hunt.step + 1, state := .opening }) :=
      setHunt_message rfl
    have hover := (hbegun.trans (endStep_message _ .noResponse)).trans (ih _)
    unfold beginSteps
    dsimp only
    split
    · split
      · next hsent => exact hbegun.trans (sendOpen_message hsent)
      · exact hover
    · exact hover

theorem stepOver_message (r : StepResult) (u : Option Nat) : HuntMessageKept s (stepOver r u s) :=
  (endStep_message s r).trans (beginSteps_message _ _ _)

theorem restoreFailed_message (u : Option Nat) : HuntMessageKept s (restoreFailed u s) :=
  (endStep_message s _).trans (endHunt_message _ _ _ _ _ _)

theorem huntGroupChange_message : HuntMessageKept s (huntGroupChange s) := .ite fun _ => huntAbort_message s _

theorem beginRestore_message : HuntMessageKept s (beginRestore s) := by
  have hset : HuntMessageKept s (s.setHunt { s.hunt with state := .restoring, phase := none, dwellTimer := none }) :=
    setHunt_message rfl
  unfold beginRestore
  dsimp only
  split
  · next hsent => exact hset.trans (sendClose_message hsent)
  · exact hset.trans (restoreFailed_message _ _)

theorem judgeDwell_message : HuntMessageKept s (judgeDwell s) := by
  unfold judgeDwell
  dsimp only
  split
  · exact (endStep_message s _).trans (endHunt_message _ _ _ _ _ _)
  · split
    · exact beginRestore_message s
    · split
      · exact ((setHunt_message (by exact rfl)).trans (endStep_message _ _)).trans (endHunt_message _ _ _ _ _ _)
      · exact (setHunt_message (by exact rfl)).trans (beginRestore_message _)

/-- A hunt starts with the message of the hunt before still outstanding, if one is (R142, R148). -/
theorem startHuntNow_message (o : Option HuntOrigin) : HuntMessageKept s (startHuntNow o s) := by
  have hstations : HuntMessageKept s (updateStations (fun st => { st with openedByHunt := false }) s) :=
    .of_same (by simp [updateStations])
  exact (((hstations.trans (setHunt_message (by exact rfl))).trans (ownerReport_message _ _ _)).trans
    (beginSteps_message _ _ _)).trans (huntBarArrival_message _ _)

theorem admitHunt_message (o : HuntOrigin) : HuntMessageKept s (admitHunt o s) := by
  unfold admitHunt
  split
  · exact ((setHunt_message (by exact rfl)).trans (ownerReport_message _ _ _)).trans (huntBarArrival_message _ _)
  · exact startHuntNow_message s _

theorem huntNotStarted_message (r : NotStarted) (o : Option HuntOrigin) :
    HuntMessageKept s (huntNotStarted r o s) := finishHunt_message s _ _ _

theorem huntRequestSef_message : HuntMessageKept s (huntRequestSef s) := by
  unfold huntRequestSef
  split
  · exact admitHunt_message s _
  · exact .of_same (by simp)
  · exact huntNotStarted_message s _ _

theorem huntWindowClosed_message : HuntMessageKept s (huntWindowClosed s) := by
  unfold huntWindowClosed
  split
  · split
    · exact startHuntNow_message s _
    · exact huntNotStarted_message s _ _
  · exact .refl s

theorem startSwitchWait_message : HuntMessageKept s (startSwitchWait s) := setHunt_message rfl

theorem sendHeldHunt_message : HuntMessageKept s (sendHeldHunt s) := by
  unfold sendHeldHunt
  split
  · split
    · next hsent => exact sendOpen_message hsent
    · exact stepOver_message s _ _
  · split
    · next hsent => exact sendClose_message hsent
    · exact restoreFailed_message s _
  all_goals exact .refl s

/-- An outcome acts from the state without the outstanding message. -/
theorem huntOutcome_message (o : DownOutcome) :
    HuntMessageKept (s.setHunt { s.hunt with outstanding := none }) (huntOutcome o s) := by
  unfold huntOutcome
  split
  · next hnone => exact .of_same (by simp [hnone])
  · dsimp only
    split
    · exact .ite fun _ => sendHeldHunt_message _
    · split
      · split
        · split
          · exact startSwitchWait_message _
          · exact stepOver_message _ _ _
        · split
          · exact startSwitchWait_message _
          · exact restoreFailed_message _ _
        all_goals exact .refl _
      · exact .refl _

theorem updateStation_message (a : Nat) (f : Station → Station) : HuntMessageKept s (updateStation a f s) :=
  .of_same (by simp [updateStation])

theorem huntSwitchDone_message (a : Nat) (r : SwitchResult) : HuntMessageKept s (huntSwitchDone a r s) := by
  unfold huntSwitchDone
  split
  · split
    · split
      · exact (updateStation_message s _ _).trans (setHunt_message (by exact rfl))
      · exact stepOver_message s _ _
    · split
      · exact ((updateStation_message s _ _).trans (setHunt_message (by exact rfl))).trans (stepOver_message _ _ _)
      · exact restoreFailed_message s _
    all_goals exact .refl s
  · exact .refl s

end

/-! ## The start admission unit -/

section
variable (s : State)

theorem setAdm_message (v : Admission) : HuntMessageKept s (s.setAdm v) := .of_same (by simp)

theorem startReport_message (n : Nat) (e : StartEvent) (c : Option StartCause) (so : Option Nat)
    (w : Option (Nat × Nat)) : HuntMessageKept s (startReport n e c so w s) := .of_same (by simp)

theorem queueRelease_message (d a : Nat) : HuntMessageKept s (queueRelease d a s) := by
  unfold queueRelease
  split
  · exact setAdm_message s _
  · split
    · next hj => exact .trans (.of_same (joinQueue_message (by simp [releaseMessage]) hj)) (setAdm_message _ _)
    · exact startReport_message s _ _ _ _ _

theorem settleGrant_message (w : StartWindow) (b : Bool) : HuntMessageKept s (settleGrant w b s) := by
  unfold settleGrant
  split
  · exact .refl s
  · exact .refl s
  · exact (setAdm_message s _).trans (.of_same (withdrawWaiting_message (by decide) _))
  · exact setAdm_message s _
  · exact .ite fun _ => queueRelease_message s _ _

/-- A window's end reaches the hunt controller, whose deferred hunt may start (R143, R165). -/
theorem endWindow_message (k : StartCause) : HuntMessageKept s (endWindow k s) := by
  unfold endWindow
  split
  · exact .refl s
  · exact ((((setAdm_message s _).trans (settleGrant_message _ _ _)).trans (setAdm_message _ _)).trans
      (huntWindowClosed_message _)).trans (startReport_message _ _ _ _ _ _)

theorem queueGrant_message (w : StartWindow) : HuntMessageKept s (queueGrant w s) := by
  unfold queueGrant
  split
  · exact setAdm_message s _
  · split
    · next hj => exact .trans (.of_same (joinQueue_message (by simp [grantMessage]) hj)) (setAdm_message _ _)
    · exact (setAdm_message s _).trans (endWindow_message _ _)

theorem sendReleaseDue_message : HuntMessageKept s (sendReleaseDue s) := by
  unfold sendReleaseDue
  split
  · exact (setAdm_message s _).trans (queueRelease_message _ _ _)
  · exact .refl s

theorem sendHeldGrant_message : HuntMessageKept s (sendHeldGrant s) := by
  unfold sendHeldGrant
  split
  · exact .ite fun _ => queueGrant_message s _
  · exact .refl s

theorem admOutcomeEffect_message (m : StartMessage) (o : DownOutcome) :
    HuntMessageKept s (admOutcomeEffect m o s) := by
  unfold admOutcomeEffect
  split
  · split
    · split
      · exact .refl s
      · exact setAdm_message s _
    · split
      · exact setAdm_message s _
      · exact endWindow_message s _
  · split
    · exact .refl s
    · exact startReport_message s _ _ _ _ _

theorem admOutcome_message (o : DownOutcome) : HuntMessageKept s (admOutcome o s) := by
  unfold admOutcome
  split
  · exact .refl s
  · exact (((setAdm_message s _).trans (admOutcomeEffect_message _ _ _)).trans (sendReleaseDue_message _)).trans
      (sendHeldGrant_message _)

theorem admStartDone_message (a n : Nat) : HuntMessageKept s (admStartDone a n s) :=
  .ite fun _ => endWindow_message s _

theorem admStartAbandon_message (a n : Nat) : HuntMessageKept s (admStartAbandon a n s) := by
  unfold admStartAbandon
  split
  · exact endWindow_message s _
  · split
    · exact .refl s
    · exact .ite fun _ => .of_same (by simp)

theorem openWindow_message (d : Drive) : HuntMessageKept s (openWindow d s) := by
  have hset (v : Admission) :
      HuntMessageKept s ((updateDrive d.drive (fun x => { x with request := .window }) s).setAdm v) :=
    (setAdm_message s _).trans (setAdm_message _ _)
  unfold openWindow
  dsimp only
  split
  · exact (hset _).trans (startReport_message _ _ _ _ _ _)
  · exact ((hset _).trans (queueGrant_message _ _)).trans (startReport_message _ _ _ _ _ _)

theorem rebuildDrives_message (l : List DriveEntry) : HuntMessageKept s (rebuildDrives l s) :=
  .trans (.of_same (by simp)) (.ite fun _ => endWindow_message _ _)

end

end Sys2Proof.Machine

/-! PROOFS. At most one hunt message is queued and in flight (R122, R148): the breaker side, the pilot bus controller,
the settings store, the restart, the host's commands, and every step. -/

namespace Sys2Proof.Machine

/-! ## The coil outputs, the sequencer and the breaker interface -/

section
variable (s : State)

theorem addReport_message (r : Report) : HuntMessageKept s (addReport r s) := .of_same (by simp)

theorem seqMove_message (r : Sequencer) (e : SeqEvent) (o : Option ChangeOrigin) :
    HuntMessageKept s (seqMove r e o s) := by
  have hto : HuntMessageKept s (seqTo r e o s) := .of_same (by simp)
  unfold seqMove
  split
  · exact hto.trans (endWindow_message _ _)
  · exact hto

theorem seqHold_message : HuntMessageKept s (seqHold s) := .of_same (by simp)

theorem setSeq_message (r : Sequencer) : HuntMessageKept s (s.setSeq r) := .of_same (by simp)

theorem tripFromClosed_message (t : LastTrip) : HuntMessageKept s (tripFromClosed t s) := by
  unfold tripFromClosed
  split
  all_goals exact seqMove_message s _ _ _

theorem seqTrip_message (t : LastTrip) : HuntMessageKept s (seqTrip t s) := by
  unfold seqTrip
  split
  · exact tripFromClosed_message s t
  · exact tripFromClosed_message s t
  · exact tripFromClosed_message s t
  · exact setSeq_message s _
  · exact seqMove_message s _ _ _
  · exact setSeq_message s _

theorem openJudgement_message (o : ChangeOrigin) : HuntMessageKept s (openJudgement o s) := by
  unfold openJudgement
  split
  · exact seqMove_message s _ _ _
  · dsimp only
    split
    · exact seqMove_message s _ _ _
    · exact (seqMove_message s _ _ _).trans (seqHold_message _)

theorem laterChange_message (n : BreakerPos) (o : ChangeOrigin) (b : Bool) :
    HuntMessageKept s (laterChange n o b s) := by
  unfold laterChange
  split
  · exact .ite fun _ => openJudgement_message s o
  · split
    · exact seqMove_message s _ _ _
    · exact .ite fun _ => seqMove_message s _ _ _
  · exact .ite fun _ => seqMove_message s _ _ _
  · exact .ite fun _ => seqMove_message s _ _ _
  · exact .ite fun _ => seqMove_message s _ _ _
  · exact .refl s

theorem initialChange_message (n : BreakerPos) : HuntMessageKept s (initialChange n s) := by
  unfold initialChange
  dsimp only
  split
  · exact (setSeq_message s _).trans (seqMove_message _ _ _ _)
  · exact (setSeq_message s _).trans (addReport_message _ _)

theorem seqBreakerChange_message (n : BreakerPos) (o : ChangeOrigin) :
    HuntMessageKept s (seqBreakerChange n o s) := by
  unfold seqBreakerChange
  dsimp only
  split
  · exact (setSeq_message s _).trans (initialChange_message _ _)
  · exact (setSeq_message s _).trans (laterChange_message _ _ _ _)

theorem seqClosedOk_message : HuntMessageKept s (seqClosedOk s) := by
  unfold seqClosedOk
  split
  · exact seqMove_message s _ _ _
  · exact seqMove_message s _ _ _
  all_goals exact .refl s

theorem seqTimedOut_message : HuntMessageKept s (seqTimedOut s) := .ite fun _ => seqMove_message s _ _ _

theorem seqBreakerFail_message : HuntMessageKept s (seqBreakerFail s) := .ite fun _ => seqMove_message s _ _ _

theorem seqGroupChange_message : HuntMessageKept s (seqGroupChange s) := by
  unfold seqGroupChange
  split
  · split
    · exact seqMove_message s _ _ _
    · exact .ite fun _ => seqMove_message s _ _ _
  · exact .refl s

theorem closeRequest_message (o : CloseOrigin) : HuntMessageKept s (closeRequest o s) := .of_same (by simp)

theorem deadTimeEnds_message : HuntMessageKept s (deadTimeEnds s) := by
  unfold deadTimeEnds
  split
  · exact seqMove_message s _ _ _
  · dsimp only
    split
    · exact (seqMove_message s _ _ _).trans (closeRequest_message _ _)
    · exact (seqMove_message s _ _ _).trans (seqMove_message _ _ _ _)

theorem setBrk_message (v : Breaker) : HuntMessageKept s (s.setBrk v) := .of_same (by simp)

theorem ownOutputs_message (n : BreakerPos) : HuntMessageKept s (ownOutputs n s) := by
  unfold ownOutputs
  split
  · exact (HuntMessageKept.trans (.of_same (by simp)) (.ite fun _ => setBrk_message _ _)).trans
      (setCondition_message _ _ _)
  · exact .ite fun _ => .trans (.of_same (by simp)) (seqClosedOk_message _)
  all_goals exact .refl s

theorem acceptPosition_message (n : BreakerPos) : HuntMessageKept s (acceptPosition n s) := by
  have htaken : HuntMessageKept s (positionTaken n s) := by
    unfold positionTaken
    split
    · exact setBrk_message s _
    · exact (setBrk_message s _).trans (endWindow_message _ _)
  rw [acceptPosition_eq]
  exact (htaken.trans (seqBreakerChange_message _ _ _)).trans (ownOutputs_message _ _)

theorem scanPosition_message (a b : Bool) : HuntMessageKept s (scanPosition a b s) :=
  (setBrk_message s _).trans (.ite fun _ => acceptPosition_message _ _)

theorem scanReady_message (level : Bool) : HuntMessageKept s (scanReady level s) :=
  (setBrk_message s _).trans (.ite fun _ => (setBrk_message _ _).trans (setCondition_message _ _ _))

theorem tripTimeout_message : HuntMessageKept s (tripTimeout s) := by
  have hreleased : HuntMessageKept s (tripReleased s) := (setBrk_message s _).trans (setCondition_message _ _ _)
  have hended (u : State) : HuntMessageKept u (endSuspension u) := .of_same (by simp)
  rw [tripTimeout_eq]
  split
  · exact hreleased.trans (hended _)
  · exact (hreleased.trans (seqBreakerFail_message _)).trans (hended _)

end

/-! ## The regime unit, the protection unit and the measurement unit -/

section
variable (s : State)

theorem takeIntoForce_message (g : Nat) : HuntMessageKept s (takeIntoForce g s) := by
  have htaken : HuntMessageKept s (addReport (.group (takeReport g s)) (s.setRegime (takenRegime g s))) :=
    .of_same (by simp)
  unfold takeIntoForce
  dsimp only
  split
  · exact htaken.trans (setCondition_message _ _ _)
  · exact ((htaken.trans (seqGroupChange_message _)).trans (huntGroupChange_message _)).trans
      (setCondition_message _ _ _)

theorem groupWork_message : HuntMessageKept s (groupWork s) := by
  have hstages : HuntMessageKept s (regimeStages s) := .of_same (by simp)
  unfold groupWork
  dsimp only
  split
  · exact hstages.trans (takeIntoForce_message _ _)
  · exact hstages

theorem handTrip_message (t : Trip) : HuntMessageKept s (handTrip t s) :=
  ((HuntMessageKept.trans (.of_same (by simp)) (huntAbort_message _ _)).trans (endWindow_message _ _)).trans
    (seqTrip_message _ _)

theorem setProt_message (v : Protection) : HuntMessageKept s (s.setProt v) := .of_same (by simp)

theorem sefStage_message : HuntMessageKept s (sefStage s) :=
  ((setProt_message s _).trans (setCondition_message _ _ _)).trans (.ite fun _ => huntRequestSef_message _)

theorem protPoint_message (q : Multiples) (b : Bool) : HuntMessageKept s (protPoint q b s) := by
  by_cases h : tripEntries s.settings q (stepValues s.regime.inForce q s.prot) = []
  · rw [protPoint_of_no_entry h]
    exact (setProt_message s _).trans (sefStage_message _)
  · obtain ⟨trip, e⟩ := protPoint_of_entry h
    rw [e]
    exact (((setProt_message s _).trans (setProt_message _ _)).trans (handTrip_message _ _)).trans
      (sefStage_message _)

theorem protLoss_message : HuntMessageKept s (protLoss s) :=
  (setProt_message s _).trans (setCondition_message _ _ _)

theorem evaluationPoint_message : HuntMessageKept s (evaluationPoint s) := by
  have hstored (u : State) : HuntMessageKept u (storeRecord u) := .of_same (by simp)
  have hhanded (u : State) : HuntMessageKept u (handPoint u) :=
    .trans (.of_same (by simp)) (protPoint_message _ _ _)
  exact (((groupWork_message s).trans (hstored _)).trans (setCondition_message _ _ _)).trans (hhanded _)

theorem acceptSet_message (set : SampleSet) : HuntMessageKept s (acceptSet set s) := by
  have htaken : HuntMessageKept s (takenIn set s) := .of_same (by simp [takenIn])
  cases h : raisesPoint (measBefore set s)
  · rwa [acceptSet_of_no_point h]
  · rw [acceptSet_of_point h]
    exact htaken.trans (evaluationPoint_message _)

end

/-! ## The down channel -/

theorem matchingEcho_holds (take : Nat) (d : DownChannel) :
    (matchingEcho take d).msg = d.msg ∧
    ((matchingEcho take d).stage = d.stage ∨
      (matchingEcho take d).stage = .ending ∧ (matchingEcho take d).outcome.isSome = true) := by
  unfold matchingEcho
  split
  · exact ⟨rfl, .inl rfl⟩
  · split
    · exact ⟨rfl, .inr ⟨rfl, rfl⟩⟩
    · exact ⟨rfl, .inl rfl⟩

theorem idleTake_holds (d : DownChannel) :
    (idleTake d).msg = d.msg ∧
    ((idleTake d).stage = d.stage ∨ (idleTake d).stage = .ending ∧ (idleTake d).outcome.isSome = true) := by
  unfold idleTake
  split
  · split
    · exact ⟨rfl, .inl rfl⟩
    · exact ⟨rfl, .inr ⟨rfl, rfl⟩⟩
  · exact ⟨rfl, .inl rfl⟩

/-- A look at an up half leaves the message offered, or ends it with an outcome (R118, R120). -/
theorem examineEcho_holds (take : Nat) (up : Option UpHalf) (d : DownChannel) :
    (examineEcho take up d).msg = d.msg ∧
    ((examineEcho take up d).stage = d.stage ∨
      (examineEcho take up d).stage = .ending ∧ (examineEcho take up d).outcome.isSome = true) := by
  unfold examineEcho
  dsimp only
  split
  · exact ⟨rfl, .inl rfl⟩
  · split
    · split
      · exact matchingEcho_holds take _
      · exact ⟨rfl, .inl rfl⟩
    · exact idleTake_holds _

section
variable {d : DownChannel} {l : List QueueEntry} {o : Option HuntMessage}

theorem Tracked.slotDown (h : Tracked d l o) (take : Nat) (up : Option UpHalf) :
    Tracked (slotDown take up d) l o := by
  unfold Machine.slotDown
  split
  · exact h
  · next hstage =>
    split
    · exact h
    · obtain ⟨hmsg, hkept | ⟨hend, hout⟩⟩ := examineEcho_holds take up d
      · exact h.setDown hmsg (by simp [hkept]) (by simp [hkept]) (by simp [hkept, hstage])
      · exact h.setDown hmsg (by simp [hend]) (by simp [hend]) fun _ => by rw [hmsg, h.offering hstage, hout]
  · next hstage => exact h.setDown rfl id id fun _ => h.ending hstage

theorem Tracked.enterEnding (h : Tracked d l o) (hstage : d.stage = .offering) (out : DownOutcome) :
    Tracked (enterEnding out d) l o :=
  h.setDown rfl nofun nofun fun _ => h.offering hstage

/-- A hunt message goes into flight from its place in the queue (R118, R148). -/
theorem Tracked.launched (h : Tracked d l o) (hl : l ≠ []) {m : DownMessage} (hm : m.cls = .hunt)
    (take : Nat) : Tracked (channelFor take m d) l.tail (o.map fun x => { x with inFlight := true }) := by
  have hone : o.any (fun m => !m.inFlight) = true := by
    by_contra hnone
    exact hl (List.length_eq_zero_iff.mp (by rw [h.waiting, if_neg hnone]))
  have htail : l.tail = [] := List.length_eq_zero_iff.mp (by rw [List.length_tail, h.waiting, if_pos hone])
  obtain ⟨x, rfl⟩ : ∃ x, o = some x := by
    cases o with
    | none => simp at hone
    | some x => exact ⟨x, rfl⟩
  exact ⟨nofun, fun _ => rfl, nofun, by simp [htail], by simp [htail], by simp [channelFor, hm]⟩

/-- Another message goes into flight with no hunt message there (R118). -/
theorem Tracked.passed (h : Tracked d l o) (hfree : d.stage = .freeChannel) {m : DownMessage} (hm : m.cls ≠ .hunt)
    (take : Nat) : Tracked (channelFor take m d) l o := by
  have hflying := h.flying
  rw [h.free hfree] at hflying
  exact ⟨nofun, fun _ => rfl, nofun, h.kinds, h.waiting, by rw [← hflying]; simp [channelFor, hm]⟩

/-- The channel is free once no hunt message is outstanding in flight (R119). -/
theorem Tracked.freed (h : Tracked d l o) (ho : o.any (fun m => m.inFlight) = false) :
    Tracked { d with stage := .freeChannel, msg := none, outcome := none } l o :=
  ⟨fun _ => rfl, nofun, nofun, h.kinds, h.waiting, ho.symm⟩

/-- A hunt message leaves flight, and nothing is outstanding (R119, R148). -/
theorem Tracked.landed (h : Tracked d l o) (ho : o.any (fun m => m.inFlight) = true) :
    Tracked { d with stage := .freeChannel, msg := none, outcome := none } l none := by
  have hl : l = [] := h.no_entries fun m hm => by
    rw [Option.mem_def] at hm
    simpa [hm] using ho
  subst hl
  exact ⟨fun _ => rfl, nofun, nofun, nofun, rfl, rfl⟩

end

/-! ## The pilot bus controller -/

/-- The arbiter's choice is a message that waits (R123). -/
theorem chosenMessage_mem {q : List QueueEntry} {m : DownMessage} (h : chosenMessage q = some m) :
    ∃ e ∈ q, e.msg = m := by
  unfold chosenMessage at h
  rw [Option.map_eq_some_iff] at h
  obtain ⟨e, he, hm⟩ := h
  obtain ⟨c, -, hfind⟩ := List.exists_of_findSome?_eq_some he
  exact ⟨e, List.mem_of_find?_eq_some hfind, hm⟩

section
variable (s : State)

theorem settle_message : HuntMessageKept s (settle s) := .of_same (by simp [settle])

theorem resettle_message : HuntMessageKept s (resettle s) := .ite fun _ => settle_message s

theorem takeHalf_message (up : BitVec 32) : HuntMessageKept s (takeHalf up s) := by
  unfold takeHalf
  split
  · exact .refl s
  · exact .of_tracked fun hs => hs.slotDown _ _

theorem setUp_message (v : UpChannel) : HuntMessageKept s (s.setPilot { s.pilot with up := v }) :=
  .of_same (by simp)

/-- The requester of a message of another class notes it outside the hunt controller (R133, R164). -/
theorem noteInFlight_other {m : DownMessage} (hm : m.cls ≠ .hunt) : SameHuntMessage s (noteInFlight m s) := by
  unfold noteInFlight
  split
  · next hc => exact absurd hc hm
  · simp
  all_goals simp [updateStation]

theorem putInFlight_message {m : DownMessage} (hfree : s.pilot.down.stage = .freeChannel)
    (hm : ∃ e ∈ s.pilot.queue, e.msg = m) : HuntMessageKept s (putInFlight m s) := by
  by_cases hc : m.cls = .hunt
  · refine .of_tracked fun hs => ?_
    obtain ⟨e, he, rfl⟩ := hm
    have hwaits : huntEntries s.pilot.queue ≠ [] := List.ne_nil_of_mem (mem_huntEntries.mpr ⟨he, hc⟩)
    simpa [putInFlight, noteInFlight, hc, huntEntries_eraseP_hunt] using hs.launched hwaits hc s.plant.takeTimeout
  · refine .trans (.of_tracked fun hs => ?_) (.of_same (noteInFlight_other _ hc))
    have hother (e : QueueEntry) (he : (e.msg.cls == m.cls) = true) : e.msg.cls ≠ .hunt := by
      rw [beq_iff_eq] at he
      rwa [he]
    simpa [huntEntries_eraseP_other hother] using hs.passed hfree hc s.plant.takeTimeout

theorem arbitrate_message : HuntMessageKept s (arbitrate s) := by
  unfold arbitrate
  split
  · next hfree =>
    split
    · next hm => exact putInFlight_message s hfree (chosenMessage_mem hm)
    · exact .refl s
  · exact .refl s

theorem reportStation_message (st : Station) (q : Option QueryResult) : HuntMessageKept s (reportStation st q s) :=
  .of_same (by simp)

theorem changeStation_message (old new : Station) (q : Option QueryResult) :
    HuntMessageKept s (changeStation old new q s) := by
  unfold changeStation
  dsimp only
  split
  · exact ((updateStation_message s _ _).trans (reportStation_message _ _ _)).trans (setCondition_message _ _ _)
  · exact (updateStation_message s _ _).trans (setCondition_message _ _ _)

theorem missedAnswer_message (st : Station) : HuntMessageKept s (missedAnswer st s) := changeStation_message s _ _ _

theorem queryOutcome_message (o : DownOutcome) (a : Nat) : HuntMessageKept s (queryOutcome o a s) := by
  unfold queryOutcome
  split
  · exact .refl s
  · split
    · split
      · exact updateStation_message s _ _
      · exact missedAnswer_message s _
    · exact updateStation_message s _ _
    all_goals exact .refl s

/-- A message leaves the channel free, and the outcome of a hunt message leaves nothing outstanding (R119). -/
theorem endMessage_message (hend : s.pilot.down.stage = .ending) : HuntMessageKept s (endMessage s) := by
  intro hs
  have htracked := (huntMessageTracked_iff s).mp hs
  have hfreed (ho : (s.hunt.outstanding.any fun m => m.inFlight) = false) : HuntMessageTracked (freeDown s) :=
    (huntMessageTracked_iff _).mpr (htracked.freed ho)
  unfold endMessage
  split
  · next m o hm _ =>
    have hflying : (s.hunt.outstanding.any fun m => m.inFlight) = (m.cls == .hunt) := by
      rw [← htracked.flying, hm, Option.any_some]
    have hother (hc : m.cls ≠ .hunt) : HuntMessageTracked (freeDown s) := hfreed (by simp [hflying, hc])
    unfold handOutcome
    split
    · next hc =>
      refine huntOutcome_message _ o ((huntMessageTracked_iff _).mpr ?_)
      exact htracked.landed (by simp [hflying, hc])
    · next hc => exact admOutcome_message _ _ (hother (by simp [hc]))
    · next hc => exact queryOutcome_message _ _ _ (hother (by simp [hc]))
    · next hc => exact queryOutcome_message _ _ _ (hother (by simp [hc]))
  · next hnone =>
    refine hfreed ?_
    rw [← htracked.flying]
    cases hm : s.pilot.down.msg with
    | none => rfl
    | some m =>
      have hout := htracked.ending hend
      rw [hm, Option.isSome_some] at hout
      obtain ⟨o, ho⟩ := Option.isSome_iff_exists.mp hout.symm
      exact absurd ho (hnone m o hm)

theorem deliverTo_message (a : Nat) (f : Station → Station) (q : Station → Option QueryResult) :
    HuntMessageKept s (deliverTo a f q s) := by
  unfold deliverTo
  split
  · exact changeStation_message s _ _ _
  · exact .refl s

theorem closeDelivery_message : HuntMessageKept s (closeDelivery s) := (setUp_message s _).trans (resettle_message _)

/-- What the loads and checks of STATIONS take out of the queue is QUERYs (R137). -/
theorem setQueue_message {v : Pilot} (hdown : v.down = s.pilot.down)
    (hqueue : (∀ e ∈ huntEntries s.pilot.queue, e.msg.kind ≠ .query) →
      huntEntries v.queue = huntEntries s.pilot.queue) : HuntMessageKept s (s.setPilot v) := by
  refine .of_tracked fun hs => ?_
  simpa [hdown, hqueue hs.kinds] using hs

theorem rebuildStations_message (l : List StationEntry) : HuntMessageKept s (rebuildStations l s) := by
  refine (setQueue_message s (by exact rfl) fun hkinds => ?_).trans (setCondition_message _ _ _)
  exact huntEntries_filter fun e he => by simp [queryToRemoved, hkinds e he]

theorem dropMark_message (st : Station) : HuntMessageKept s (dropMark s st) :=
  .ite fun _ => (updateStation_message s _ _).trans (reportStation_message _ _ _)

theorem foldl_dropMark_message (l : List Station) : HuntMessageKept s (l.foldl dropMark s) := by
  induction l generalizing s with
  | nil => exact .refl s
  | cons st rest ih => exact (dropMark_message s st).trans (ih _)

theorem stationsInvalid_message : HuntMessageKept s (stationsInvalid s) := by
  refine (setQueue_message s (by exact rfl) fun hkinds => ?_).trans (foldl_dropMark_message _ _)
  exact huntEntries_filter fun e he => by simp [hkinds e he]

end

/-! ## The settings store and the full restart -/

section
variable (s : State)

theorem recompute_message : HuntMessageKept s (recompute s) := .of_same (by simp)

theorem plantChanged_message : HuntMessageKept s (plantChanged s) :=
  (((applyTable_message s).trans (setCondition_message _ _ _)).trans (setCondition_message _ _ _)).trans
    (recompute_message _)

theorem usersAccept_message (i : ImageId) : HuntMessageKept s (usersAccept i s) := by
  cases i with
  | plant => exact plantChanged_message s
  | stations => exact rebuildStations_message s _
  | curve0 | curve1 | curve2 | curve3 | group0 | group1 | group2 | group3 => exact .of_same (by simp [usersAccept])
  | hunt => exact .refl s
  | drives => exact rebuildDrives_message s _

theorem usersInvalid_message (i : ImageId) : HuntMessageKept s (usersInvalid i s) := by
  cases i with
  | plant => exact plantChanged_message s
  | stations => exact stationsInvalid_message s
  | curve0 | curve1 | curve2 | curve3 | group0 | group1 | group2 | group3 => exact .of_same (by simp [usersInvalid])
  | hunt => exact .refl s
  | drives => exact .of_same (by simp [usersInvalid])

theorem setStore_message (v : Store) : HuntMessageKept s (s.setStore v) := .of_same (by simp)

theorem checkImage_message (i : ImageId) : HuntMessageKept s (checkImage s i) := by
  have hchecked : HuntMessageKept s (updateImage i checkedImage s) := setStore_message s _
  unfold checkImage
  dsimp only
  split
  · exact ((hchecked.trans (.of_same (by simp))).trans (usersInvalid_message _ i)).trans (setCondition_message _ _ _)
  · exact hchecked

theorem foldl_checkImage_message (l : List ImageId) : HuntMessageKept s (l.foldl checkImage s) := by
  induction l generalizing s with
  | nil => exact .refl s
  | cons i rest ih => exact (checkImage_message s i).trans (ih _)

theorem endCheck_message : HuntMessageKept s (endCheck s) := by
  unfold endCheck
  split
  · exact checkImage_message s _
  · exact .refl s

theorem fullPass_message : HuntMessageKept s (fullPass s) :=
  (((setStore_message s _).trans (foldl_checkImage_message _ _)).trans (setStore_message _ _)).trans
    (addReport_message _ _)

theorem acceptImage_message (i : ImageId) (l : List Byte) (w : Word16) :
    HuntMessageKept s (acceptImage i l w s) :=
  .trans (.trans (.of_same (by simp)) (setCondition_message _ _ _)) (usersAccept_message _ i)

/-- A restart leaves nothing waiting, in flight or outstanding (R139, R154). -/
theorem fullRestart_message (k : RestartCause) (b1 b0 : Bool) : HuntMessageKept s (fullRestart k b1 b0 s) :=
  .of_tracked fun _ => ⟨nofun, nofun, fun _ => rfl, nofun, rfl, rfl⟩

end

/-! ## Host commands -/

section
variable (s : State)

theorem setHost_message (v : HostIf) : HuntMessageKept s (s.setHost v) := .of_same (by simp)

/-- A command's row keeps the invariant when the command's owner does (R170). -/
theorem runCommand_message (k : CommandKind) {own : List Byte → State → Reply × State}
    (hown : ∀ p u, HuntMessageKept u (own p u).2) : HuntMessageKept s (runCommand k own s) := by
  unfold runCommand
  split
  · unfold execute
    split
    · exact ((setHost_message s _).trans (hown _ (popCommand s))).trans (setHost_message _ _)
    · exact (setHost_message s _).trans (setHost_message (popCommand s) _)
  · exact .refl s

theorem runRestart_message (other : List Byte) : HuntMessageKept s (runRestart other s) := by
  refine .of_same ?_
  unfold runRestart executeRestart linkRestartTaken fullRestartTaken
  repeat' split
  all_goals exact ⟨rfl, rfl, rfl⟩

theorem ownLoadImage_message (p : List Byte) : HuntMessageKept s (ownLoadImage p s).2 := by
  unfold ownLoadImage
  dsimp only
  split
  · exact .refl s
  · split
    · exact .refl s
    · split
      · exact .refl s
      · split
        · exact .refl s
        · split
          · exact acceptImage_message s _ _ _
          · exact .refl s

theorem ownSetFireLevel_message (p : List Byte) : HuntMessageKept s (ownSetFireLevel p s).2 := by
  unfold ownSetFireLevel
  dsimp only
  split
  · exact .refl s
  · exact .trans (.of_same (by simp)) (setCondition_message _ _ _)

theorem ownSelectGroup_message (p : List Byte) : HuntMessageKept s (ownSelectGroup p s).2 := by
  have hoverride (g : Option Nat) : HuntMessageKept s (withOverride g s) := .of_same (by simp)
  unfold ownSelectGroup
  dsimp only
  split
  · exact hoverride _
  · split
    · exact .refl s
    · split
      · exact .refl s
      · exact hoverride _

theorem ownSetPermit_message (p : List Byte) : HuntMessageKept s (ownSetPermit p s).2 := by
  unfold ownSetPermit
  split
  · exact .refl s
  · split
    · exact .refl s
    · exact setCondition_message s _ _

theorem ownAckConditions_message (p : List Byte) : HuntMessageKept s (ownAckConditions p s).2 := by
  unfold ownAckConditions
  dsimp only
  split
  · exact .refl s
  · exact (replaceRecords_message s _ _).trans (huntBarArrival_message _ _)

theorem ownTrip_message : HuntMessageKept s (ownTrip s).2 := .trans (.of_same (by simp)) (seqTrip_message _ _)

theorem ownClose_message : HuntMessageKept s (ownClose s).2 := by
  unfold ownClose
  split
  · exact .refl s
  · split
    · exact .refl s
    · exact .trans (.of_same (by simp)) (seqMove_message _ _ _ _)

theorem judgeReset_message : HuntMessageKept s (judgeReset s).2 := by
  unfold judgeReset
  split
  · exact .refl s
  · split
    · exact .refl s
    · split
      · exact .refl s
      · exact seqMove_message s _ _ _

theorem ownResetLockout_message : HuntMessageKept s (ownResetLockout s).2 :=
  (setCondition_message s _ _).trans (judgeReset_message _)

theorem ownStartHunt_message (p : List Byte) : HuntMessageKept s (ownStartHunt p s).2 := by
  unfold ownStartHunt
  split
  · exact .refl s
  · exact admitHunt_message s _

theorem ownStopHunt_message (p : List Byte) : HuntMessageKept s (ownStopHunt p s).2 := by
  unfold ownStopHunt
  split
  · exact .refl s
  · exact huntAbort_message s _

theorem ownRequestStart_message (p : List Byte) : HuntMessageKept s (ownRequestStart p s).2 := by
  unfold ownRequestStart
  dsimp only
  split
  · exact .refl s
  · split
    · exact .refl s
    · split
      · exact .refl s
      · split
        · exact .refl s
        · split
          · exact .refl s
          · exact .of_same (by simp)

theorem ownCancelStart_message (p : List Byte) : HuntMessageKept s (ownCancelStart p s).2 := by
  unfold ownCancelStart
  dsimp only
  split
  · exact .refl s
  · split
    · exact .refl s
    · split
      · exact .refl s
      · exact .of_same (by simp)
      · exact endWindow_message s _

/-- A promoted POLL was a QUERY, and a hunt message is none (R135). -/
theorem promotePoll_message (a : Nat) :
    HuntMessageKept s (s.setPilot { s.pilot with queue := s.pilot.queue.map (promotePoll a) }) := by
  refine setQueue_message s rfl fun hkinds => huntEntries_map (fun e he => ?_) fun e he => ?_
  · simp [promotePoll, isQueryTo, hkinds e he]
  · unfold promotePoll at he
    split at he
    · cases he
    · exact he

theorem joinQuery_message {c : DownClass} (hc : c ≠ .hunt) {a : Nat} {t : State}
    (h : joinQueue (queryMessage c a) s = some t) : HuntMessageKept s t :=
  .of_same (joinQueue_message (m := queryMessage c a) hc h)

theorem ownPilotQuery_message (p : List Byte) : HuntMessageKept s (ownPilotQuery p s).2 := by
  unfold ownPilotQuery
  dsimp only
  split
  · exact .refl s
  · split
    · exact .refl s
    · split
      · exact (promotePoll_message s _).trans (updateStation_message _ _ _)
      · split
        · next hj => exact (joinQuery_message s (by decide) hj).trans (updateStation_message _ _ _)
        · exact .refl s

end

/-! ## Every command -/

section
variable (s : State)

/-- A row that acts when it is due, and leaves the state alone when it is not. -/
theorem ends_ite_message {p : Prop} [Decidable p] {t : State} (h : p → HuntMessageKept s t) :
    Ends (.next (if p then t else s)) (HuntMessageKept s) := (ends_next _ _).mpr (.ite h)

/-- A host command's row, by its owner. -/
theorem ends_runCommand_message {k : CommandKind} {own : List Byte → State → Reply × State}
    (hown : ∀ p u, HuntMessageKept u (own p u).2) : Ends (.next (runCommand k own s)) (HuntMessageKept s) :=
  (ends_next _ _).mpr (runCommand_message s k hown)

theorem execTimeBaseEvent_message (a b r : Bool) : Ends (exec (.timeBaseEvent a b r) s) (HuntMessageKept s) := by
  have hticked : HuntMessageKept s (ticked s) := .of_same (by simp [ticked, paceTimers, advanceTime])
  rw [execTimeBaseEvent_eq, ends_next]
  exact (hticked.trans (scanPosition_message _ _ _)).trans (scanReady_message _ _)

theorem execBackingWriteCompletion_message (b : Bool) :
    Ends (execBackingWriteCompletion b s) (HuntMessageKept s) := by
  rw [execBackingWriteCompletion, ends_next]
  dsimp only
  split
  · exact .refl s
  · split <;> exact .of_same (by simp)

theorem execDownMessageEnd_message : Ends (execDownMessageEnd s) (HuntMessageKept s) := by
  refine ends_ite_message s fun hdue => ?_
  simp only [endingDue, Bool.and_eq_true, beq_iff_eq] at hdue
  obtain ⟨hend, -⟩ := hdue
  dsimp only
  split
  · exact ((endMessage_message s hend).trans (arbitrate_message _)).trans (settle_message _)
  · exact endMessage_message s hend

theorem execTakeTimeout_message : Ends (execTakeTimeout s) (HuntMessageKept s) := by
  refine ends_ite_message s fun hdue => ?_
  simp only [takeDue, Bool.and_eq_true, beq_iff_eq] at hdue
  obtain ⟨hoffer, -⟩ := hdue
  exact .trans (.of_tracked (fun hs => hs.enterEnding hoffer _)) (resettle_message _)

theorem execStatus_message : Ends (execStatus s) (HuntMessageKept s) := by
  rw [execStatus, ends_next]
  split
  · exact (deliverTo_message s _ _ _).trans (closeDelivery_message _)
  · exact .refl s

theorem execSwitchDone_message : Ends (execSwitchDone s) (HuntMessageKept s) := by
  rw [execSwitchDone, ends_next]
  split
  · exact ((deliverTo_message s _ _ _).trans (huntSwitchDone_message _ _ _)).trans (closeDelivery_message _)
  · exact .refl s

theorem admStartRequest_message (a n : Nat) : HuntMessageKept s (admStartRequest a n s) := .of_same (by simp)

theorem execStartRequest_message : Ends (execStartRequest s) (HuntMessageKept s) := by
  rw [execStartRequest, ends_next]
  split
  · exact ((deliverTo_message s _ _ _).trans (admStartRequest_message _ _ _)).trans (closeDelivery_message _)
  · exact .refl s

theorem execStartDone_message : Ends (execStartDone s) (HuntMessageKept s) := by
  rw [execStartDone, ends_next]
  split
  · exact ((deliverTo_message s _ _ _).trans (admStartDone_message _ _ _)).trans (closeDelivery_message _)
  · exact .refl s

theorem execStartAbandon_message : Ends (execStartAbandon s) (HuntMessageKept s) := by
  rw [execStartAbandon, ends_next]
  split
  · exact ((deliverTo_message s _ _ _).trans (admStartAbandon_message _ _ _)).trans (closeDelivery_message _)
  · exact .refl s

theorem pollStation_message (a : Nat) : HuntMessageKept s (pollStation a s) := by
  unfold pollStation
  split
  · exact .refl s
  · cases hj : joinQueue (queryMessage .poll a) s with
    | none => exact .refl s
    | some t => exact joinQuery_message s (by decide) hj

theorem execPollTimerExpiry_message : Ends (execPollTimerExpiry s) (HuntMessageKept s) := by
  have hloaded (n : Nat) : HuntMessageKept s (s.setPilot { s.pilot with pollRemaining := n }) := .of_same (by simp)
  refine ends_ite_message s fun _ => ?_
  dsimp only
  split
  · split
    · exact .trans (.of_same (by simp)) (pollStation_message _ _)
    · exact hloaded _
  · exact hloaded _

theorem execReplyWaitExpiry_message (a : Nat) : Ends (execReplyWaitExpiry a s) (HuntMessageKept s) := by
  rw [execReplyWaitExpiry, ends_next]
  split
  · exact .ite fun _ => missedAnswer_message s _
  · exact .refl s

theorem execSwitchWaitExpiry_message : Ends (execSwitchWaitExpiry s) (HuntMessageKept s) := by
  refine ends_ite_message s fun _ => ?_
  split
  · exact stepOver_message s _ _
  · exact restoreFailed_message s _
  all_goals exact .refl s

theorem execWholeSecondBoundary_message : Ends (execWholeSecondBoundary s) (HuntMessageKept s) := by
  have hcounted : HuntMessageKept s (afterRestoration (s.setDue { s.due with second := false })) :=
    .of_same (by simp)
  refine ends_ite_message s fun _ => ?_
  dsimp only
  split
  · exact hcounted.trans (openWindow_message _ _)
  · exact hcounted

theorem execRequestLifetimeExpiry_message (n : Nat) : Ends (execRequestLifetimeExpiry n s) (HuntMessageKept s) := by
  rw [execRequestLifetimeExpiry, ends_next]
  split
  · exact .ite fun _ => .of_same (by simp)
  · exact .refl s

theorem execHostRecordArrival_message : Ends (execHostRecordArrival s) (HuntMessageKept s) := by
  rw [execHostRecordArrival, ends_next]
  split
  · exact setHost_message s _
  · exact .refl s

theorem execTransmissionEnd_message : Ends (execTransmissionEnd s) (HuntMessageKept s) := by
  rw [execTransmissionEnd, ends_next]
  split
  · exact .refl s
  all_goals exact setHost_message s _

/-- Every command keeps at most one hunt message queued and in flight. -/
theorem exec_message (c : Instr) : Ends (exec c s) (HuntMessageKept s) := by
  cases c with
  | fullRestart k b1 b0 =>
    exact (ends_next _ _).mpr ((fullRestart_message s (causeOf k) b1 b0).trans (.of_same (by simp)))
  | fullRestartByCommand b1 b0 => exact ends_ite_message s fun _ => fullRestart_message s _ _ _
  | timeBaseEvent a b r => exact execTimeBaseEvent_message s a b r
  | sampleSetArrival n f => exact ends_ite_message s fun _ => acceptSet_message s _
  | lossDeclared =>
    exact ends_ite_message s fun _ =>
      .trans (.trans (.of_same (by simp)) (setCondition_message _ _ _)) (protLoss_message _)
  | tripTimerExpiry => exact ends_ite_message s fun _ => tripTimeout_message s
  | closeTimerExpiry =>
    exact ends_ite_message s fun _ =>
      .trans (.trans (.of_same (by simp)) (setCondition_message _ _ _)) (seqTimedOut_message _)
  | deadTimerExpiry => exact ends_ite_message s fun _ => deadTimeEnds_message s
  | holdExceeded | reclaimTimerExpiry => exact ends_ite_message s fun _ => seqMove_message s _ _ _
  | scanEvent =>
    exact ends_ite_message s fun _ => .trans (.trans (.of_same (by simp)) (endCheck_message _)) (setStore_message _ _)
  | backingWriteCompletion b => exact execBackingWriteCompletion_message s b
  | fireLevelExpiry => exact ends_ite_message s fun _ => .trans (.of_same (by simp)) (setCondition_message _ _ _)
  | slotEvent up =>
    exact ends_ite_message s fun _ =>
      .trans (.trans (.trans (.of_same (by simp)) (takeHalf_message _ up)) (arbitrate_message _)) (settle_message _)
  | takeTimeout => exact execTakeTimeout_message s
  | holdingTimeout | refusingEnd =>
    exact ends_ite_message s fun _ => (setUp_message s _).trans (resettle_message _)
  | downMessageEnd => exact execDownMessageEnd_message s
  | coolDownEnd => exact ends_ite_message s fun _ => setUp_message s _
  | status => exact execStatus_message s
  | switchDone => exact execSwitchDone_message s
  | startRequest => exact execStartRequest_message s
  | startDone => exact execStartDone_message s
  | startAbandon => exact execStartAbandon_message s
  | pollTimerExpiry => exact execPollTimerExpiry_message s
  | replyWaitExpiry a => exact execReplyWaitExpiry_message s a
  | switchWaitExpiry => exact execSwitchWaitExpiry_message s
  | dwellExpiry => exact ends_ite_message s fun _ => judgeDwell_message s
  | settlingEnd =>
    exact ends_ite_message s fun _ => .trans (setHunt_message (by exact rfl)) (ownerReport_message _ _ _)
  | wholeSecondBoundary => exact execWholeSecondBoundary_message s
  | requestLifetimeExpiry n => exact execRequestLifetimeExpiry_message s n
  | startWindowExpiry => exact ends_ite_message s fun _ => endWindow_message s _
  | hostRecordArrival => exact execHostRecordArrival_message s
  | receiveTimeout | transmissionStart => exact ends_ite_message s fun _ => setHost_message s _
  | transmissionEnd => exact execTransmissionEnd_message s
  | hostByteReceived b => exact (ends_next _ _).mpr (setHost_message s _)
  | echo => exact ends_runCommand_message s fun _ u => .refl u
  | readStatus => exact ends_runCommand_message s fun p u => (ownReadStatus_state p u).symm ▸ .refl u
  | readMeasure => exact ends_runCommand_message s fun _ u => .refl u
  | readImage => exact ends_runCommand_message s fun p u => (ownReadImage_state p u).symm ▸ .refl u
  | loadImage => exact ends_runCommand_message s fun p u => ownLoadImage_message u p
  | checkImages => exact ends_runCommand_message s fun _ u => fullPass_message u
  | setFireLevel => exact ends_runCommand_message s fun p u => ownSetFireLevel_message u p
  | selectGroup => exact ends_runCommand_message s fun p u => ownSelectGroup_message u p
  | trip => exact ends_runCommand_message s fun _ u => ownTrip_message u
  | close => exact ends_runCommand_message s fun _ u => ownClose_message u
  | resetLockout => exact ends_runCommand_message s fun _ u => ownResetLockout_message u
  | setPermit => exact ends_runCommand_message s fun p u => ownSetPermit_message u p
  | ackConditions => exact ends_runCommand_message s fun p u => ownAckConditions_message u p
  | startHunt => exact ends_runCommand_message s fun p u => ownStartHunt_message u p
  | stopHunt => exact ends_runCommand_message s fun p u => ownStopHunt_message u p
  | requestStart => exact ends_runCommand_message s fun p u => ownRequestStart_message u p
  | cancelStart => exact ends_runCommand_message s fun p u => ownCancelStart_message u p
  | pilotQuery => exact ends_runCommand_message s fun p u => ownPilotQuery_message u p
  | setReportMask => exact ends_runCommand_message s fun _ u => setHost_message u _
  | restartLink | restartFull => exact (ends_next _ _).mpr (runRestart_message s _)

end

/-- Settles O58: the front command keeps the invariant, and the queue of commands is no part of it. -/
theorem stepKeepsOneHuntMessage : Obligations.StepKeepsOneHuntMessage := by
  intro s t hs e
  unfold step at e
  split at e
  · cases e
    exact hs
  · next c rest _ => exact exec_message (s.setPending rest) c t e hs

end Sys2Proof.Machine

/-! PROOFS. The slot event (R115): the down half that it settles, what the two channels make of the up half, and the
message that the arbiter puts in flight (R116 to R131). -/

namespace Sys2Proof.Machine

/-! ## The slot event in its parts -/

/-- The state in which a slot event runs: its own mark taken, the marks of its follow-up set (assumption log entry 1). -/
def inSlotEvent (s : State) : State := s.setDue { s.due with slot := false, inSlot := true }

/-- A slot event that is due takes in the up half, lets the arbiter choose, and settles the down half (R115). -/
theorem exec_slotEvent {s : State} (h : s.due.slot = true) (up : BitVec 32) :
    exec (.slotEvent up) s = .next (settle (arbitrate (takeHalf up (inSlotEvent s)))) :=
  congrArg Host.Outcome.next (if_pos h)

theorem settle_pilot (s : State) :
    (settle s).pilot.half = some (settledHalf s.pilot) ∧ (settle s).pilot.down = s.pilot.down ∧
    (settle s).pilot.up = { s.pilot.up with refusalShown := s.pilot.up.stage == .refusing } ∧
    (settle s).pilot.queue = s.pilot.queue ∧ (settle s).pilot.stations = s.pilot.stations :=
  ⟨rfl, rfl, rfl, rfl, rfl⟩

/-- Both channels' work, once a down half is on the pair (R115). -/
theorem takeHalf_pilot {s : State} {h : DownHalf} (hh : s.pilot.half = some h) (up : BitVec 32) :
    (takeHalf up s).pilot =
      { s.pilot with
        down := slotDown s.plant.takeTimeout (readUpHalf up) s.pilot.down
        up := slotUp s.pilot.stations h.free (readUpHalf up) s.pilot.up } := by
  simp [takeHalf, hh]

theorem takeHalf_rest (up : BitVec 32) (s : State) :
    (takeHalf up s).pilot.queue = s.pilot.queue ∧ (takeHalf up s).pilot.stations = s.pilot.stations := by
  unfold takeHalf
  split <;> exact ⟨rfl, rfl⟩

/-- A free channel is left to the arbiter. -/
theorem takeHalf_freeChannel {s : State} (hfree : s.pilot.down.stage = .freeChannel) (up : BitVec 32) :
    (takeHalf up s).pilot.down = s.pilot.down := by
  unfold takeHalf
  split
  · rfl
  · simp [slotDown, hfree]

theorem noteInFlight_pilot (m : DownMessage) (s : State) :
    (noteInFlight m s).pilot.down = s.pilot.down ∧ (noteInFlight m s).pilot.up = s.pilot.up ∧
    (noteInFlight m s).pilot.queue = s.pilot.queue := by
  unfold noteInFlight
  split <;> exact ⟨rfl, rfl, rfl⟩

theorem arbitrate_up (s : State) : (arbitrate s).pilot.up = s.pilot.up := by
  unfold arbitrate
  split
  · split
    · obtain ⟨-, hup, -⟩ := noteInFlight_pilot _ _
      exact hup
    · rfl
  · rfl

theorem arbitrate_busy {s : State} (h : s.pilot.down.stage ≠ .freeChannel) : arbitrate s = s := if_neg h

/-! ## The down half -/

/-- What the settled half shows of the two channels (Table 7.6). -/
theorem settledHalf_shows (p : Pilot) :
    ((settledHalf p).free = true ↔ p.up.stage = .openToContest) ∧
    (p.up.stage = .holding ∨ p.up.stage = .refusing → (settledHalf p).holder = p.up.holder.getD 0) ∧
    (p.up.stage = .openToContest ∨ p.up.stage = .closed → (settledHalf p).holder = 0) ∧
    ((settledHalf p).offer = true ↔ p.down.stage = .offering) ∧
    (p.down.stage = .offering →
      (settledHalf p).phase = p.down.phase ∧
      ∀ m, p.down.msg = some m → (settledHalf p).cell = m.cells.getD (p.down.cell - 1) 0) ∧
    (p.down.stage ≠ .offering → (settledHalf p).phase = false ∧ (settledHalf p).cell = 0) ∧
    ((settledHalf p).upTake = true ↔ p.up.stage = .holding ∧ p.up.lastPhase.isSome = true) ∧
    (∀ q, p.up.stage = .holding → p.up.lastPhase = some q → (settledHalf p).upTakePhase = q) ∧
    ((settledHalf p).upTake = false → (settledHalf p).upTakePhase = false) := by
  refine ⟨by simp [settledHalf], fun h => ?_, fun h => ?_, by simp [settledHalf], fun h => ⟨?_, fun m hm => ?_⟩,
    fun h => ⟨?_, ?_⟩, by simp [settledHalf, echoes], fun q h hq => ?_, fun h => ?_⟩
  · rcases h with h | h <;> simp [settledHalf, showsHolder, h]
  · rcases h with h | h <;> simp [settledHalf, showsHolder, h]
  · simp [settledHalf, h]
  · simp [settledHalf, h, offeredCell, hm]
  · simp [settledHalf, h]
  · simp [settledHalf, h]
  · simp [settledHalf, echoes, h, hq]
  · have hecho : echoes p.up = false := h
    simp [settledHalf, hecho]

/-- Settles O24: the half is settled from the state that the two channels and the arbiter leave. -/
theorem slotEventSettlesTheDownHalf : Obligations.SlotEventSettlesTheDownHalf := by
  intro up s hdue
  obtain ⟨hfree, hholder, hnone, hoffer, hcell, hidle, htake, hphase, hnotake⟩ :=
    settledHalf_shows (arbitrate (takeHalf up (inSlotEvent s))).pilot
  exact ⟨_, _, exec_slotEvent hdue up, rfl, hfree, hholder, hnone, hoffer, hcell, hidle, htake, hphase, hnotake,
    by simp [inSlotEvent, SameSettings]⟩

/-! ## The cell on offer -/

/-- A half whose check fails carries nothing (R116). -/
theorem readUpHalf_invalid {x : BitVec 32} (h : upHalfValid x = false) : readUpHalf x = none := by
  simp [readUpHalf, h]

theorem slotEvent_congr {x y : BitVec 32} (h : readUpHalf x = readUpHalf y) (s : State) :
    exec (.slotEvent x) s = exec (.slotEvent y) s := by
  have htake (u : State) : takeHalf x u = takeHalf y u := by
    unfold takeHalf
    rw [h]
  refine congrArg Host.Outcome.next ?_
  dsimp only
  rw [htake]

section
variable {take : Nat} {d : DownChannel} {m : DownMessage} {u : UpHalf}

/-- The second of two matching echoes accepts the cell (R118). -/
theorem examineEcho_accepted (ht : u.take = true) (hp : u.takePhase = d.phase) (he : d.echoLooks = 1) :
    examineEcho take (some u) d =
      if lastCell d then enterEnding .delivered { d with slotsOffered := d.slotsOffered + 1, echoSeen := true }
      else nextCell take { d with slotsOffered := d.slotsOffered + 1, echoSeen := true } := by
  simp only [examineEcho, ht, hp, matchingEcho, he, if_true]
  rfl

/-- The second idle down-TAKE after an echo refuses the message (R120). -/
theorem examineEcho_refused (ht : u.take = false) (he : d.echoSeen = true) (hi : d.idleLooks = 1) :
    examineEcho take (some u) d = enterEnding .refused { d with slotsOffered := d.slotsOffered + 1 } := by
  simp [examineEcho, ht, idleTake, he, hi]

theorem lastCell_of_le (hm : d.msg = some m) (h : m.cells.length ≤ d.cell) : lastCell d = true := by
  simp [lastCell, hm, h]

theorem lastCell_of_lt (hm : d.msg = some m) (h : d.cell < m.cells.length) : lastCell d = false := by
  simp [lastCell, hm, h]

theorem slotDown_examines (hoffer : d.stage = .offering) (h : d.slotsOffered < d.loadedTake) (up : Option UpHalf) :
    slotDown take up d = examineEcho take up d := by
  simp [slotDown, hoffer, Nat.not_le.mpr h]

end

/-- In a slot event on an offered cell the arbiter has nothing to choose. -/
theorem slotEvent_offering {s : State} {h : DownHalf} (hdue : s.due.slot = true) (hhalf : s.pilot.half = some h)
    (hoffer : s.pilot.down.stage = .offering) (htime : s.pilot.down.slotsOffered < s.pilot.down.loadedTake)
    (up : BitVec 32) :
    ∃ t, exec (.slotEvent up) s = .next t ∧
      t.pilot.down = examineEcho s.plant.takeTimeout (readUpHalf up) s.pilot.down ∧
      t.pilot.queue = s.pilot.queue := by
  have hpilot := takeHalf_pilot (s := inSlotEvent s) hhalf up
  have hdown : (takeHalf up (inSlotEvent s)).pilot.down =
      examineEcho s.plant.takeTimeout (readUpHalf up) s.pilot.down := by
    rw [hpilot]
    exact slotDown_examines hoffer htime _
  have hbusy : (takeHalf up (inSlotEvent s)).pilot.down.stage ≠ .freeChannel := by
    obtain ⟨-, hstage | ⟨hstage, -⟩⟩ := examineEcho_holds s.plant.takeTimeout (readUpHalf up) s.pilot.down
    · simp [hdown, hstage, hoffer]
    · simp [hdown, hstage]
  refine ⟨_, exec_slotEvent hdue up, ?_⟩
  rw [arbitrate_busy hbusy]
  exact ⟨hdown, (takeHalf_rest up _).1⟩

/-- Settles O25: an invalid half reads as none, and the looks decide the cell as `examineEcho` has it. -/
theorem upHalvesDecideTheCell : Obligations.UpHalvesDecideTheCell := by
  refine ⟨fun x y s hx hy => slotEvent_congr (by rw [readUpHalf_invalid hx, readUpHalf_invalid hy]) s, ?_⟩
  intro up u h m s hdue hhalf hoffer hm htime hread
  obtain ⟨t, hexec, hdown, hqueue⟩ := slotEvent_offering hdue hhalf hoffer htime up
  rw [hread] at hdown
  refine ⟨t, hexec, fun ht hp he hle => ?_, fun ht hp he hlt => ?_, fun ht he hi => ?_, hqueue⟩
  · rw [hdown, examineEcho_accepted ht hp he, lastCell_of_le hm hle]
    exact ⟨rfl, rfl, rfl⟩
  · rw [hdown, examineEcho_accepted ht hp he, lastCell_of_lt hm hlt]
    exact ⟨hoffer, rfl, rfl, rfl, rfl⟩
  · rw [hdown, examineEcho_refused ht he hi]
    exact ⟨rfl, rfl, rfl⟩

/-! ## The holder -/

theorem listedIn_iff {l : List Station} {a : Nat} : listedIn l a = true ↔ ∃ x ∈ l, x.address = a := by
  simp [listedIn]

theorem cooling_iff {u : UpChannel} {a : Nat} :
    cooling u a = true ↔ ∃ c, u.coolDown = some c ∧ c.address = a ∧ c.left ≠ 0 := by
  unfold cooling
  cases u.coolDown <;> simp

section
variable {l : List Station} {free : Bool} {h : UpHalf} {u : UpChannel}

/-- A contest that wins makes its address the holder (R125). -/
theorem slotUp_contest_won (hs : u.stage = .openToContest) (ho : h.offer = true) (hl : listedIn l h.contest = true)
    (hc : cooling u h.contest = false) : slotUp l free (some h) u = newHolder h.contest := by
  simp [slotUp, hs, judgeContest, ho, hl, hc, newHolder, upIdle]

/-- Any other contest leaves FREE shown (R125, R130). -/
theorem slotUp_contest_lost (hs : u.stage = .openToContest)
    (hlost : ¬ (h.offer = true ∧ listedIn l h.contest = true ∧ cooling u h.contest = false)) :
    (slotUp l free (some h) u).stage = .openToContest ∧ (slotUp l free (some h) u).holder = u.holder := by
  have hjudged : judgeContest l (some h) u = u := if_neg hlost
  have hcool : (coolSlot free u).stage = u.stage ∧ (coolSlot free u).holder = u.holder := by
    unfold coolSlot
    split <;> exact ⟨rfl, rfl⟩
  simp [slotUp, hs, hjudged, hcool]

end

theorem slotEvent_up {s : State} {h : DownHalf} (hdue : s.due.slot = true) (hhalf : s.pilot.half = some h)
    (up : BitVec 32) :
    ∃ t, exec (.slotEvent up) s = .next t ∧
      t.pilot.up =
        { slotUp s.pilot.stations h.free (readUpHalf up) s.pilot.up with
          refusalShown := (slotUp s.pilot.stations h.free (readUpHalf up) s.pilot.up).stage == .refusing } := by
  refine ⟨_, exec_slotEvent hdue up, ?_⟩
  obtain ⟨-, -, hup, -⟩ := settle_pilot (arbitrate (takeHalf up (inSlotEvent s)))
  rw [hup, arbitrate_up, takeHalf_pilot (s := inSlotEvent s) hhalf]
  rfl

/-! ## The message put in flight -/

section
variable {q1 q2 : List QueueEntry} {e : QueueEntry} (h1 : ∀ x ∈ q1, e.msg.cls.order < x.msg.cls.order)
include h1

theorem other_class_before {x : QueueEntry} (hx : x ∈ q1) : x.msg.cls ≠ e.msg.cls :=
  fun h => absurd (h1 x hx) (by simp [h])

/-- The first entry of its class is found. -/
theorem find?_class : (q1 ++ e :: q2).find? (fun x => x.msg.cls == e.msg.cls) = some e := by
  rw [List.find?_append, List.find?_eq_none.mpr fun x hx => by simpa using other_class_before h1 hx]
  simp

theorem eraseP_class : (q1 ++ e :: q2).eraseP (fun x => x.msg.cls == e.msg.cls) = q1 ++ q2 := by
  rw [List.eraseP_append_right _ fun x hx => by simpa using other_class_before h1 hx]
  simp

/-- The message of the lowest arbiter order that joined first is chosen (R123). -/
theorem chosenMessage_first (h2 : ∀ x ∈ q2, e.msg.cls.order ≤ x.msg.cls.order) :
    chosenMessage (q1 ++ e :: q2) = some e.msg := by
  have hfound := find?_class (q2 := q2) h1
  have hlower (c : DownClass) (hc : c.order < e.msg.cls.order) :
      (q1 ++ e :: q2).find? (fun x => x.msg.cls == c) = none := by
    refine List.find?_eq_none.mpr fun x hx hxc => ?_
    rw [beq_iff_eq] at hxc
    have hle : e.msg.cls.order ≤ x.msg.cls.order := by
      rcases List.mem_append.mp hx with hx | hx
      · exact (h1 x hx).le
      · rcases List.mem_cons.mp hx with rfl | hx
        · exact le_rfl
        · exact h2 x hx
    rw [hxc] at hle
    exact absurd hc (Nat.not_lt.mpr hle)
  unfold chosenMessage
  cases hcls : e.msg.cls <;> rw [hcls] at hfound hlower
  · simp [List.findSome?, hfound]
  · simp [List.findSome?, hfound, hlower .hunt (by decide)]
  · simp [List.findSome?, hfound, hlower .hunt (by decide), hlower .admission (by decide)]
  · simp [List.findSome?, hfound, hlower .hunt (by decide), hlower .admission (by decide),
      hlower .host (by decide)]

end

/-- The requester of a message put in flight learns of it, and nothing else of the three requesters changes (R133, R148,
R164). -/
theorem noteInFlight_noted (m : DownMessage) (s : State) : InFlightNoted m s (noteInFlight m s) := by
  unfold noteInFlight InFlightNoted
  cases m.cls
  · exact ⟨fun _ => ⟨rfl, rfl, rfl⟩, nofun, nofun⟩
  · exact ⟨nofun, fun _ => ⟨rfl, rfl, rfl⟩, nofun⟩
  · exact ⟨nofun, nofun, fun _ => ⟨rfl, rfl, rfl⟩⟩
  · exact ⟨nofun, nofun, fun _ => ⟨rfl, rfl, rfl⟩⟩

theorem arbitrate_launches {m : DownMessage} {s : State} (hfree : s.pilot.down.stage = .freeChannel)
    (hm : chosenMessage s.pilot.queue = some m) : arbitrate s = putInFlight m s := by
  simp [arbitrate, hfree, hm]

/-- A message put in flight leaves the queue for the channel, and its requester learns of it (R118). -/
theorem putInFlight_launched (m : DownMessage) (s : State) :
    (putInFlight m s).pilot.down = channelFor s.plant.takeTimeout m s.pilot.down ∧
    (putInFlight m s).pilot.queue = s.pilot.queue.eraseP (fun e => e.msg.cls == m.cls) ∧
    InFlightNoted m s (putInFlight m s) := by
  obtain ⟨hdown, -, hqueue⟩ := noteInFlight_pilot m (s.setPilot
    { s.pilot with
      queue := s.pilot.queue.eraseP fun e => e.msg.cls == m.cls
      down := channelFor s.plant.takeTimeout m s.pilot.down })
  exact ⟨hdown, hqueue, noteInFlight_noted m _⟩

/-- The note is read from the three requesters alone. -/
theorem InFlightNoted.of_same {m : DownMessage} {s u t v : State} (h : InFlightNoted m u t)
    (hu : u.hunt = s.hunt ∧ u.adm = s.adm ∧ u.pilot.stations = s.pilot.stations)
    (ht : v.hunt = t.hunt ∧ v.adm = t.adm ∧ v.pilot.stations = t.pilot.stations) : InFlightNoted m s v := by
  obtain ⟨hu1, hu2, hu3⟩ := hu
  obtain ⟨ht1, ht2, ht3⟩ := ht
  rw [InFlightNoted, ht1, ht2, ht3, ← hu1, ← hu2, ← hu3]
  exact h

/-- Settles O26: the contest is judged by `slotUp`, and the arbiter's choice is put in flight. -/
theorem slotEventChoosesHolderAndMessage : Obligations.SlotEventChoosesHolderAndMessage := by
  constructor
  · intro up u h s hdue hhalf hopen hread hoffer
    obtain ⟨t, hexec, hup⟩ := slotEvent_up hdue hhalf up
    rw [hread] at hup
    refine ⟨t, hexec, fun hlisted hcool => ?_, fun hlost => ?_⟩
    · have hnot : cooling s.pilot.up u.contest = false := by
        rw [Bool.eq_false_iff, Ne, cooling_iff]
        rintro ⟨c, hc, ha, hleft⟩
        exact hleft (hcool c hc ha)
      rw [hup, slotUp_contest_won hopen hoffer (listedIn_iff.mpr hlisted) hnot]
      rfl
    · have hlost' : ¬ (u.offer = true ∧ listedIn s.pilot.stations u.contest = true ∧
          cooling s.pilot.up u.contest = false) := by
        rintro ⟨-, hl, hc⟩
        rcases hlost with hlost | hlost
        · obtain ⟨x, hx, ha⟩ := listedIn_iff.mp hl
          exact hlost x hx ha
        · rw [cooling_iff.mpr hlost] at hc
          cases hc
      rw [hup]
      exact slotUp_contest_lost hopen hlost'
  · intro up s q1 q2 e hdue hfree hqueue h1 h2
    obtain ⟨hq, hst⟩ := takeHalf_rest up (inSlotEvent s)
    have hdown := takeHalf_freeChannel (s := inSlotEvent s) hfree up
    have hwaiting : (takeHalf up (inSlotEvent s)).pilot.queue = q1 ++ e :: q2 := hq.trans hqueue
    have hlaunched : arbitrate (takeHalf up (inSlotEvent s)) = putInFlight e.msg (takeHalf up (inSlotEvent s)) :=
      arbitrate_launches (by rw [hdown]; exact hfree) (by rw [hwaiting]; exact chosenMessage_first h1 h2)
    obtain ⟨hdown', hqueue', hnoted⟩ := putInFlight_launched e.msg (takeHalf up (inSlotEvent s))
    refine ⟨_, exec_slotEvent hdue up, ?_⟩
    rw [hlaunched]
    refine ⟨?_, ?_, hnoted.of_same ⟨by simp [inSlotEvent], by simp [inSlotEvent], hst⟩ ⟨by simp, by simp, rfl⟩⟩
    · exact hqueue'.trans (by rw [hwaiting, eraseP_class h1])
    · refine hdown'.trans ?_
      rw [hdown]
      simp [channelFor, State.plant, inSlotEvent]

end Sys2Proof.Machine

/-! PROOFS. The ends of the pilot bus controller: the take timeout (R121), the end of a holding (R127 to R131), and
the end of a cool-down (R130). -/

namespace Sys2Proof.Machine

/-! ## The down half settled again -/

/-- Settling again writes the down half and the mark of a refusal shown, nothing else (R115, assumption log entry 7). -/
theorem resettle_writes (s : State) :
    ∃ half shown, resettle s =
      { s with pilot := { s.pilot with half := half, up := { s.pilot.up with refusalShown := shown } } } := by
  unfold resettle
  split
  · exact ⟨_, _, rfl⟩
  · exact ⟨_, _, rfl⟩

/-! ## The end of a holding -/

theorem endHolding_shown (fit : Bool) (u : UpChannel) :
    { endHolding fit u with refusalShown := (endHolding fit u).stage == .refusing } = endHolding fit u := by
  cases fit <;> rfl

/-- The end of a holding changes the up channel and the down half alone (R127 to R131). -/
theorem closeDelivery_writes (s : State) :
    ∃ half, closeDelivery s =
      { s with
        pilot := { s.pilot with up := endHolding (usable s.store.images.stations) s.pilot.up, half := half } } := by
  unfold closeDelivery resettle
  split
  · let half := settledHalf { s.pilot with up := endHolding (stationsUsable s) s.pilot.up }
    exact ⟨some half, congrArg (fun u => ({ s with pilot := { s.pilot with up := u, half := some half } } : State))
      (endHolding_shown (stationsUsable s) s.pilot.up)⟩
  · exact ⟨_, rfl⟩

theorem closeDelivery_ends (s : State) :
    (closeDelivery s).pilot.up = endHolding (usable s.store.images.stations) s.pilot.up ∧
    closeDelivery s =
      { s with pilot := { s.pilot with up := (closeDelivery s).pilot.up, half := (closeDelivery s).pilot.half } } := by
  obtain ⟨half, h⟩ := closeDelivery_writes s
  rw [h]
  exact ⟨rfl, rfl⟩

theorem closeDelivery_pilot (s : State) :
    (closeDelivery s).pilot.down = s.pilot.down ∧ (closeDelivery s).pilot.queue = s.pilot.queue ∧
    (closeDelivery s).pilot.stations = s.pilot.stations := by
  obtain ⟨half, h⟩ := closeDelivery_writes s
  rw [h]
  exact ⟨rfl, rfl, rfl⟩

/-- A former holder cools down for two slots (R130). -/
theorem endHolding_fit {u : UpChannel} {a : Nat} (h : u.holder = some a) :
    (endHolding true u).stage = .openToContest ∧ (endHolding true u).holder = none ∧
    (endHolding true u).coolDown = some { address := a, left := 2 } := by
  simp [endHolding, upIdle, h]

/-! ## The rows -/

theorem exec_takeTimeout {s : State} (h : takeDue s = true) :
    exec .takeTimeout s =
      .next (resettle (s.setPilot { s.pilot with down := enterEnding .noTake s.pilot.down })) :=
  congrArg Host.Outcome.next (if_pos h)

theorem exec_holdingTimeout {s : State} (h : holdingDue s = true) :
    exec .holdingTimeout s = .next (closeDelivery s) := congrArg Host.Outcome.next (if_pos h)

theorem exec_refusingEnd {s : State} (h : refusingDue s = true) : exec .refusingEnd s = .next (closeDelivery s) :=
  congrArg Host.Outcome.next (if_pos h)

/-- Settles O27: a timeout ends the message, and both ends of a holding close it as a delivery does. -/
theorem pilotTimeoutsAndEnds : Obligations.PilotTimeoutsAndEnds := by
  refine ⟨fun s hoffer htime => ?_, fun s => ⟨fun hs hc hn => ?_, fun hs hshown hleft => ?_,
    fun a ha => endHolding_fit ha, rfl, rfl⟩, fun s c hc => ⟨fun hleft => ?_, fun hleft => ?_⟩⟩
  · obtain ⟨half, shown, h⟩ := resettle_writes (s.setPilot { s.pilot with down := enterEnding .noTake s.pilot.down })
    refine ⟨half, shown, ?_⟩
    rw [exec_takeTimeout (by simp [takeDue, hoffer, htime]), h]
    rfl
  · exact ⟨_, exec_holdingTimeout (by simp [holdingDue, hs, hc, hn]), closeDelivery_ends s⟩
  · exact ⟨_, exec_refusingEnd (by simp [refusingDue, hs, hshown, hleft]), closeDelivery_ends s⟩
  · exact congrArg Host.Outcome.next (if_pos (by simp [coolDownDue, hc, hleft]))
  · exact congrArg Host.Outcome.next (if_neg (by simp [coolDownDue, hc, hleft]))

end Sys2Proof.Machine

/-! PROOFS. The station records: a record that takes a new value with its report and STATION_SILENT (R134, R136, R138),
the deliveries STATUS and SWITCH_DONE (R127, R136, R145), and a missed answer (R133). -/

namespace Sys2Proof.Machine

/-! ## Records found by their key -/

/-- A list whose records of one key are changed, the key kept. -/
theorem find?_updated {α : Type} (key : α → Nat) {f : α → α} {a : Nat} (hf : ∀ x, key x = a → key (f x) = a)
    (l : List α) (n : Nat) :
    (l.map fun x => if key x = a then f x else x).find? (fun x => key x == n) =
      if n = a then (l.find? fun x => key x == n).map f else l.find? fun x => key x == n := by
  induction l with
  | nil => simp
  | cons x rest ih =>
    rw [List.map_cons, List.find?_cons, List.find?_cons, ih]
    by_cases hx : key x = a
    · by_cases hn : n = a
      · simp [hx, hn, hf x hx]
      · simp [hx, hn, hf x hx, beq_false_of_ne (Ne.symm hn)]
    · by_cases hn : n = a
      · simp [hx, hn, beq_false_of_ne hx]
      · simp [hx, hn]

theorem findStation_congr {s t : State} (h : t.pilot.stations = s.pilot.stations) (n : Nat) :
    findStation t n = findStation s n := by
  unfold findStation
  rw [h]

theorem findStation_address {s : State} {a : Nat} {st : Station} (h : findStation s a = some st) : st.address = a := by
  simpa using List.find?_some h

theorem findStation_updateStation {f : Station → Station} {a : Nat} (hf : ∀ x, x.address = a → (f x).address = a)
    (s : State) (n : Nat) :
    findStation (updateStation a f s) n = if n = a then (findStation s n).map f else findStation s n :=
  find?_updated Station.address hf s.pilot.stations n

theorem findDrive_congr {s t : State} (h : t.adm.drives = s.adm.drives) (n : Nat) : findDrive t n = findDrive s n := by
  unfold findDrive
  rw [h]

theorem findDrive_drive {s : State} {n : Nat} {d : Drive} (h : findDrive s n = some d) : d.drive = n := by
  simpa using List.find?_some h

theorem findDrive_updateDrive {f : Drive → Drive} {a : Nat} (hf : ∀ x, x.drive = a → (f x).drive = a)
    (s : State) (n : Nat) :
    findDrive (updateDrive a f s) n = if n = a then (findDrive s n).map f else findDrive s n :=
  find?_updated Drive.drive hf s.adm.drives n

/-! ## A record takes a new value -/

/-- A record that takes a new value: the reports and STATION_SILENT aside, the table changes at its address alone
(R136). -/
theorem changeStation_stations (old new : Station) (q : Option QueryResult) (s : State) :
    (changeStation old new q s).pilot.stations = (updateStation old.address (fun _ => new) s).pilot.stations ∧
    (changeStation old new q s).pilot.up = s.pilot.up := by
  unfold changeStation
  dsimp only
  split <;> simp [updateStation]

section
variable {s : State} {a : Nat} {st new : Station}

theorem findStation_changeStation (hst : findStation s a = some st) (hnew : new.address = a) (q : Option QueryResult) :
    findStation (changeStation st new q s) a = some new ∧
    ∀ n, n ≠ a → findStation (changeStation st new q s) n = findStation s n := by
  have ha := findStation_address hst
  obtain ⟨hstations, -⟩ := changeStation_stations st new q s
  have hfound (n : Nat) := (findStation_congr hstations n).trans
    (findStation_updateStation (f := fun _ => new) (fun _ _ => hnew.trans ha.symm) s n)
  refine ⟨?_, fun n hn => ?_⟩
  · rw [hfound, if_pos ha.symm, hst]
    rfl
  · rw [hfound, if_neg (by rwa [ha])]

end

/-- STATION_SILENT is active while a station is SILENT (R134). -/
theorem judgeSilent_active (s : State) :
    (judgeSilent s).mon.recs.stationSilent.active = (judgeSilent s).pilot.stations.any fun x => x.presence == .silent := by
  have h := setCondition_active (c := .stationSilent) (by decide)
    (s.pilot.stations.any fun st => st.presence == .silent) s
  obtain ⟨-, -, -, -, -, hstations⟩ := judgeSilent_pilot s
  rw [hstations]
  exact h

theorem changeStation_active (old new : Station) (q : Option QueryResult) (s : State) :
    (changeStation old new q s).mon.recs.stationSilent.active =
      (changeStation old new q s).pilot.stations.any fun x => x.presence == .silent := judgeSilent_active _

/-- A STATION_SILENT that stands as it should is left alone (R102). -/
theorem judgeSilent_settled {s : State}
    (h : s.mon.recs.stationSilent.active = s.pilot.stations.any fun x => x.presence == .silent) : judgeSilent s = s :=
  setCondition_same h

/-- With no station SILENT before or after, a record's new value reaches no other block (R134). -/
theorem changeStation_quiet {s : State} {old new : Station} (hall : ∀ x ∈ s.pilot.stations, x.presence ≠ .silent)
    (hactive : s.mon.recs.stationSilent.active = false) (hnew : new.presence ≠ .silent) (q : Option QueryResult) :
    (changeStation old new q s).hunt = s.hunt ∧ (changeStation old new q s).mon = s.mon ∧
    (changeStation old new q s).brk = s.brk ∧ (changeStation old new q s).seq = s.seq := by
  have hnone : ((updateStation old.address (fun _ => new) s).pilot.stations.any fun x => x.presence == .silent) =
      false := by
    rw [List.any_eq_false]
    intro x hx
    obtain ⟨y, hy, rfl⟩ := List.mem_map.mp hx
    split
    · simpa using hnew
    · simpa using hall y hy
  unfold changeStation
  dsimp only
  split
  · rw [judgeSilent_settled (by simpa [hnone] using hactive)]
    simp
  · rw [judgeSilent_settled (by simpa [hnone] using hactive)]
    simp

/-! ## Deliveries -/

theorem deliverTo_listed {s : State} {a : Nat} {st : Station} (h : findStation s a = some st) (f : Station → Station)
    (q : Station → Option QueryResult) : deliverTo a f q s = changeStation st (f st) (q st) s := by
  simp [deliverTo, h]

theorem deliverTo_up (a : Nat) (f : Station → Station) (q : Station → Option QueryResult) (s : State) :
    (deliverTo a f q s).pilot.up = s.pilot.up := by
  unfold deliverTo
  split
  · exact (changeStation_stations _ _ _ s).2
  · rfl

/-- A delivery ends the holding that the message came in (R127, R130). -/
theorem closeDelivery_up {s u : State} (hup : u.pilot.up = s.pilot.up) (hstore : u.store = s.store) :
    (closeDelivery u).pilot.up = endHolding (usable s.store.images.stations) s.pilot.up := by
  rw [← hup, ← hstore]
  exact (closeDelivery_ends u).1

theorem exec_status {s : State} {a : Nat} {c : Word16} (h : dueMessage s = some (.status, a, c)) :
    exec .status s = .next (closeDelivery (deliverTo a (afterStatus c) statusQuery s)) := by
  change Host.Outcome.next _ = _
  rw [h]

theorem exec_switchDone {s : State} {a : Nat} {c : Word16} (h : dueMessage s = some (.switchDone, a, c)) :
    exec .switchDone s =
      .next (closeDelivery (huntSwitchDone a (switchResultOf c)
        (deliverTo a (afterSwitchDone (switchResultOf c)) noQuery s))) := by
  change Host.Outcome.next _ = _
  rw [h]

theorem afterStatus_eq (c : Word16) (st : Station) :
    afterStatus c st =
      { st with
        presence := .present
        missed := 0
        switch := statusSwitch c
        indicator := c.getLsbD 4
        lock := c.getLsbD 5
        answer :=
          (match st.answer with
            | .inFlight => .answered
            | .waiting _ => .none
            | .none => .none
            | .answered => .answered)
        hostMark :=
          (match st.answer with
            | .inFlight => false
            | .waiting _ => false
            | .none => st.hostMark
            | .answered => st.hostMark) } := by
  cases h : st.answer <;> simp [afterStatus, heard, answerAfterStatus, answersQuery, h, statusIndicator, statusLock]

/-- Settles O29: the delivery changes its station's record, and ends the holding. -/
theorem statusUpdatesItsStation : Obligations.StatusUpdatesItsStation := by
  intro s a c st hdue hst
  have hdelivered := deliverTo_listed hst (afterStatus c) statusQuery
  have ha : (afterStatus c st).address = a := findStation_address (st := st) hst
  obtain ⟨hown, hothers⟩ := findStation_changeStation hst ha (statusQuery st)
  refine ⟨_, exec_status hdue, ?_⟩
  rw [hdelivered]
  obtain ⟨-, -, hstations⟩ := closeDelivery_pilot (changeStation st (afterStatus c st) (statusQuery st) s)
  refine ⟨?_, fun n hn => ?_, closeDelivery_up (changeStation_stations _ _ _ s).2 (by simp), ?_, by simp [SameClock],
    by simp [SameSettings], by simp, by simp, by simp [SameLine]⟩
  · rw [findStation_congr hstations, hown]
    exact congrArg some (afterStatus_eq c st)
  · rw [findStation_congr hstations, hothers n hn]
  · rw [hstations]
    exact (congrArg (fun m : Monitor => m.recs.stationSilent.active) (by simp)).trans (changeStation_active _ _ _ s)

theorem switchResultOf_doneOpen {c : Word16} (h : c.extractLsb' 0 2 = 0) : switchResultOf c = .doneOpen := by
  simp [switchResultOf, h]

/-- DONE_OPEN from the station that the step waits for, in ANSWER_WAIT (R145). -/
theorem huntSwitchDone_opened {s : State} {a : Nat} (hs : s.hunt.state = .opening)
    (hp : s.hunt.phase = some .answerWait) (ha : (currentStep s).station = a) :
    (huntSwitchDone a .doneOpen s).hunt =
      { s.hunt with
        state := .dwell
        phase := none
        switchTimer := none
        openStation := some a
        dwellTimer := some { loaded := (currentStep s).dwell, remaining := (currentStep s).dwell } } ∧
    (huntSwitchDone a .doneOpen s).pilot = (updateStation a (fun st => { st with openedByHunt := true }) s).pilot ∧
    (huntSwitchDone a .doneOpen s).mon = s.mon ∧ (huntSwitchDone a .doneOpen s).brk = s.brk ∧
    (huntSwitchDone a .doneOpen s).seq = s.seq := by
  unfold huntSwitchDone
  rw [if_pos ⟨hp, ha.symm⟩, hs]
  exact ⟨rfl, rfl, rfl, rfl, rfl⟩

theorem currentStep_congr {s t : State} (h : t.hunt = s.hunt) : currentStep t = currentStep s := by
  unfold currentStep
  rw [h]

theorem deliveredSwitchDone_frame (a : Nat) (r : SwitchResult) (old new : Station) (q : Option QueryResult) (s : State) :
    SameClock s (closeDelivery (huntSwitchDone a r (changeStation old new q s))) ∧
    SameSettings s (closeDelivery (huntSwitchDone a r (changeStation old new q s))) ∧
    (closeDelivery (huntSwitchDone a r (changeStation old new q s))).prot = s.prot ∧
    (closeDelivery (huntSwitchDone a r (changeStation old new q s))).adm = s.adm ∧
    SameLine s (closeDelivery (huntSwitchDone a r (changeStation old new q s))) := by
  simp [SameClock, SameSettings, SameLine]

/-- Settles O30: the delivery reaches the hunt controller alone while no station is SILENT. -/
theorem switchDoneEntersDwell : Obligations.SwitchDoneEntersDwell := by
  intro s a c st hdue hst hc hstate hphase hstep hall hactive
  have ha : (afterSwitchDone .doneOpen st).address = a := findStation_address (st := st) hst
  obtain ⟨hown, hothers⟩ := findStation_changeStation hst ha (noQuery st)
  obtain ⟨hhunt, hmon, hbrk, hseq⟩ :=
    changeStation_quiet (old := st) (new := afterSwitchDone .doneOpen st) hall hactive nofun (noQuery st)
  refine ⟨_, exec_switchDone hdue, ?_⟩
  rw [switchResultOf_doneOpen hc, deliverTo_listed hst]
  obtain ⟨-, hup⟩ := changeStation_stations st (afterSwitchDone .doneOpen st) (noQuery st) s
  have hstore : (huntSwitchDone a .doneOpen
      (changeStation st (afterSwitchDone .doneOpen st) (noQuery st) s)).store = s.store := by simp
  obtain ⟨hclock, hsettings, hprot, hadm, hline⟩ :=
    deliveredSwitchDone_frame a .doneOpen st (afterSwitchDone .doneOpen st) (noQuery st) s
  generalize changeStation st (afterSwitchDone .doneOpen st) (noQuery st) s = u at *
  obtain ⟨hhunt', hpilot', hmon', hbrk', hseq'⟩ := huntSwitchDone_opened (s := u) (a := a) (by rwa [hhunt])
    (by rwa [hhunt]) (by rwa [currentStep_congr hhunt])
  rw [currentStep_congr hhunt, hhunt] at hhunt'
  obtain ⟨-, -, hstations⟩ := closeDelivery_pilot (huntSwitchDone a .doneOpen u)
  have hfound (n : Nat) := (findStation_congr (hstations.trans (congrArg Pilot.stations hpilot')) n).trans
    (findStation_updateStation (f := fun st => { st with openedByHunt := true }) (fun _ h => h) u n)
  refine ⟨by simpa using hhunt', ?_, fun n hn => ?_,
    closeDelivery_up (by rw [hpilot']; exact hup) hstore, hclock, hsettings, hprot,
    by simp [hbrk', hbrk], by simp [hseq', hseq], by simp [hmon', hmon], hadm, hline⟩
  · rw [hfound, if_pos rfl, hown]
    rfl
  · rw [hfound, if_neg hn, hothers n hn]

/-! ## A missed answer -/

theorem exec_replyWaitExpiry {s : State} {a : Nat} {st : Station} {deadline : Time} (hst : findStation s a = some st)
    (hw : st.answer = .waiting deadline) (ht : elapsed s.time deadline < 2 ^ 31) :
    exec (.replyWaitExpiry a) s = .next (missedAnswer st s) := by
  change Host.Outcome.next _ = _
  rw [hst]
  exact congrArg Host.Outcome.next (if_pos (by simpa [replyWaitDue, hw] using ht))

/-- Settles O32: the missed answer is the record's new value. -/
theorem missedAnswerIsCounted : Obligations.MissedAnswerIsCounted := by
  intro s a st deadline hst hw ht
  have ha : (missedOnce s.plant.silentCount st).address = a := findStation_address (st := st) hst
  obtain ⟨hown, hothers⟩ := findStation_changeStation hst ha (queryResult st .unanswered)
  refine ⟨_, exec_replyWaitExpiry hst hw ht, hown, hothers, fun hsilent => ?_, by simp [SameClock],
    by simp [SameSettings], by simp, by simp, by simp [SameLine]⟩
  refine (changeStation_active _ _ _ s).trans (List.any_eq_true.mpr ⟨_, List.mem_of_find?_eq_some hown, ?_⟩)
  simp [missedOnce, hsilent]

end Sys2Proof.Machine

/-! PROOFS. The start admission unit and its stations: START_REQUEST (R157), START_DONE and START_ABANDON (R159, R165),
and the ends of a window and of a request in time (R159, R164, R165). -/

namespace Sys2Proof.Machine

/-! ## A request -/

/-- A request in its PENDING state (R157). -/
def pendingFrom (time : Time) (x : Drive) : Drive :=
  { x with request := .pending time (time + BitVec.ofNat 32 (x.lifetime * 1000)) }

section
variable {s : State} {a n : Nat} {d : Drive}

/-- A START_REQUEST of a drive's own station that finds no request becomes PENDING, and any other request stands
(R157). -/
theorem admStartRequest_own (husable : usable s.store.images.drives = true) (hd : findDrive s n = some d)
    (hst : d.station = a) (h0 : d.station ≠ 0) :
    admStartRequest a n s = if d.request ≠ .none then s else makePending d a s := by
  simp [admStartRequest, drivesUsable, husable, hd, hst, hst ▸ h0]

end

/-- A request becomes PENDING at its drive, at the end of the start queue (R157). -/
theorem makePending_adm (d : Drive) (a : Nat) (s : State) :
    (makePending d a s).adm =
      { (updateDrive d.drive (pendingFrom s.time) s).adm with queue := s.adm.queue ++ [d.drive] } := by
  simp [makePending, updateDrive, pendingFrom]

theorem updateDrive_adm_congr {s t : State} (h : t.adm = s.adm) (n : Nat) (f : Drive → Drive) :
    (updateDrive n f t).adm = (updateDrive n f s).adm := by
  simp [updateDrive, h]

theorem exec_startRequest {s : State} {a : Nat} {c : Word16} (h : dueMessage s = some (.startRequest, a, c)) :
    exec .startRequest s =
      .next (closeDelivery (admStartRequest a (driveOfCell c) (deliverTo a heard noQuery s))) := by
  change Host.Outcome.next _ = _
  rw [h]

/-- What a delivered START_REQUEST of a drive's own station makes of the admission unit (R157). -/
theorem deliveredRequest_adm {s : State} {a n : Nat} {d : Drive} (husable : usable s.store.images.drives = true)
    (hd : findDrive s n = some d) (hst : d.station = a) (h0 : d.station ≠ 0) :
    (closeDelivery (admStartRequest a n (deliverTo a heard noQuery s))).adm =
      if d.request ≠ .none then s.adm
      else { (updateDrive n (pendingFrom s.time) s).adm with queue := s.adm.queue ++ [n] } := by
  have hadm : (deliverTo a heard noQuery s).adm = s.adm := by simp
  have hd' : findDrive (deliverTo a heard noQuery s) n = some d := (findDrive_congr (congrArg _ hadm) n).trans hd
  obtain rfl := findDrive_drive hd
  obtain ⟨-, -, -, -, -, -, -, -, -, -, -, hclosed, -⟩ :=
    closeDelivery_frame (admStartRequest a d.drive (deliverTo a heard noQuery s))
  rw [hclosed, admStartRequest_own (by simpa using husable) hd' hst h0]
  split
  · exact hadm
  · rw [makePending_adm, updateDrive_adm_congr hadm, hadm]
    simp

/-- Settles O38: the station's record aside, the delivery makes the request PENDING or changes nothing. -/
theorem startRequestBecomesPending : Obligations.StartRequestBecomesPending := by
  intro s a c d hdue husable hd hst h0
  refine ⟨_, exec_startRequest hdue, fun h => ?_, fun h => ?_, fun n hn => ?_, ?_, ?_, ?_,
    closeDelivery_up (by simp [deliverTo_up]) (by simp), by simp [SameClock], by simp [SameSettings], by simp,
    by simp [SameLine]⟩
  all_goals have hadm := deliveredRequest_adm husable hd hst h0
  · rw [if_neg (by simp [h])] at hadm
    refine ⟨by rw [hadm], ?_⟩
    refine (findDrive_congr (s := updateDrive (driveOfCell c) (pendingFrom s.time) s) (by rw [hadm]) _).trans ?_
    rw [findDrive_updateDrive (f := pendingFrom s.time) (fun _ h => h), if_pos rfl, hd]
    rfl
  · rw [hadm, if_pos h]
  · split at hadm
    · exact findDrive_congr (by rw [hadm]) n
    · refine (findDrive_congr (s := updateDrive (driveOfCell c) (pendingFrom s.time) s) (by rw [hadm]) n).trans ?_
      rw [findDrive_updateDrive (f := pendingFrom s.time) (fun _ h => h), if_neg hn]
  all_goals
    rw [hadm]
    split <;> rfl

/-! ## The end of a window -/

section
variable (w : StartWindow) (b : Bool) (s : State)

theorem queueRelease_records (n a : Nat) :
    (queueRelease n a s).adm.drives = s.adm.drives ∧ (queueRelease n a s).adm.queue = s.adm.queue := by
  unfold queueRelease
  split
  · exact ⟨rfl, rfl⟩
  · split
    · next hj =>
      have hf := joinQueue_frame hj
      simp [hf]
    · simp

theorem settleGrant_records :
    (settleGrant w b s).adm.drives = s.adm.drives ∧ (settleGrant w b s).adm.queue = s.adm.queue := by
  unfold settleGrant
  split
  · exact ⟨rfl, rfl⟩
  · exact ⟨rfl, rfl⟩
  · exact ⟨rfl, rfl⟩
  · exact ⟨rfl, rfl⟩
  · split
    · exact queueRelease_records s _ _
    · exact ⟨rfl, rfl⟩

end

/-- The drive of a window that ends: its request NONE, and its level as the cause has it (R165). -/
def windowEnded (k : StartCause) (d : Drive) : Drive :=
  { d with request := .none, level := if lowersLevel k then .lowered else d.level }

section
variable {s : State} {w : StartWindow} (hw : s.adm.window = some w) (k : StartCause)
include hw

/-- The admission unit at a window's end: the hunt that waited for it and the report leave it alone (R143, R165). -/
theorem endWindow_adm :
    (endWindow k s).adm =
      { (settleGrant w (callsForRelease k) (updateDrive w.drive (windowEnded k) s)).adm with window := none } := by
  simp [endWindow, hw, windowEnded, updateDrive]

theorem endWindow_records :
    (endWindow k s).adm.drives = (updateDrive w.drive (windowEnded k) s).adm.drives ∧
    (endWindow k s).adm.queue = s.adm.queue := by
  obtain ⟨hdrives, hqueue⟩ := settleGrant_records w (callsForRelease k) (updateDrive w.drive (windowEnded k) s)
  rw [endWindow_adm hw]
  exact ⟨hdrives, hqueue⟩

theorem findDrive_endWindow (n : Nat) :
    findDrive (endWindow k s) n =
      if n = w.drive then (findDrive s n).map (windowEnded k) else findDrive s n :=
  (findDrive_congr (endWindow_records hw k).1 n).trans
    (findDrive_updateDrive (f := windowEnded k) (fun _ h => h) s n)

/-- Outside DEFERRED a window's end is its GRANT's settlement in the down queue too (R143, R164). -/
theorem endWindow_pilot_of_not_deferred (hd : s.hunt.state ≠ .deferred) :
    (endWindow k s).pilot = (settleGrant w (callsForRelease k) (updateDrive w.drive (windowEnded k) s)).pilot := by
  unfold endWindow
  rw [hw]
  dsimp only
  rw [huntWindowClosed_of_not_deferred (by simpa using hd)]
  simp [windowEnded, updateDrive]

end

theorem startHuntNow_up (o : Option HuntOrigin) (s : State) : (startHuntNow o s).pilot.up = s.pilot.up := by
  simp [startHuntNow, updateStations]

theorem huntWindowClosed_up (s : State) : (huntWindowClosed s).pilot.up = s.pilot.up := by
  unfold huntWindowClosed
  split
  · split
    · exact startHuntNow_up _ s
    · simp [huntNotStarted]
  · rfl

/-- A window's end reaches the down queue and the station records, not the up channel (R143, R165). -/
theorem endWindow_up (k : StartCause) (s : State) : (endWindow k s).pilot.up = s.pilot.up := by
  unfold endWindow
  split
  · rfl
  · simp [huntWindowClosed_up]

/-! ## START_DONE and START_ABANDON -/

theorem exec_startDone {s : State} {a : Nat} {c : Word16} (h : dueMessage s = some (.startDone, a, c)) :
    exec .startDone s = .next (closeDelivery (admStartDone a (driveOfCell c) (deliverTo a heard noQuery s))) := by
  change Host.Outcome.next _ = _
  rw [h]

theorem exec_startAbandon {s : State} {a : Nat} {c : Word16} (h : dueMessage s = some (.startAbandon, a, c)) :
    exec .startAbandon s =
      .next (closeDelivery (admStartAbandon a (driveOfCell c) (deliverTo a heard noQuery s))) := by
  change Host.Outcome.next _ = _
  rw [h]

theorem windowMatches_iff {s : State} {w : StartWindow} (hw : s.adm.window = some w) (a n : Nat) :
    windowMatches a n s = true ↔ w.station = a ∧ w.drive = n := by
  simp [windowMatches, hw]

/-- A delivery by which the window's station ends the window (R165). -/
theorem deliveredEnd_adm {s : State} {w : StartWindow} (hw : s.adm.window = some w) (k : StartCause) (a : Nat) :
    (closeDelivery (endWindow k (deliverTo a heard noQuery s))).adm.window = none ∧
    ∀ n, findDrive (closeDelivery (endWindow k (deliverTo a heard noQuery s))) n =
      if n = w.drive then (findDrive s n).map (windowEnded k) else findDrive s n := by
  have hadm : (deliverTo a heard noQuery s).adm = s.adm := by simp
  refine ⟨by simp, fun n => ?_⟩
  rw [findDrive_congr (s := endWindow k (deliverTo a heard noQuery s)) (by simp),
    findDrive_endWindow (by rwa [hadm]), findDrive_congr (congrArg Admission.drives hadm)]

/-- Settles O39: either message of the window's station ends the window, which lowers its drive. -/
theorem stationEndsTheWindow : Obligations.StationEndsTheWindow := by
  intro s a c w hw
  have hw' : (deliverTo a heard noQuery s).adm.window = some w := by simpa using hw
  have hends (h : w.station = a ∧ w.drive = driveOfCell c) :
      windowMatches a (driveOfCell c) (deliverTo a heard noQuery s) = true := (windowMatches_iff hw' _ _).mpr h
  constructor
  · intro hdue
    have hdone : w.station = a ∧ w.drive = driveOfCell c →
        admStartDone a (driveOfCell c) (deliverTo a heard noQuery s) =
          endWindow .done (deliverTo a heard noQuery s) := fun h => if_pos (hends h)
    have hforeign (h : ¬ (w.station = a ∧ w.drive = driveOfCell c)) :
        admStartDone a (driveOfCell c) (deliverTo a heard noQuery s) = deliverTo a heard noQuery s :=
      if_neg fun hm => h ((windowMatches_iff hw' _ _).mp hm)
    have hup : (admStartDone a (driveOfCell c) (deliverTo a heard noQuery s)).pilot.up = s.pilot.up := by
      by_cases h : w.station = a ∧ w.drive = driveOfCell c
      · rw [hdone h, endWindow_up, deliverTo_up]
      · rw [hforeign h, deliverTo_up]
    obtain ⟨hwindow, hfound⟩ := deliveredEnd_adm hw .done a
    refine ⟨_, exec_startDone hdue, fun hst hdr => ?_, fun h => ?_, fun n hn => ?_, closeDelivery_up hup (by simp),
      by simp [SameClock], by simp [SameSettings], by simp, by simp [SameLine]⟩
    · rw [hdone ⟨hst, hdr⟩]
      refine ⟨hwindow, fun d hd => ?_⟩
      rw [hfound, if_pos rfl, hd]
      rfl
    · rw [hforeign (not_and_or.mpr h)]
      simp
    · by_cases h : w.station = a ∧ w.drive = driveOfCell c
      · rw [hdone h, hfound, if_neg hn]
      · rw [hforeign h]
        exact findDrive_congr (by simp) n
  · intro hdue hst hdr
    have habandoned : admStartAbandon a (driveOfCell c) (deliverTo a heard noQuery s) =
        endWindow .abandoned (deliverTo a heard noQuery s) := if_pos (hends ⟨hst, hdr⟩)
    obtain ⟨hwindow, hfound⟩ := deliveredEnd_adm hw .abandoned a
    refine ⟨_, exec_startAbandon hdue, ?_, fun d hd => ?_, fun n hn => ?_,
      closeDelivery_up (by rw [habandoned, endWindow_up, deliverTo_up]) (by simp), by simp [SameClock],
      by simp [SameSettings], by simp, by simp [SameLine]⟩
    · rwa [habandoned]
    · rw [habandoned, hfound, if_pos rfl, hd]
      rfl
    · rw [habandoned, hfound, if_neg hn]

/-! ## The end of a window and of a request in time -/

theorem placeFor_kept {q : List QueueEntry} {c : DownClass} (hc : c = .hunt ∨ c = .admission)
    (h : keptFree q c = true) : placeFor q c = some true := by
  rcases hc with rfl | rfl <;> simp [placeFor, h]

/-- A message of a class with its kept place free takes that place (R122). -/
theorem joinQueue_kept {m : DownMessage} {s : State} (hc : m.cls = .hunt ∨ m.cls = .admission)
    (h : keptFree s.pilot.queue m.cls = true) :
    joinQueue m s =
      some (s.setPilot { s.pilot with queue := s.pilot.queue ++ [{ msg := m, kept := true }] }) := by
  rw [joinQueue, placeFor_kept hc h]
  rfl

/-- With nothing outstanding a RELEASE goes to the down queue at once (R164). -/
theorem queueRelease_sent {s : State} {n a : Nat} (hout : s.adm.outstanding = none)
    (hfree : keptFree s.pilot.queue .admission = true) :
    (queueRelease n a s).adm.outstanding =
      some { kind := .release, drive := n, station := a, inFlight := false, stale := false } ∧
    (queueRelease n a s).pilot =
      { s.pilot with queue := s.pilot.queue ++ [{ msg := releaseMessage a n, kept := true }] } := by
  have hjoined := joinQueue_kept (m := releaseMessage a n) (s := s) (.inr rfl) hfree
  simp [queueRelease, hout, hjoined]

theorem exec_startWindowExpiry {s : State} {w : StartWindow} (hw : s.adm.window = some w) (h0 : w.remaining = 0) :
    exec .startWindowExpiry s = .next (endWindow .expired s) :=
  congrArg Host.Outcome.next (if_pos (by simp [windowDue, hw, h0]))

theorem exec_requestLifetimeExpiry {s : State} {d : Drive} (hd : findDrive s d.drive = some d) :
    exec (.requestLifetimeExpiry d.drive) s =
      .next (if lifetimeDue s d then startReport d.drive .expired none none none (dropPending d.drive s) else s) := by
  change Host.Outcome.next _ = _
  rw [hd]

theorem lifetimeDue_pending {s : State} {d : Drive} {arrival deadline : Time} (h : d.request = .pending arrival deadline) :
    lifetimeDue s d = true ↔ elapsed deadline arrival ≤ elapsed s.time arrival := by
  simp [lifetimeDue, h]

theorem findDrive_dropPending {s : State} {d : Drive} (hd : findDrive s d.drive = some d) :
    findDrive (dropPending d.drive s) d.drive = some { d with request := .none } :=
  (findDrive_updateDrive (f := fun x => { x with request := .none }) (fun _ h => h) s d.drive).trans
    (by rw [if_pos rfl, hd]; rfl)

/-- A START report reads its drive after the event, and joins the report queue alone (R166). -/
theorem startReport_eq {s u : State} (hhost : u.host = s.host) (htime : u.time = s.time) (n : Nat) (e : StartEvent)
    (c : Option StartCause) (so : Option Nat) (w : Option (Nat × Nat)) :
    ∃ r, startReport n e c so w u = u.setHost (addReport (.start r) s).host ∧ r.time = s.time ∧ r.drive = n ∧
      r.event = e ∧ r.request = (findDrive u n).map fun d => d.request :=
  ⟨_, addReport_eq hhost htime _, htime, rfl, rfl, rfl⟩

/-- Settles O40: a window's end settles its GRANT, and a request's end reports it. -/
theorem windowAndLifetimeExpire : Obligations.WindowAndLifetimeExpire := by
  refine ⟨fun s w hw h0 => ?_, fun s d arrival deadline hd hpending => ⟨fun hle => ?_, fun hlt => ?_⟩⟩
  · obtain ⟨hquiet, -⟩ := endWindow_quiet .expired s
    obtain ⟨hdrives, hqueue⟩ := endWindow_records hw .expired
    refine ⟨_, exec_startWindowExpiry hw h0, endWindow_window _ s, hquiet, hqueue, hdrives, fun hhost => ?_,
      fun hgrant hout hfree hwait => ?_, by simp [SameClock], by simp [SameSettings], by simp, by simp [SameLine]⟩
    · rw [endWindow_adm hw]
      simp [settleGrant, hhost, updateDrive]
    · have hsettled : settleGrant w (callsForRelease .expired) (updateDrive w.drive (windowEnded .expired) s) =
          queueRelease w.drive w.station (updateDrive w.drive (windowEnded .expired) s) := by
        rw [settleGrant, hgrant]
        rfl
      obtain ⟨hsent, hpilot⟩ := queueRelease_sent (s := updateDrive w.drive (windowEnded .expired) s) (n := w.drive)
        (a := w.station) hout hfree
      rw [endWindow_adm hw, endWindow_pilot_of_not_deferred hw _ hwait, hsettled]
      exact ⟨hsent, hpilot⟩
  · obtain ⟨r, hreport, htime, hdrive, hevent, hrequest⟩ :=
      startReport_eq (s := s) (u := dropPending d.drive s) rfl rfl d.drive .expired none none none
    refine ⟨_, ?_, r, hdrive, hevent, htime, ?_, rfl⟩
    · rw [exec_requestLifetimeExpiry hd, if_pos ((lifetimeDue_pending hpending).mpr hle), hreport]
      rfl
    · rw [hrequest, findDrive_dropPending hd]
      rfl
  · rw [exec_requestLifetimeExpiry hd, if_neg]
    rw [lifetimeDue_pending hpending]
    exact Nat.not_le.mpr hlt

end Sys2Proof.Machine

/-! PROOFS. QUERYs join the down queue: the poll timer (R122, R132), and PILOT_QUERY (R122, R135). -/

namespace Sys2Proof.Machine

/-! ## The open places -/

theorem stationsFit_iff {s : State} :
    stationsFit s = true ↔ s.pilot.up.stage ≠ .closed ∧ usable s.store.images.stations = true := by
  simp [stationsFit, stationsUsable]

theorem stationsFit_of_unfit {s : State} (h : s.pilot.up.stage = .closed ∨ usable s.store.images.stations = false) :
    stationsFit s = false := by
  rcases h with h | h <;> simp [stationsFit, stationsUsable, h]

/-- A QUERY of class HOST or POLL waits in an open place. -/
def queryEntry (c : DownClass) (a : Nat) : QueueEntry := { msg := queryMessage c a, kept := false }

/-- A QUERY takes an open place, and finds none when six wait (R122). -/
theorem joinQueue_query {c : DownClass} (hc : c = .host ∨ c = .poll) (a : Nat) (s : State) :
    joinQueue (queryMessage c a) s =
      if (s.pilot.queue.filter fun e => !e.kept).length < 6 then
        some (s.setPilot { s.pilot with queue := s.pilot.queue ++ [queryEntry c a] })
      else none := by
  have hplace : placeFor s.pilot.queue c = if openFree s.pilot.queue then some false else none := by
    rcases hc with rfl | rfl <;> rfl
  have hcls : (queryMessage c a).cls = c := rfl
  rw [joinQueue, hcls, hplace, openFree]
  simp only [decide_eq_true_eq]
  split <;> rfl

/-! ## Polls -/

/-- The queue that a poll leaves (R122, R132). -/
def polledQueue (a : Nat) (s : State) : List QueueEntry :=
  if queryWaiting s a = true ∨ queryInFlight s a = true ∨ 6 ≤ (s.pilot.queue.filter fun e => !e.kept).length then
    s.pilot.queue
  else s.pilot.queue ++ [queryEntry .poll a]

/-- A poll reaches the down queue alone. -/
theorem pollStation_eq (a : Nat) (s : State) :
    pollStation a s = s.setPilot { s.pilot with queue := polledQueue a s } := by
  unfold pollStation polledQueue
  rw [joinQueue_query (.inr rfl)]
  by_cases hq : (queryWaiting s a || queryInFlight s a) = true
  · have hq' : queryWaiting s a = true ∨ queryInFlight s a = true := by simpa using hq
    rw [if_pos hq, if_pos (hq'.elim .inl fun h => .inr (.inl h))]
    rfl
  · rw [if_neg hq]
    simp only [Bool.or_eq_true, not_or] at hq
    by_cases hn : (s.pilot.queue.filter fun e => !e.kept).length < 6
    · rw [if_pos hn, if_neg (by simp [hq, hn])]
      rfl
    · rw [if_neg hn, if_pos (.inr (.inr (Nat.not_lt.mp hn)))]
      rfl

/-- The poll timer loaded again (R132). -/
def pollReloaded (s : State) : State := s.setPilot { s.pilot with pollRemaining := s.plant.pollInterval * 1000 }

theorem exec_pollTimerExpiry_unfit {s : State} (h0 : s.pilot.pollRemaining = 0) (hunfit : stationsFit s = false) :
    exec .pollTimerExpiry s = .next (pollReloaded s) := by
  change Host.Outcome.next _ = _
  rw [if_pos h0]
  exact congrArg Host.Outcome.next (if_neg (by simp [hunfit]))

theorem exec_pollTimerExpiry_fit {s : State} {a : Nat} (h0 : s.pilot.pollRemaining = 0) (hfit : stationsFit s = true)
    (ha : nextPolled s.pilot.stations s.pilot.cursor = some a) :
    exec .pollTimerExpiry s =
      .next
        { s with
          pilot :=
            { s.pilot with
              pollRemaining := s.plant.pollInterval * 1000, cursor := some a, queue := polledQueue a s } } := by
  change Host.Outcome.next _ = _
  rw [if_pos h0]
  refine congrArg Host.Outcome.next ?_
  dsimp only
  rw [if_pos hfit, ha]
  exact pollStation_eq a _

/-! ## PILOT_QUERY -/

section
variable {c : Command} {rest : List Command} {a : Byte} {s : State} (hhead : HeadIs .pilotQuery c rest s)
  (hpayload : c.payload = [a])
include hhead hpayload

theorem exec_pilotQuery :
    exec .pilotQuery s =
      .next (fillReply (ownPilotQuery [a] (withCommands rest s)).1 none (ownPilotQuery [a] (withCommands rest s)).2) := by
  rw [← hpayload]
  exact congrArg Host.Outcome.next (runCommand_head ownPilotQuery hhead (by rw [hpayload]; rfl))

end

theorem ownPilotQuery_unfit {s : State} (h : stationsFit s = false) (a : Byte) :
    ownPilotQuery [a] s = (refusedFor .stationsUnfit (.address a.toNat), s) := by
  simp [ownPilotQuery, h, u8]

/-- To a listed station without a QUERY, one of class HOST joins, or finds no place (R122, R135). -/
theorem ownPilotQuery_joins {s : State} {a : Byte} (hfit : stationsFit s = true)
    (hlisted : listedIn s.pilot.stations a.toNat = true) (hw : queryWaiting s a.toNat = false)
    (hf : queryInFlight s a.toNat = false) :
    ownPilotQuery [a] s =
      if (s.pilot.queue.filter fun e => !e.kept).length < 6 then
        (queryAccepted a.toNat,
          markStation a.toNat (s.setPilot { s.pilot with queue := s.pilot.queue ++ [queryEntry .host a.toNat] }))
      else (⟨some .busy, .address a.toNat⟩, s) := by
  have ha : u8 [a] 0 = a.toNat := rfl
  unfold ownPilotQuery
  dsimp only
  rw [ha, joinQueue_query (.inl rfl)]
  simp only [hfit, hlisted, hw, hf, Bool.not_true, Bool.false_eq_true, if_false, Bool.or_self]
  by_cases hn : (s.pilot.queue.filter fun e => !e.kept).length < 6
  · rw [if_pos hn, if_pos hn]
  · rw [if_neg hn, if_neg hn]

/-- Settles O31: polls and PILOT_QUERY join a QUERY in an open place, and change the pilot bus controller alone. -/
theorem queriesJoinTheQueue : Obligations.QueriesJoinTheQueue := by
  refine ⟨fun s h0 hunfit => exec_pollTimerExpiry_unfit h0 (stationsFit_of_unfit hunfit),
    fun s a h0 hopen husable ha => ⟨polledQueue a s, ?_, fun h => if_pos h, fun hw hf hn => ?_⟩,
    fun c rest a s hhead hpayload => ⟨fun hunfit => ?_, fun hopen husable hlisted hw hf => ⟨fun hn => ?_, fun hn => ?_⟩⟩⟩
  · exact exec_pollTimerExpiry_fit h0 (stationsFit_iff.mpr ⟨hopen, husable⟩) ha
  · exact if_neg (by simp [hw, hf, hn])
  · rw [exec_pilotQuery hhead hpayload, ownPilotQuery_unfit (s := withCommands rest s) (stationsFit_of_unfit hunfit)]
    rfl
  · rw [exec_pilotQuery hhead hpayload,
      ownPilotQuery_joins (s := withCommands rest s) (stationsFit_iff.mpr ⟨hopen, husable⟩)
        (listedIn_iff.mpr hlisted) hw hf, if_pos (by exact hn)]
    rfl
  · rw [exec_pilotQuery hhead hpayload,
      ownPilotQuery_joins (s := withCommands rest s) (stationsFit_iff.mpr ⟨hopen, husable⟩)
        (listedIn_iff.mpr hlisted) hw hf, if_neg (by exact Nat.not_lt.mpr hn)]
    rfl

end Sys2Proof.Machine

/-! PROOFS. START_HUNT (R140 to R144): the tests of Table 8.5, the wait in DEFERRED, and the start with its first
OPEN. -/

namespace Sys2Proof.Machine

/-! ## The hunt bar at a report of a condition that does not carry it -/

/-- A report of a condition without BAR_HUNT leaves the set of hunt bars (R108). -/
theorem huntBarsOf_setActive {c : Cond} {t : CondTable CondRec} (h : (t.get c).actions.barHunt = false) (a : Bool) :
    huntBarsOf (t.set c ((t.get c).setActive a)) = huntBarsOf t := by
  refine List.filter_congr fun d _ => ?_
  by_cases hd : d = c
  · simp [hd, h]
  · simp [hd]

theorem ownerReport_huntBar {c : Cond} {s : State} (hm : MonitorConsistent s)
    (h : (s.mon.recs.get c).actions.barHunt = false) (a : Bool) :
    (ownerReport c a s).mon.huntBar = s.mon.huntBar := by
  rw [ownerReport_mon]
  split
  · rfl
  · have hs : s.mon.huntBar = huntBarOf s.mon.recs := congrArg Monitor.huntBar hm
    rw [hs]
    simp [monitorOf, huntBarOf, huntBarsOf_setActive h]

/-- A hunt bar that does not stand after an event is not handed on (R108). -/
theorem huntBarArrival_of_no_bar {b s : State} (h : s.mon.huntBar = false) : huntBarArrival b s = s :=
  if_neg (by simp [h])

/-! ## The tests of Table 8.5 -/

section
variable {s : State}

theorem requestTests_passed (hidle : s.hunt.state = .idle) (henabled : s.settings.huntEnabled = true)
    (hplan : usable s.store.images.hunt = true) (hfit : stationsFit s = true) (hbar : s.mon.huntBar = false)
    (hready : s.seq.state = .ready) (hclosed : s.brk.accepted = .closed) : requestTests s = none := by
  simp [requestTests, huntTests, hidle, henabled, hplan, hfit, hbar, hready, hclosed]

/-- The reason of a refusal is that of the first test that fails (R141). -/
theorem requestTests_failed {r : Reason}
    (h : (s.hunt.state ≠ .idle ∧ r = Reason.notIdle) ∨
      (s.hunt.state = .idle ∧ s.settings.huntEnabled = false ∧ r = .huntDisabled) ∨
      (s.hunt.state = .idle ∧ s.settings.huntEnabled = true ∧ usable s.store.images.hunt = false ∧ r = .planUnfit) ∨
      (s.hunt.state = .idle ∧ s.settings.huntEnabled = true ∧ usable s.store.images.hunt = true ∧
        (s.pilot.up.stage = .closed ∨ usable s.store.images.stations = false) ∧ r = .stationsUnfit) ∨
      (s.hunt.state = .idle ∧ s.settings.huntEnabled = true ∧ usable s.store.images.hunt = true ∧
        s.pilot.up.stage ≠ .closed ∧ usable s.store.images.stations = true ∧ s.mon.huntBar = true ∧ r = .huntBar) ∨
      (s.hunt.state = .idle ∧ s.settings.huntEnabled = true ∧ usable s.store.images.hunt = true ∧
        s.pilot.up.stage ≠ .closed ∧ usable s.store.images.stations = true ∧ s.mon.huntBar = false ∧
        s.seq.state ≠ .ready ∧ r = .sequencerNotReady) ∨
      (s.hunt.state = .idle ∧ s.settings.huntEnabled = true ∧ usable s.store.images.hunt = true ∧
        s.pilot.up.stage ≠ .closed ∧ usable s.store.images.stations = true ∧ s.mon.huntBar = false ∧
        s.seq.state = .ready ∧ s.brk.accepted ≠ .closed ∧ r = .breakerNotClosed)) :
    ∃ n, requestTests s = some n ∧ notStartedReason n = r := by
  rcases h with ⟨hidle, rfl⟩ | ⟨hidle, henabled, rfl⟩ | ⟨hidle, henabled, hplan, rfl⟩ |
    ⟨hidle, henabled, hplan, hunfit, rfl⟩ | ⟨hidle, henabled, hplan, hopen, husable, hbar, rfl⟩ |
    ⟨hidle, henabled, hplan, hopen, husable, hbar, hready, rfl⟩ |
    ⟨hidle, henabled, hplan, hopen, husable, hbar, hready, hclosed, rfl⟩
  · exact ⟨.notIdle, by simp [requestTests, hidle], rfl⟩
  · exact ⟨.huntDisabled, by simp [requestTests, huntTests, hidle, henabled], rfl⟩
  · exact ⟨.planUnfit, by simp [requestTests, huntTests, hidle, henabled, hplan], rfl⟩
  · exact ⟨.stationsUnfit, by simp [requestTests, huntTests, hidle, henabled, hplan, stationsFit_of_unfit hunfit], rfl⟩
  all_goals have hfit : stationsFit s = true := stationsFit_iff.mpr ⟨hopen, husable⟩
  · exact ⟨.huntBar, by simp [requestTests, huntTests, hidle, henabled, hplan, hfit, hbar], rfl⟩
  · exact ⟨.sequencerNotReady, by simp [requestTests, huntTests, hidle, henabled, hplan, hfit, hbar, hready], rfl⟩
  · exact ⟨.breakerNotClosed, by simp [requestTests, huntTests, hidle, henabled, hplan, hfit, hbar, hready, hclosed],
      rfl⟩

end

/-! ## The command -/

section
variable {c : Command} {rest : List Command} {s : State} (hhead : HeadIs .startHunt c rest s) (hpayload : c.payload = [])
include hhead hpayload

theorem exec_startHunt :
    exec .startHunt s =
      .next (fillReply (ownStartHunt [] (withCommands rest s)).1 none (ownStartHunt [] (withCommands rest s)).2) := by
  rw [← hpayload]
  exact congrArg Host.Outcome.next (runCommand_head ownStartHunt hhead (by rw [hpayload]; rfl))

theorem exec_startHunt_refused {r : NotStarted} (h : requestTests s = some r) :
    exec .startHunt s =
      .next { s with host := s.host.afterReply (refusedFor (notStartedReason r) (.huntState s.hunt.state)) none rest } := by
  have hown : ownStartHunt [] (withCommands rest s) =
      (refusedFor (notStartedReason r) (.huntState s.hunt.state), withCommands rest s) := by
    rw [ownStartHunt, show requestTests (withCommands rest s) = some r from h]
    rfl
  rw [exec_startHunt hhead hpayload, hown]
  rfl

theorem exec_startHunt_admitted (h : requestTests s = none) :
    exec .startHunt s =
      .next (fillReply (okReply (.huntState (admitHunt .host (withCommands rest s)).hunt.state)) none
        (admitHunt .host (withCommands rest s))) := by
  have hown : ownStartHunt [] (withCommands rest s) =
      (okReply (.huntState (admitHunt .host (withCommands rest s)).hunt.state), admitHunt .host (withCommands rest s)) := by
    rw [ownStartHunt, show requestTests (withCommands rest s) = none from h]
  rw [exec_startHunt hhead hpayload, hown]

end

/-! ## The wait in DEFERRED -/

section
variable {s : State} (hm : MonitorConsistent s) (hbars : (s.mon.recs.get .huntActive).actions.barHunt = false)
  (hbar : s.mon.huntBar = false)
include hm hbars hbar

/-- With a start window open the hunt waits, and HUNT_ACTIVE is active (R140, R141). -/
theorem admitHunt_deferred (hw : s.adm.window.isSome = true) (o : HuntOrigin) :
    (admitHunt o s).hunt = { s.hunt with state := .deferred, origin := some o } ∧
    (admitHunt o s).mon.recs.huntActive.active = true ∧ (admitHunt o s).pilot = s.pilot := by
  have hnobar (v : Hunt) : (ownerReport .huntActive true (s.setHunt v)).mon.huntBar = false :=
    (ownerReport_huntBar (s := s.setHunt v) hm hbars true).trans hbar
  rw [admitHunt, if_pos hw, huntBarArrival_of_no_bar (hnobar _)]
  exact ⟨by simp, ownerReport_active .huntActive true _, by simp⟩

end

/-! ## The start -/

/-- The first OPEN of a hunt that starts: it takes the kept place of class HUNT (R122, R144). -/
theorem sendHunt_sent {s : State} {k : DownKind} {a : Nat} (hout : s.hunt.outstanding = none)
    (hfree : keptFree s.pilot.queue .hunt = true) :
    sendHunt k a s =
      some
        ((s.setPilot { s.pilot with queue := s.pilot.queue ++ [huntEntry k a] }).setHunt
          { s.hunt with
            phase := some .sent
            outstanding := some { kind := k, station := a, inFlight := false, stale := false } }) := by
  have hjoined := joinQueue_kept (m := huntMessage k a) (s := s) (.inl rfl) hfree
  rw [sendHunt, hout, hjoined]
  rfl

/-- The plan's first step begins with an OPEN that is sent (R144). -/
theorem beginSteps_sent {s : State} {st : HuntStep} {more : List HuntStep} (hans : stationAnswers s st.station = true)
    (hout : s.hunt.outstanding = none) (hfree : keptFree s.pilot.queue .hunt = true) (u : Option Nat) :
    beginSteps u (st :: more) s =
      (s.setPilot { s.pilot with queue := s.pilot.queue ++ [huntEntry .openSwitch st.station] }).setHunt
        { s.hunt with
          step := s.hunt.step + 1
          state := .opening
          phase := some .sent
          outstanding := some { kind := .openSwitch, station := st.station, inFlight := false, stale := false } } := by
  have hsent := sendHunt_sent (s := s.setHunt { s.hunt with step := s.hunt.step + 1, state := .opening })
    (k := .openSwitch) (a := st.station) hout hfree
  have hans' : stationAnswers (s.setHunt { s.hunt with step := s.hunt.step + 1, state := .opening }) st.station = true :=
    hans
  rw [beginSteps]
  dsimp only
  rw [if_pos hans', hsent]
  rfl

theorem findStation_updateStations {f : Station → Station} (hf : ∀ x, (f x).address = x.address) (s : State) (a : Nat) :
    findStation (updateStations f s) a = (findStation s a).map f := by
  have hkey : ((fun x : Station => x.address == a) ∘ f) = fun x => x.address == a := by
    funext x
    simp [hf]
  simp only [findStation, updateStations, State.setPilot_pilot, List.find?_map, hkey]

theorem stationAnswers_congr {s t : State} (h : t.pilot.stations = s.pilot.stations) (a : Nat) :
    stationAnswers t a = stationAnswers s a := by
  unfold stationAnswers
  rw [findStation_congr h]

/-- The flags that a hunt clears at its start leave its stations answering (R142, R144). -/
theorem stationAnswers_cleared (s : State) (a : Nat) :
    stationAnswers (updateStations (fun st => { st with openedByHunt := false }) s) a = stationAnswers s a := by
  unfold stationAnswers
  rw [findStation_updateStations (f := fun st => { st with openedByHunt := false }) (fun _ => rfl)]
  cases findStation s a <;> rfl

/-- The hunt controller's record as a start sets it, before its first step (R142). -/
def startedHunt (o : Option HuntOrigin) (s : State) : Hunt :=
  { s.hunt with
    state := .opening
    origin := o
    plan := some (parseHunt s.store.images.hunt.working)
    step := 0
    phase := none
    switchTimer := none
    dwellTimer := none
    openStation := none
    indicators := indicatorAddresses (updateStations (fun st => { st with openedByHunt := false }) s)
    results := []
    startTime := some s.time
    judgedQ := none
    pointTime := none }

/-- A hunt that has started, before its first step: the flags cleared, and HUNT_ACTIVE active (R142). -/
def huntStarted (o : Option HuntOrigin) (s : State) : State :=
  ownerReport .huntActive true
    ((updateStations (fun st => { st with openedByHunt := false }) s).setHunt (startedHunt o s))

theorem startHuntNow_eq (o : Option HuntOrigin) (s : State) :
    startHuntNow o s =
      huntBarArrival s (beginSteps none (parseHunt s.store.images.hunt.working) (huntStarted o s)) := rfl

section
variable {s : State} (o : Option HuntOrigin)

theorem huntStarted_holds :
    (huntStarted o s).hunt = startedHunt o s ∧
    (huntStarted o s).pilot = (updateStations (fun st => { st with openedByHunt := false }) s).pilot ∧
    (huntStarted o s).mon.recs.huntActive.active = true :=
  ⟨by simp [huntStarted], by simp [huntStarted], ownerReport_active .huntActive true _⟩

/-- With no start window, a fit plan's first station is sent its OPEN (R142, R144). -/
theorem startHuntNow_sent {st : HuntStep} {more : List HuntStep} (hm : MonitorConsistent s)
    (hbars : (s.mon.recs.get .huntActive).actions.barHunt = false) (hbar : s.mon.huntBar = false)
    (hplan : parseHunt s.store.images.hunt.working = st :: more) (hans : stationAnswers s st.station = true)
    (hout : s.hunt.outstanding = none) (hfree : keptFree s.pilot.queue .hunt = true) :
    startHuntNow o s =
      ((huntStarted o s).setPilot
        { (huntStarted o s).pilot with queue := s.pilot.queue ++ [huntEntry .openSwitch st.station] }).setHunt
        { startedHunt o s with
          step := 1
          phase := some .sent
          outstanding := some { kind := .openSwitch, station := st.station, inFlight := false, stale := false } } := by
  obtain ⟨hhunt, hpilot, -⟩ := huntStarted_holds (s := s) o
  have hans' : stationAnswers (huntStarted o s) st.station = true := by
    rw [stationAnswers_congr (congrArg Pilot.stations hpilot), stationAnswers_cleared]
    exact hans
  have hbegun := beginSteps_sent (more := more) hans' (by rw [hhunt]; exact hout) (by rw [hpilot]; exact hfree) none
  have hnobar : (huntStarted o s).mon.huntBar = false :=
    (ownerReport_huntBar (s := (updateStations _ s).setHunt (startedHunt o s)) (by simpa [MonitorConsistent] using hm)
      (by simpa using hbars) true).trans (by simpa using hbar)
  rw [startHuntNow_eq, hplan, hbegun, huntBarArrival_of_no_bar (by simpa using hnobar), hhunt, hpilot]
  rfl

end

/-- Settles O33: the tests accept or refuse the hunt, and an accepted one waits or is sent off. -/
theorem startHuntIsJudged : Obligations.StartHuntIsJudged := by
  constructor
  · intro c rest s hhead hpayload hm hbars hidle henabled hplan hopen husable hbar hready hclosed
    have hpassed := requestTests_passed hidle henabled hplan (stationsFit_iff.mpr ⟨hopen, husable⟩) hbar hready hclosed
    refine ⟨fun hw => ?_, fun st more hw hout hsteps hans hfree => ?_⟩
    · obtain ⟨hhunt, hactive, hpilot⟩ := admitHunt_deferred (s := withCommands rest s) hm hbars hbar hw .host
      refine ⟨_, exec_startHunt_admitted hhead hpayload hpassed, ?_⟩
      rw [hhunt]
      exact ⟨by simp [hhunt], by simpa using hactive, replied_of_line (by simp [SameLine]) _, by simp [SameClock],
        by simp [SameSettings], by simp, by simp, by simp [hpilot]⟩
    · have hadmit : admitHunt .host (withCommands rest s) = startHuntNow (some .host) (withCommands rest s) :=
        if_neg (by simp [hw])
      have hsent := startHuntNow_sent (s := withCommands rest s) (some .host) hm hbars hbar hsteps hans hout hfree
      obtain ⟨-, hpilot, hactive⟩ := huntStarted_holds (s := withCommands rest s) (some .host)
      refine ⟨_, exec_startHunt_admitted hhead hpayload hpassed, ?_⟩
      rw [hadmit, hsent]
      refine ⟨rfl, rfl, congrArg some hsteps, rfl, rfl, rfl, rfl, rfl, rfl, rfl, fun x hx => ?_, by simpa using hactive,
        replied_of_line (by simp [SameLine, huntStarted]) _, by simp [SameClock, huntStarted],
        by simp [SameSettings, huntStarted], by simp [huntStarted], by simp [huntStarted]⟩
      simp only [fillReply_frame, State.setHunt_pilot, State.setPilot_pilot, hpilot] at hx
      obtain ⟨y, -, rfl⟩ := List.mem_map.mp hx
      rfl
  · intro c rest s hhead hpayload r hr
    obtain ⟨n, htests, rfl⟩ := requestTests_failed hr
    exact exec_startHunt_refused hhead hpayload htests

end Sys2Proof.Machine

/-! PROOFS. The hunt controller's ends: STOP_HUNT (R150), the end of SETTLING (R151), a switch wait that runs out (R145,
R147), and the judgement of the dwell (R146). -/

namespace Sys2Proof.Machine

/-! ## The end of a step -/

/-- The step record that the end of the current step appends (R147). -/
def stepRecordOf (r : StepResult) (s : State) : StepRecord where
  number := s.hunt.step
  station := (currentStep s).station
  result := r
  time := s.time
  judgedQ := s.hunt.judgedQ
  pointTime := s.hunt.pointTime

theorem endStep_hunt (r : StepResult) (s : State) :
    (endStep r s).hunt =
      { s.hunt with
        results := s.hunt.results ++ [stepRecordOf r s]
        indicators := joinSets s.hunt.indicators (indicatorAddresses s)
        phase := none
        judgedQ := none
        pointTime := none
        switchTimer := none
        dwellTimer := none } := by
  simp [endStep, stepRecordOf]

/-- The end of an outstanding message touches nothing else of the hunt (R148). -/
@[simp] theorem dropOutstanding_hunt (s : State) :
    (dropOutstanding s).hunt.plan = s.hunt.plan ∧ (dropOutstanding s).hunt.step = s.hunt.step ∧
    (dropOutstanding s).hunt.results = s.hunt.results ∧ (dropOutstanding s).hunt.openStation = s.hunt.openStation ∧
    (dropOutstanding s).hunt.origin = s.hunt.origin := by
  unfold dropOutstanding
  split
  · simp
  · split <;> simp

/-! ## The end of a hunt -/

/-- The last-result record of a hunt that had started (R149). -/
def endResult (o : HuntOutcome) (c : Option AbortCause) (b : Option (List Cond)) (u : Option Nat) (s : State) :
    LastResult where
  outcome := o
  cause := c.map .abort
  bars := b
  origin := s.hunt.origin
  startTime := s.hunt.startTime
  endTime := s.time
  planLength := some (s.hunt.plan.getD []).length
  stepsDone := s.hunt.results.length
  leftOpen := s.hunt.openStation
  unsettled := u
  indicators := s.hunt.indicators

section
variable (o : HuntOutcome) (c : Option AbortCause) (b : Option (List Cond)) (u : Option Nat)

theorem endHunt_hunt (n : HuntState) (s : State) :
    (endHunt o c b u n s).hunt =
      { s.hunt with
        state := n
        origin := none
        phase := none
        switchTimer := none
        dwellTimer := none
        last := some (endResult o c b u s)
        startTime := none } := by
  simp [endHunt, finishHunt, endResult]

/-- In IDLE after a hunt HUNT_ACTIVE is not active (R140). -/
theorem endHunt_idle_active (s : State) : (endHunt o c b u .idle s).mon.recs.huntActive.active = false :=
  ownerReport_active .huntActive false _

/-- What a hunt leaves that ends with its current step: the step's record after the others, and a last-result record
that counts it (R147, R149). -/
theorem endHunt_endStep (r : StepResult) (s : State) :
    (endHunt o c b u .idle (endStep r s)).hunt.state = .idle ∧
    (endHunt o c b u .idle (endStep r s)).hunt.last = some (endResult o c b u (endStep r s)) ∧
    (endHunt o c b u .idle (endStep r s)).hunt.results = s.hunt.results ++ [stepRecordOf r s] ∧
    (endHunt o c b u .idle (endStep r s)).mon.recs.huntActive.active = false := by
  refine ⟨?_, ?_, ?_, endHunt_idle_active o c b u _⟩ <;> simp [endHunt_hunt, endStep_hunt]

theorem endHunt_endStep_frame (r : StepResult) (s : State) :
    SameClock s (endHunt o c b u .idle (endStep r s)) ∧ SameSettings s (endHunt o c b u .idle (endStep r s)) ∧
    (endHunt o c b u .idle (endStep r s)).adm = s.adm := by
  simp [SameClock, SameSettings]

/-- The last-result record tells of the hunt as its last step found it, and counts that step (R149). -/
theorem endResult_endStep (r : StepResult) (s : State) :
    (endResult o c b u (endStep r s)).leftOpen = s.hunt.openStation ∧
    (endResult o c b u (endStep r s)).origin = s.hunt.origin ∧
    (endResult o c b u (endStep r s)).endTime = s.time ∧
    (endResult o c b u (endStep r s)).stepsDone = s.hunt.results.length + 1 := by
  simp [endResult, endStep_hunt]

end

/-! ## STOP_HUNT -/

/-- A hunt with a step under way is aborted: its message dropped, the step INTERRUPTED and the hunt ended (R150). -/
theorem huntAbort_of_step {s : State}
    (h : s.hunt.state = .opening ∨ s.hunt.state = .dwell ∨ s.hunt.state = .restoring) (k : AbortCause) :
    ∃ u, huntAbort k s =
      endHunt .aborted (some k) (if k = .huntBar then some (huntBarsOf s.mon.recs) else none) u
        (if k = .trip then .settling else .idle) (endStep .interrupted (dropOutstanding s)) := by
  rcases h with h | h | h <;> exact ⟨_, by simp only [huntAbort, h]; rfl⟩

section
variable {c : Command} {rest : List Command} {s : State} (hhead : HeadIs .stopHunt c rest s) (hpayload : c.payload = [])
include hhead hpayload

theorem exec_stopHunt :
    exec .stopHunt s =
      .next (fillReply (ownStopHunt [] (withCommands rest s)).1 none (ownStopHunt [] (withCommands rest s)).2) := by
  rw [← hpayload]
  exact congrArg Host.Outcome.next (runCommand_head ownStopHunt hhead (by rw [hpayload]; rfl))

/-- In IDLE and SETTLING no hunt runs that could be stopped (R150). -/
theorem exec_stopHunt_refused (h : s.hunt.state = .idle ∨ s.hunt.state = .settling) :
    exec .stopHunt s =
      .next
        { s with
          host := s.host.afterReply (refusedFor .notRunning (.huntStopped s.hunt.state s.hunt.last)) none rest } := by
  have hown : ownStopHunt [] (withCommands rest s) = (refusedFor .notRunning (stopContent s), withCommands rest s) :=
    if_pos h
  rw [exec_stopHunt hhead hpayload, hown]
  rfl

theorem exec_stopHunt_aborts (h : ¬ (s.hunt.state = .idle ∨ s.hunt.state = .settling)) :
    exec .stopHunt s =
      .next
        (fillReply (okReply (stopContent (huntAbort .stop (withCommands rest s)))) none
          (huntAbort .stop (withCommands rest s))) := by
  have hown : ownStopHunt [] (withCommands rest s) =
      (okReply (stopContent (huntAbort .stop (withCommands rest s))), huntAbort .stop (withCommands rest s)) :=
    if_neg h
  rw [exec_stopHunt hhead hpayload, hown]

end

/-! ## The end of SETTLING -/

theorem exec_settlingEnd {s : State} (hdue : s.due.settle = true) (hstate : s.hunt.state = .settling) :
    exec .settlingEnd s =
      .next
        (if s.seq.state = .lockout then ownerReport .huntActive false (s.setHunt { s.hunt with state := .idle })
        else s) := by
  change Host.Outcome.next _ = _
  simp [hdue, hstate]

/-- Settles O34: a stopped hunt ends with its step INTERRUPTED, and SETTLING ends in LOCKOUT alone. -/
theorem stopHuntAndSettlingEnd : Obligations.StopHuntAndSettlingEnd := by
  constructor
  · intro c rest s hhead hpayload
    refine ⟨fun hrun => ?_, exec_stopHunt_refused hhead hpayload⟩
    obtain ⟨u, habort⟩ := huntAbort_of_step (s := withCommands rest s) hrun .stop
    have hexec := exec_stopHunt_aborts hhead hpayload (by rcases hrun with h | h | h <;> simp [h])
    rw [habort] at hexec
    simp only [reduceCtorEq, if_false] at hexec
    obtain ⟨hidle, hlast, hresults, hactive⟩ :=
      endHunt_endStep .aborted (some .stop) none u .interrupted (dropOutstanding (withCommands rest s))
    obtain ⟨hopen, horigin, htime, hdone⟩ :=
      endResult_endStep .aborted (some .stop) none u .interrupted (dropOutstanding (withCommands rest s))
    rw [stopContent, hidle, hlast] at hexec
    exact ⟨_, _, hexec, by simpa using hidle, by simpa using hlast, rfl, rfl, by simpa using hopen,
      by simpa using horigin, by simpa using htime, by simpa using hdone,
      ⟨_, by simpa using hresults, rfl, by simp [stepRecordOf], by simp [stepRecordOf, currentStep]⟩,
      by simp [endHunt_hunt], by simp [endHunt_hunt], by simp [endHunt_hunt, endStep_hunt], by simpa using hactive,
      replied_of_line (by simp [SameLine]) _, by simp [SameClock], by simp [SameSettings], by simp, by simp⟩
  · intro s hdue hstate
    rw [exec_settlingEnd hdue hstate]
    refine ⟨fun hlock => ?_, fun hlock => by rw [if_neg hlock]⟩
    rw [if_pos hlock]
    exact ⟨_, rfl, by simp, ownerReport_active .huntActive false _, by simp [hlock], by simp [SameClock],
      by simp [SameSettings], by simp, by simp, by simp, by simp [SameLine]⟩

/-! ## A switch wait that runs out -/

section
variable {s : State} {w : MsTimer} (hw : s.hunt.switchTimer = some w) (h0 : w.remaining = 0)
include hw h0

theorem exec_switchWaitExpiry_opening (h : s.hunt.state = .opening) :
    exec .switchWaitExpiry s = .next (stepOver .noResponse (some (currentStep s).station) s) := by
  change Host.Outcome.next _ = _
  simp [timerDue, hw, h0, h]

theorem exec_switchWaitExpiry_restoring (h : s.hunt.state = .restoring) :
    exec .switchWaitExpiry s = .next (restoreFailed (some (currentStep s).station) s) := by
  change Host.Outcome.next _ = _
  simp [timerDue, hw, h0, h]

end

section
variable {s : State} {plan : List HuntStep} (hplan : s.hunt.plan = some plan) (r : StepResult) (u : Option Nat)
include hplan

/-- After the plan's last step the hunt ends NOT_FOUND (R147). -/
theorem stepOver_last (hlast : plan.drop s.hunt.step = []) :
    stepOver r u s = endHunt .notFound none none u .idle (endStep r s) := by
  simp [stepOver, continueHunt, endStep_hunt, hplan, hlast, beginSteps]

/-- After any other step the next one sends its OPEN, to a station that answers (R144, R147). -/
theorem stepOver_next {st : HuntStep} {more : List HuntStep} (hnext : plan.drop s.hunt.step = st :: more)
    (hans : stationAnswers s st.station = true) (hout : s.hunt.outstanding = none)
    (hfree : keptFree s.pilot.queue .hunt = true) :
    stepOver r u s =
      ((endStep r s).setPilot
        { s.pilot with queue := s.pilot.queue ++ [huntEntry .openSwitch st.station] }).setHunt
        { (endStep r s).hunt with
          step := s.hunt.step + 1
          state := .opening
          phase := some .sent
          outstanding := some { kind := .openSwitch, station := st.station, inFlight := false, stale := false } } := by
  have hpilot : (endStep r s).pilot = s.pilot := by simp
  have hsent := beginSteps_sent (s := endStep r s) (st := st) (more := more)
    (by rw [stationAnswers_congr (congrArg Pilot.stations hpilot)]; exact hans)
    (by rw [endStep_hunt]; exact hout) (by rw [hpilot]; exact hfree) u
  have hsteps : ((endStep r s).hunt.plan.getD []).drop (endStep r s).hunt.step = st :: more := by
    simp [endStep_hunt, hplan, hnext]
  rw [stepOver, continueHunt, hsteps, hsent, hpilot]
  simp [endStep_hunt]

end

/-- Settles O35: the wait's end is the step's end, and the plan says whether the hunt goes on. -/
theorem switchWaitRunsOut : Obligations.SwitchWaitRunsOut := by
  intro s plan w hw h0 hplan
  refine ⟨fun hopening hlast => ?_, fun st more hopening hnext hans hout hfree => ?_, fun hrestoring => ?_⟩
  · rw [exec_switchWaitExpiry_opening hw h0 hopening, stepOver_last hplan _ _ hlast]
    obtain ⟨hidle, hresult, hresults, hactive⟩ :=
      endHunt_endStep .notFound none none (some (currentStep s).station) .noResponse s
    exact ⟨_, _, _, rfl, hidle, hresult, rfl, rfl, rfl, hresults, rfl, rfl, hactive, endHunt_endStep_frame ..⟩
  · rw [exec_switchWaitExpiry_opening hw h0 hopening, stepOver_next hplan _ _ hnext hans hout hfree]
    refine ⟨_, stepRecordOf .noResponse s, rfl, rfl, rfl, rfl, ?_, rfl, rfl, ?_⟩
    · simp [endStep_hunt]
    · simp [SameClock, SameSettings]
  · rw [exec_switchWaitExpiry_restoring hw h0 hrestoring, restoreFailed]
    obtain ⟨hidle, hresult, hresults, hactive⟩ :=
      endHunt_endStep .aborted (some .restoreFailed) none (some (currentStep s).station) .restoreFailed s
    obtain ⟨hopen, -⟩ :=
      endResult_endStep .aborted (some .restoreFailed) none (some (currentStep s).station) .restoreFailed s
    exact ⟨_, _, _, rfl, hidle, hresult, rfl, rfl, hopen, rfl, hresults, rfl, hactive,
      endHunt_endStep_frame ..⟩

/-! ## The judgement of the dwell -/

theorem exec_dwellExpiry {s : State} {w : MsTimer} (hw : s.hunt.dwellTimer = some w) (h0 : w.remaining = 0)
    (h : s.hunt.state = .dwell) : exec .dwellExpiry s = .next (judgeDwell s) := by
  change Host.Outcome.next _ = _
  simp [timerDue, hw, h0, h]

section
variable {s : State}

/-- The value that the dwell is judged by is that of a record made since the opening (R146 test 2). -/
theorem judgeableQ_eq_some_iff {q : Nat} :
    judgeableQ s = some q ↔
      s.meas.latest.present = true ∧ elapsed s.time s.meas.latest.time ≤ (currentStep s).dwell ∧
        s.meas.latest.q.huntClear = some q := by
  simp [judgeableQ, and_assoc]

/-- With the hunt message free and its kept place in the queue free too, a CLOSE is sent (R122, R146). -/
theorem beginRestore_sent (hout : s.hunt.outstanding = none) (hfree : keptFree s.pilot.queue .hunt = true) :
    beginRestore s =
      (s.setPilot
        { s.pilot with queue := s.pilot.queue ++ [huntEntry .closeSwitch (currentStep s).station] }).setHunt
        { s.hunt with
          state := .restoring
          phase := some .sent
          dwellTimer := none
          outstanding :=
            some { kind := .closeSwitch, station := (currentStep s).station, inFlight := false, stale := false } } := by
  have hsent := sendHunt_sent (s := s.setHunt { s.hunt with state := .restoring, phase := none, dwellTimer := none })
    (k := .closeSwitch) (a := (currentStep s).station) hout hfree
  have hstep : currentStep (s.setHunt { s.hunt with state := .restoring, phase := none, dwellTimer := none }) =
    currentStep s := rfl
  rw [beginRestore]
  dsimp only
  rw [hstep, hsent]
  rfl

/-- The hunt with the judgement that its step's record will hold (R147). -/
def judged (q : Option Nat) (time : Option Time) (s : State) : State :=
  s.setHunt { s.hunt with judgedQ := q, pointTime := time }

theorem judgeDwell_not_closed (h : s.brk.accepted ≠ .closed) :
    judgeDwell s = endHunt .aborted (some .breakerNotClosed) none none .idle (endStep .interrupted s) := if_pos h

theorem judgeDwell_cleared (hclosed : s.brk.accepted = .closed) {q : Nat} (hq : judgeableQ s = some q) (hlt : q < 256) :
    judgeDwell s =
      endHunt .found none none none .idle (endStep .cleared (judged (some q) (some s.meas.latest.time) s)) := by
  rw [judgeDwell, if_neg (by simp [hclosed]), hq]
  exact if_pos hlt

/-- Without a value below 256 the station is to be closed again, with the judgement kept where there is one (R146). -/
theorem judgeDwell_persists (hclosed : s.brk.accepted = .closed) (h : ∀ q, judgeableQ s = some q → 256 ≤ q) :
    ∃ q time, judgeDwell s = beginRestore (judged q time s) := by
  rw [judgeDwell, if_neg (by simp [hclosed])]
  cases hq : judgeableQ s with
  | none => exact ⟨s.hunt.judgedQ, s.hunt.pointTime, rfl⟩
  | some q => exact ⟨some q, some s.meas.latest.time, if_neg (Nat.not_lt.mpr (h q hq))⟩

end

/-- Settles O36: the dwell is judged by the breaker's position first, and then by the latest evaluation record. -/
theorem dwellIsJudged : Obligations.DwellIsJudged := by
  intro s w hw h0 hdwell
  rw [exec_dwellExpiry hw h0 hdwell]
  refine ⟨fun hoff => ?_, fun q hclosed hpresent hage hclear hlt => ?_, fun hclosed hout hfree hkept => ?_⟩
  · rw [judgeDwell_not_closed hoff]
    obtain ⟨hidle, hresult, hresults, hactive⟩ :=
      endHunt_endStep .aborted (some .breakerNotClosed) none none .interrupted s
    obtain ⟨hopen, -⟩ := endResult_endStep .aborted (some .breakerNotClosed) none none .interrupted s
    exact ⟨_, _, _, rfl, hidle, hresult, rfl, rfl, hopen, hresults, rfl, hactive, endHunt_endStep_frame ..⟩
  · rw [judgeDwell_cleared hclosed (judgeableQ_eq_some_iff.mpr ⟨hpresent, hage, hclear⟩) hlt]
    obtain ⟨hidle, hresult, hresults, hactive⟩ :=
      endHunt_endStep .found none none none .cleared (judged (some q) (some s.meas.latest.time) s)
    obtain ⟨hopen, -⟩ :=
      endResult_endStep .found none none none .cleared (judged (some q) (some s.meas.latest.time) s)
    exact ⟨_, _, _, rfl, hidle, hresult, rfl, hopen, rfl, hresults, rfl, rfl, rfl, hactive,
      by simp [SameClock, SameSettings, judged]⟩
  · have hjudgeable (q : Nat) (hq : judgeableQ s = some q) : 256 ≤ q := by
      obtain ⟨hpresent, hage, hclear⟩ := judgeableQ_eq_some_iff.mp hq
      rcases hkept with habsent | hold | hnone | ⟨q', hclear', hge⟩
      · simp [hpresent] at habsent
      · omega
      · simp [hclear] at hnone
      · obtain rfl : q = q' := by simpa [hclear] using hclear'
        exact hge
    obtain ⟨q, time, hjudge⟩ := judgeDwell_persists hclosed hjudgeable
    rw [hjudge, beginRestore_sent (s := judged q time s) hout hfree]
    exact ⟨_, rfl, rfl, rfl, rfl, rfl, rfl, rfl, rfl, by simp [SameClock, SameSettings, judged]⟩

end Sys2Proof.Machine

/-! PROOFS. The drive records, the start queue and the start window agree (R157, R163, R165): what each move of the
admission unit makes of the agreement. -/

namespace Sys2Proof.Machine

/-! ## The agreement, record by record -/

/-- A drive has a record. -/
def HasRecord (a : Admission) (n : Nat) : Prop := ∃ d ∈ a.drives, d.drive = n

/-- The open window is a drive's own. -/
def WindowOf (a : Admission) (n : Nat) : Prop := ∃ w ∈ a.window, w.drive = n

theorem windowOf_of_none {a : Admission} (h : a.window = none) (n : Nat) : ¬ WindowOf a n := by
  simp [WindowOf, h]

theorem windowOf_of_some {a : Admission} {w : StartWindow} (h : a.window = some w) (n : Nat) :
    WindowOf a n ↔ w.drive = n := by
  simp [WindowOf, h]

/-- Each record agrees with the start queue and with the window (Table 9.1, R157, R165). -/
structure RecordsAgree (a : Admission) : Prop where
  number : ∀ d ∈ a.drives, d.drive ≤ 7
  pending : ∀ d ∈ a.drives, d.isPending = true ↔ d.drive ∈ a.queue
  window : ∀ d ∈ a.drives, d.request = .window ↔ WindowOf a d.drive

/-- `AdmissionAgrees`, part by part, over the admission unit alone. -/
structure UnitAgrees (a : Admission) : Prop extends RecordsAgree a where
  queued : ∀ n ∈ a.queue, HasRecord a n
  opened : ∀ n, WindowOf a n → HasRecord a n

theorem admissionAgrees_iff (s : State) : AdmissionAgrees s ↔ UnitAgrees s.adm := by
  have hwindow (n : Nat) : (s.adm.window.any fun w => w.drive == n) = true ↔ WindowOf s.adm n := by
    simp [WindowOf, Option.any_eq_true]
  constructor
  · rintro ⟨hrecords, hqueued, hopened⟩
    refine ⟨⟨fun d hd => ?_, fun d hd => ?_, fun d hd => ?_⟩, hqueued, ?_⟩
    rotate_right
    · rintro n ⟨w, hw, rfl⟩
      exact hopened w hw
    all_goals obtain ⟨hnumber, hpending, hown⟩ := hrecords d hd
    · exact hnumber
    · exact hpending
    · exact hown.trans (hwindow _)
  · rintro ⟨⟨hnumber, hpending, hown⟩, hqueued, hopened⟩
    exact ⟨fun d hd => ⟨hnumber d hd, hpending d hd, (hown d hd).trans (hwindow _).symm⟩, hqueued,
      fun w hw => hopened _ ⟨w, hw, rfl⟩⟩

theorem isPending_iff {d : Drive} : d.isPending = true ↔ ∃ arrival deadline, d.request = .pending arrival deadline := by
  unfold Drive.isPending
  split <;> simp_all

theorem isPending_congr {d e : Drive} (h : d.request = e.request) : d.isPending = e.isPending := by
  simp only [Drive.isPending, h]

theorem not_window_of_isPending {d : Drive} (h : d.isPending = true) : d.request ≠ .window := by
  obtain ⟨arrival, deadline, hr⟩ := isPending_iff.mp h
  simp [hr]

/-- The records of one number changed. -/
def changeDrive (n : Nat) (f : Drive → Drive) (l : List Drive) : List Drive :=
  l.map fun d => if d.drive = n then f d else d

section
variable {a b : Admission} {n : Nat} {f : Drive → Drive}

/-- A change of records keeps their numbers. -/
theorem hasRecord_of_change (hf : ∀ d, (f d).drive = d.drive) (hdrives : b.drives = changeDrive n f a.drives) (m : Nat) :
    HasRecord b m ↔ HasRecord a m := by
  have hkeep (d : Drive) : (if d.drive = n then f d else d).drive = d.drive := by split <;> simp [hf]
  simp [HasRecord, hdrives, changeDrive, hkeep]

/-- One drive's request moves, with the queue and the window as its new request has it; of no other drive anything
changes. -/
theorem RecordsAgree.changed (h : RecordsAgree a) (hf : ∀ d, (f d).drive = d.drive)
    (hdrives : b.drives = changeDrive n f a.drives) (hpending : ∀ d, (f d).isPending = true ↔ n ∈ b.queue)
    (hwindow : ∀ d, (f d).request = .window ↔ WindowOf b n) (hqueue : ∀ m, m ≠ n → (m ∈ b.queue ↔ m ∈ a.queue))
    (hother : ∀ m, m ≠ n → (WindowOf b m ↔ WindowOf a m)) : RecordsAgree b := by
  have hcases (e : Drive) (he : e ∈ b.drives) :
      ∃ d ∈ a.drives, e.drive = d.drive ∧ (d.drive = n ∧ e = f d ∨ d.drive ≠ n ∧ e = d) := by
    rw [hdrives, changeDrive, List.mem_map] at he
    obtain ⟨d, hd, rfl⟩ := he
    by_cases hn : d.drive = n
    · exact ⟨d, hd, by simp [hn, hf], .inl ⟨hn, if_pos hn⟩⟩
    · exact ⟨d, hd, by simp [hn], .inr ⟨hn, if_neg hn⟩⟩
  refine ⟨fun e he => ?_, fun e he => ?_, fun e he => ?_⟩
  all_goals obtain ⟨d, hd, hdrive, ⟨hn, rfl⟩ | ⟨hn, rfl⟩⟩ := hcases e he
  · exact hdrive ▸ h.number d hd
  · exact h.number e hd
  · rw [hdrive, hn]
    exact hpending d
  · exact (h.pending e hd).trans (hqueue _ hn).symm
  · rw [hdrive, hn]
    exact hwindow d
  · exact (h.window e hd).trans (hother _ hn).symm

end

/-! ## What an operation keeps -/

/-- The agreement goes from the one state to the other. -/
def AgreementKept (s t : State) : Prop := AdmissionAgrees s → AdmissionAgrees t

/-- Everything that the agreement reads is the same in both units: the grant and the times of the window are not read. -/
@[simp] def SameRequests (a b : Admission) : Prop :=
  b.drives = a.drives ∧ b.queue = a.queue ∧ b.window.map StartWindow.drive = a.window.map StartWindow.drive

theorem windowOf_congr {a b : Admission}
    (h : b.window.map StartWindow.drive = a.window.map StartWindow.drive) (n : Nat) : WindowOf b n ↔ WindowOf a n := by
  have hmem (c : Admission) : WindowOf c n ↔ c.window.map StartWindow.drive = some n := by
    simp [WindowOf, Option.map_eq_some_iff]
  rw [hmem, hmem, h]

theorem RecordsAgree.congr {a b : Admission} (h : RecordsAgree a) (hsame : SameRequests a b) : RecordsAgree b := by
  obtain ⟨hdrives, hqueue, hwindow⟩ := hsame
  refine ⟨?_, ?_, ?_⟩
  · rw [hdrives]
    exact h.number
  · rw [hdrives, hqueue]
    exact h.pending
  · rw [hdrives]
    exact fun d hd => (h.window d hd).trans (windowOf_congr hwindow _).symm

theorem UnitAgrees.congr {a b : Admission} (h : UnitAgrees a) (hsame : SameRequests a b) : UnitAgrees b := by
  have hrecords := h.toRecordsAgree.congr hsame
  obtain ⟨hdrives, hqueue, hwindow⟩ := hsame
  refine ⟨hrecords, ?_, fun n hn => ?_⟩
  · simpa only [HasRecord, hdrives, hqueue] using h.queued
  · simpa only [HasRecord, hdrives] using h.opened n ((windowOf_congr hwindow n).mp hn)

namespace AgreementKept

variable {s t u : State}

theorem refl (s : State) : AgreementKept s s := id

theorem trans (h : AgreementKept s t) (h' : AgreementKept t u) : AgreementKept s u := h' ∘ h

theorem of_unit (h : UnitAgrees s.adm → UnitAgrees t.adm) : AgreementKept s t :=
  fun hs => (admissionAgrees_iff t).mpr (h ((admissionAgrees_iff s).mp hs))

theorem of_same (h : SameRequests s.adm t.adm) : AgreementKept s t := of_unit fun hs => hs.congr h

/-- An operation outside the admission unit. -/
theorem of_adm (h : t.adm = s.adm) : AgreementKept s t := of_same (by simp [h])

/-- A row or an operation that acts under a condition, and leaves the state alone otherwise. -/
theorem ite {p : Prop} [Decidable p] (h : p → AgreementKept s t) : AgreementKept s (if p then t else s) := by
  split
  · next hp => exact h hp
  · exact .refl s

end AgreementKept

/-- The records change in what the agreement does not read. -/
theorem UnitAgrees.mapped {a b : Admission} {f : Drive → Drive} (h : UnitAgrees a)
    (hf : ∀ d, (f d).drive = d.drive ∧ (f d).request = d.request) (hdrives : b.drives = a.drives.map f)
    (hqueue : b.queue = a.queue) (hwindow : b.window = a.window) : UnitAgrees b := by
  have hrecord (n : Nat) : HasRecord b n ↔ HasRecord a n := by simp [HasRecord, hdrives, hf]
  have hown (n : Nat) : WindowOf b n ↔ WindowOf a n := by rw [WindowOf, hwindow, WindowOf]
  have hpending (d : Drive) : (f d).isPending = d.isPending := isPending_congr (hf d).2
  refine ⟨⟨?_, ?_, ?_⟩, fun n hn => ?_, fun n hn => ?_⟩
  · simpa [hdrives, hf] using h.number
  · simpa [hdrives, hf, hpending, hqueue] using h.pending
  · simpa [hdrives, hf, hown] using h.window
  · exact (hrecord n).mpr (h.queued n (hqueue ▸ hn))
  · exact (hrecord n).mpr (h.opened n ((hown n).mp hn))

theorem RecordsAgree.not_queued {a : Admission} {n : Nat} (h : RecordsAgree a) (hqueued : ∀ n ∈ a.queue, HasRecord a n)
    (hn : WindowOf a n) : n ∉ a.queue := by
  intro hq
  obtain ⟨d, hd, rfl⟩ := hqueued n hq
  exact not_window_of_isPending ((h.pending d hd).mpr hq) ((h.window d hd).mpr hn)

/-! ## The end of a window -/

section
variable {s : State} (k : StartCause)

theorem startReport_agreement (n : Nat) (e : StartEvent) (c : Option StartCause) (so : Option Nat)
    (w : Option (Nat × Nat)) : AgreementKept s (startReport n e c so w s) := .of_adm (by simp)

/-- An end takes the window from a drive whose request was WINDOW, and leaves it with none (R165). The window's own
record may be gone (R155). -/
theorem endWindow_unitAgrees {w : StartWindow} (hw : s.adm.window = some w) (h : RecordsAgree s.adm)
    (hqueued : ∀ n ∈ s.adm.queue, HasRecord s.adm n) : UnitAgrees (endWindow k s).adm := by
  obtain ⟨hdrives, hqueue⟩ := endWindow_records hw k
  have hnone := windowOf_of_none (endWindow_window k s)
  have hrecord := hasRecord_of_change (f := windowEnded k) (fun _ => rfl) hdrives
  have hnot : w.drive ∉ s.adm.queue := h.not_queued hqueued ((windowOf_of_some hw _).mpr rfl)
  refine ⟨h.changed (f := windowEnded k) (n := w.drive) (fun _ => rfl) hdrives (fun d => ?_) (fun d => ?_)
    (fun m _ => by rw [hqueue]) fun m hm => ?_, fun n hn => ?_, fun n hn => (hnone n hn).elim⟩
  · simp [windowEnded, Drive.isPending, hqueue, hnot]
  · simp [windowEnded, hnone]
  · rw [windowOf_of_some hw]
    exact iff_of_false (hnone m) (Ne.symm hm)
  · rw [hqueue] at hn
    exact (hrecord n).mpr (hqueued n hn)

theorem endWindow_agreement : AgreementKept s (endWindow k s) := by
  cases hw : s.adm.window with
  | none =>
    rw [endWindow, hw]
    exact .refl s
  | some w => exact .of_unit fun h => endWindow_unitAgrees k hw h.toRecordsAgree h.queued

end

/-! ## Messages of the unit -/

section
variable (s : State)

theorem queueRelease_agreement (n a : Nat) : AgreementKept s (queueRelease n a s) := by
  obtain ⟨hdrives, hqueue⟩ := queueRelease_records s n a
  exact .of_same ⟨hdrives, hqueue, by simp⟩

/-- The GRANT of the open window moves; that it finds no place ends the window (R163, R164). -/
theorem queueGrant_agreement {w : StartWindow} (hw : s.adm.window.map StartWindow.drive = some w.drive) :
    AgreementKept s (queueGrant w s) := by
  unfold queueGrant
  split
  · exact .of_same (by simp [hw])
  · split
    · next hj =>
      have hf := joinQueue_frame hj
      exact .of_same (by simp [hf, hw])
    · exact .trans (.of_same (by simp [hw])) (endWindow_agreement _)

theorem sendReleaseDue_agreement : AgreementKept s (sendReleaseDue s) := by
  unfold sendReleaseDue
  split
  · exact .trans (.of_same (by simp)) (queueRelease_agreement _ _ _)
  · exact .refl s

theorem sendHeldGrant_agreement : AgreementKept s (sendHeldGrant s) := by
  unfold sendHeldGrant
  split
  · next hw => exact .ite fun _ => queueGrant_agreement s (by simp [hw])
  · exact .refl s

theorem admOutcomeEffect_agreement (m : StartMessage) (o : DownOutcome) :
    AgreementKept s (admOutcomeEffect m o s) := by
  unfold admOutcomeEffect
  split
  · split
    · split
      · exact .refl s
      · exact .of_same (by simp)
    · split
      · exact .of_same (by simp [Function.comp_def])
      · exact endWindow_agreement _
  · split
    · exact .refl s
    · exact startReport_agreement _ _ _ _ _

theorem admOutcome_agreement (o : DownOutcome) : AgreementKept s (admOutcome o s) := by
  unfold admOutcome
  split
  · exact .refl s
  · exact ((AgreementKept.trans (.of_same (by simp)) (admOutcomeEffect_agreement _ _ _)).trans
      (sendReleaseDue_agreement _)).trans (sendHeldGrant_agreement _)

end

/-! ## Requests -/

section
variable {s : State} {n : Nat} {d : Drive}

theorem findDrive_mem (h : findDrive s n = some d) : d ∈ s.adm.drives := List.mem_of_find?_eq_some h

/-- A drive whose request is NONE gets a pending one at the end of the start queue (R157). -/
theorem makePending_agreement (hd : findDrive s n = some d) (hnone : d.request = .none) (a : Nat) :
    AgreementKept s (makePending d a s) := by
  refine .of_unit fun h => ?_
  have hmem := findDrive_mem hd
  have hwindow : ¬ WindowOf s.adm d.drive := fun hw => by
    simpa [hnone] using (h.window d hmem).mpr hw
  rw [makePending_adm]
  have hrecord := hasRecord_of_change (a := s.adm) (n := d.drive) (f := pendingFrom s.time) (fun _ => rfl)
    (b := { (updateDrive d.drive (pendingFrom s.time) s).adm with queue := s.adm.queue ++ [d.drive] }) rfl
  refine ⟨h.toRecordsAgree.changed (f := pendingFrom s.time) (n := d.drive) (fun _ => rfl) rfl
    (fun x => ?_) (fun x => ?_) (fun m hm => ?_) fun m hm => .rfl, fun m hm => ?_, fun m hm => ?_⟩
  · simp [pendingFrom, Drive.isPending]
  · exact iff_of_false nofun hwindow
  · simp [hm]
  · rw [hrecord]
    rcases List.mem_append.mp hm with hm | hm
    · exact h.queued m hm
    · exact ⟨d, hmem, (List.mem_singleton.mp hm).symm⟩
  · exact (hrecord m).mpr (h.opened m hm)

/-- What withdrawals make of the requests of the drives listed: they leave the start queue with request NONE (R159). -/
structure Withdrawn (l : List Nat) (s t : State) : Prop where
  window : t.adm.window = s.adm.window
  queue : ∀ n, n ∈ t.adm.queue ↔ n ∈ s.adm.queue ∧ n ∉ l
  record : ∀ n, HasRecord t.adm n ↔ HasRecord s.adm n
  agree : (∀ n ∈ l, ¬ WindowOf s.adm n) → RecordsAgree s.adm → RecordsAgree t.adm

theorem dropPending_withdrawn (n : Nat) (s : State) : Withdrawn [n] s (dropPending n s) := by
  have hqueue (m : Nat) : m ∈ (dropPending n s).adm.queue ↔ m ∈ s.adm.queue ∧ m ∉ [n] := by
    simp [dropPending, updateDrive]
  refine ⟨rfl, hqueue, hasRecord_of_change (f := fun x => { x with request := .none }) (fun _ => rfl) rfl,
    fun hwindow h => ?_⟩
  refine h.changed (f := fun x => { x with request := .none }) (n := n) (fun _ => rfl) rfl (fun d => ?_) (fun d => ?_)
    (fun m hm => ?_) fun m hm => .rfl
  · simp [Drive.isPending, hqueue]
  · exact iff_of_false nofun (hwindow n (.head _))
  · simp [hqueue, hm]

theorem withdrawRequest_withdrawn (k : StartCause) (n : Nat) (s : State) :
    Withdrawn [n] s (withdrawRequest k s n) := by
  have hadm : (withdrawRequest k s n).adm = (dropPending n s).adm := by simp [withdrawRequest]
  obtain ⟨hwindow, hqueue, hrecord, hagree⟩ := dropPending_withdrawn n s
  rw [← hadm] at hwindow hqueue hrecord hagree
  exact ⟨hwindow, hqueue, hrecord, hagree⟩

theorem foldl_withdrawRequest_withdrawn (k : StartCause) (l : List Nat) (s : State) :
    Withdrawn l s (l.foldl (withdrawRequest k) s) := by
  induction l generalizing s with
  | nil => exact ⟨rfl, by simp, fun _ => .rfl, fun _ => id⟩
  | cons n rest ih =>
    obtain ⟨hwindow, hqueue, hrecord, hagree⟩ := withdrawRequest_withdrawn k n s
    obtain ⟨hwindow', hqueue', hrecord', hagree'⟩ := ih (withdrawRequest k s n)
    refine ⟨hwindow'.trans hwindow, fun m => ?_, fun m => (hrecord' m).trans (hrecord m), fun hl h => ?_⟩
    · simp [hqueue', hqueue, and_assoc]
    · refine hagree' (fun m hm => ?_) (hagree (by simpa using hl n (.head _)) h)
      rw [WindowOf, hwindow]
      exact hl m (.tail _ hm)

/-- Withdrawals of drives without the window keep the agreement. -/
theorem Withdrawn.kept {l : List Nat} {t : State} (h : Withdrawn l s t)
    (hl : AdmissionAgrees s → ∀ n ∈ l, ¬ WindowOf s.adm n) : AgreementKept s t := by
  intro hs
  have hs' := (admissionAgrees_iff s).mp hs
  refine (admissionAgrees_iff t).mpr ⟨h.agree (hl hs) hs'.toRecordsAgree, fun n hn => ?_, fun n hn => ?_⟩
  · exact (h.record n).mpr (hs'.queued n ((h.queue n).mp hn).1)
  · rw [WindowOf, h.window] at hn
    exact (h.record n).mpr (hs'.opened n hn)

/-- The window is not a drive's own whose request is PENDING. -/
theorem UnitAgrees.not_windowOf {a : Admission} (h : UnitAgrees a) (hd : d ∈ a.drives) (hp : d.isPending = true) :
    ¬ WindowOf a d.drive := fun hw => not_window_of_isPending hp ((h.window d hd).mpr hw)

theorem dropPending_agreement (hd : findDrive s n = some d) (hp : d.isPending = true) :
    AgreementKept s (dropPending n s) := by
  refine (dropPending_withdrawn n s).kept fun hs m hm => ?_
  obtain rfl := List.mem_singleton.mp hm
  exact findDrive_drive hd ▸ ((admissionAgrees_iff s).mp hs).not_windowOf (findDrive_mem hd) hp

theorem withdrawRequest_agreement (k : StartCause) (hd : findDrive s n = some d) (hp : d.isPending = true) :
    AgreementKept s (withdrawRequest k s n) :=
  (dropPending_agreement hd hp).trans (startReport_agreement _ _ _ _ _)

/-- The drives of the start queue have no window (R156). -/
theorem drivesInvalid_agreement : AgreementKept s (drivesInvalid s) := by
  refine (foldl_withdrawRequest_withdrawn _ _ s).kept fun hs m hm hw => ?_
  have h := (admissionAgrees_iff s).mp hs
  exact h.toRecordsAgree.not_queued h.queued hw hm

theorem admStartRequest_agreement (a n : Nat) : AgreementKept s (admStartRequest a n s) := by
  unfold admStartRequest
  split
  · exact startReport_agreement _ _ _ _ _
  · split
    · exact startReport_agreement _ _ _ _ _
    · next hd =>
      split
      · exact startReport_agreement _ _ _ _ _
      · split
        · exact .refl s
        · next hnone => exact makePending_agreement hd (not_not.mp hnone) a

theorem admStartDone_agreement (a n : Nat) : AgreementKept s (admStartDone a n s) :=
  .ite fun _ => endWindow_agreement _

theorem admStartAbandon_agreement (a n : Nat) : AgreementKept s (admStartAbandon a n s) := by
  unfold admStartAbandon
  split
  · exact endWindow_agreement _
  · split
    · exact .refl s
    · next hd => exact .ite fun hp => withdrawRequest_agreement _ hd hp.2

end

/-! ## Points, boundaries and loads -/

section
variable (s : State)

theorem admPoint_agreement (q : Multiples) : AgreementKept s (admPoint q s) := by
  unfold admPoint
  split <;> exact .of_same (by simp)

theorem firstDrive_mem {p : Plant} {l : List Drive} {d : Drive} (h : firstDrive p l = some d) : d ∈ l := by
  induction l generalizing d with
  | nil => cases h
  | cons x rest ih =>
    unfold firstDrive at h
    split at h
    · cases h
      exact .head _
    · next e he =>
      split at h
      · cases h
        exact .tail _ (ih he)
      · cases h
        exact .head _

/-- An admitted drive has a pending request, and finds no window open (R162). -/
theorem admittedDrive_pending {d : Drive} (h : admittedDrive s = some d) :
    s.adm.window = none ∧ d ∈ s.adm.drives ∧ d.isPending = true := by
  unfold admittedDrive at h
  split at h
  · next hopen =>
    simp only [admissionOpen, Bool.and_eq_true, Option.isNone_iff_eq_none] at hopen
    obtain ⟨⟨⟨⟨⟨⟨-, hnone⟩, -⟩, -⟩, -⟩, -⟩, -⟩ := hopen
    obtain ⟨hmem, hwithin⟩ := List.mem_filter.mp (firstDrive_mem h)
    exact ⟨hnone, hmem, (Bool.and_eq_true_iff.mp hwithin).1⟩
  · cases h

/-- A second that is counted moves no request (R161), and a level restored none (R162). -/
theorem afterRestoration_agreement : AgreementKept s (afterRestoration s) := by
  unfold afterRestoration
  split
  · refine .of_unit fun h => h.mapped (fun d => ?_) rfl rfl rfl
    unfold restoreLevel
    split <;> exact ⟨rfl, rfl⟩
  · exact .of_same (by simp [countSecond])

/-- The window of a drive opened, before its GRANT and its report (R163). -/
def windowOpened (d : Drive) (s : State) : State :=
  let s1 := updateDrive d.drive (fun x => { x with request := .window }) s
  s1.setAdm
    { s1.adm with queue := s1.adm.queue.filter (· != d.drive), quiet := 0, window := some (openedWindow d s) }

theorem openWindow_eq (d : Drive) :
    openWindow d s =
      startReport d.drive .granted none none (some (d.windowLength, 0))
        (if d.station = 0 then windowOpened d s else queueGrant (openedWindow d s) (windowOpened d s)) := rfl

/-- The drive leaves the start queue for the window that no other drive has (R162, R163). -/
theorem windowOpened_agreement {d : Drive} (hd : d ∈ s.adm.drives) (hnone : s.adm.window = none) :
    AgreementKept s (windowOpened d s) := by
  refine .of_unit fun h => ?_
  have hwindow := windowOf_of_some (a := (windowOpened d s).adm) (w := openedWindow d s) rfl
  have hrecord := hasRecord_of_change (a := s.adm) (b := (windowOpened d s).adm)
    (f := fun x => { x with request := .window }) (fun _ => rfl) rfl
  have hqueue (m : Nat) : m ∈ (windowOpened d s).adm.queue ↔ m ∈ s.adm.queue ∧ m ≠ d.drive := by
    simp [windowOpened, updateDrive]
  refine ⟨h.toRecordsAgree.changed (f := fun x => { x with request := .window }) (n := d.drive) (fun _ => rfl) rfl
    (fun x => ?_) (fun x => ?_) (fun m hm => ?_) fun m hm => ?_, fun m hm => ?_, fun m hm => ?_⟩
  · simp [Drive.isPending, hqueue]
  · exact iff_of_true rfl ((hwindow _).mpr rfl)
  · simp [hqueue, hm]
  · rw [hwindow]
    exact iff_of_false (Ne.symm hm) (windowOf_of_none hnone m)
  · exact (hrecord m).mpr (h.queued m ((hqueue m).mp hm).1)
  · rw [hrecord, ← (hwindow m).mp hm]
    exact ⟨d, hd, rfl⟩

theorem openWindow_agreement {d : Drive} (h : admittedDrive s = some d) : AgreementKept s (openWindow d s) := by
  obtain ⟨hnone, hd, -⟩ := admittedDrive_pending s h
  have hopened := windowOpened_agreement s hd hnone
  rw [openWindow_eq]
  split
  · exact hopened.trans (startReport_agreement _ _ _ _ _)
  · exact (hopened.trans (queueGrant_agreement _ rfl)).trans (startReport_agreement _ _ _ _ _)

theorem rebuiltDrive_drive (old : List Drive) (e : DriveEntry) : (rebuiltDrive old e).drive = e.drive := by
  unfold rebuiltDrive
  split
  · next hfind => simpa using List.find?_some hfind
  · rfl

/-- A rebuilt record has the request of the record it stands for, or NONE where there was none (R155). -/
theorem rebuiltDrive_request (old : List Drive) (e : DriveEntry) :
    (∃ d ∈ old, d.drive = e.drive ∧ (rebuiltDrive old e).request = d.request) ∨
    (∀ d ∈ old, d.drive ≠ e.drive) ∧ (rebuiltDrive old e).request = .none := by
  unfold rebuiltDrive
  split
  · next d hfind => exact .inl ⟨d, List.mem_of_find?_eq_some hfind, by simpa using List.find?_some hfind, rfl⟩
  · next hfind => exact .inr ⟨by simpa using hfind, rfl⟩

theorem inDriveOrder_le {l : List DriveEntry} {e : DriveEntry} (h : e ∈ inDriveOrder l) : e.drive ≤ 7 := by
  obtain ⟨n, hn, hfind⟩ := List.mem_filterMap.mp h
  have hkey : e.drive = n := by simpa using List.find?_some hfind
  have := List.mem_range.mp hn
  omega

/-- The unit with its records rebuilt from the entries of a load (R155). -/
def rebuiltUnit (entries : List DriveEntry) (a : Admission) : Admission :=
  { a with drives := (inDriveOrder entries).map (rebuiltDrive a.drives) }

theorem rebuiltUnit_agree {a : Admission} (h : UnitAgrees a) (entries : List DriveEntry) :
    RecordsAgree (rebuiltUnit entries a) := by
  have hcases (x : Drive) (hx : x ∈ (rebuiltUnit entries a).drives) :
      x.drive ≤ 7 ∧ ((∃ d ∈ a.drives, d.drive = x.drive ∧ x.request = d.request) ∨
        ¬ HasRecord a x.drive ∧ x.request = .none) := by
    obtain ⟨e, he, rfl⟩ := List.mem_map.mp hx
    rw [rebuiltDrive_drive]
    refine ⟨inDriveOrder_le he, (rebuiltDrive_request a.drives e).imp id fun ⟨hnew, hnone⟩ => ⟨?_, hnone⟩⟩
    rintro ⟨d, hd, hdrive⟩
    exact hnew d hd hdrive
  refine ⟨fun x hx => (hcases x hx).1, fun x hx => ?_, fun x hx => ?_⟩
  all_goals obtain ⟨-, ⟨d, hd, hdrive, hrequest⟩ | ⟨hnew, hnone⟩⟩ := hcases x hx
  · rw [isPending_congr hrequest, ← hdrive]
    exact h.pending d hd
  · exact iff_of_false (by simp [Drive.isPending, hnone]) fun hq => hnew (h.queued _ hq)
  · rw [hrequest, ← hdrive]
    exact h.window d hd
  · exact iff_of_false (by simp [hnone]) fun hw => hnew (h.opened _ hw)

/-- The drives whose pending requests a load removes (R155). -/
def removedDrives (entries : List DriveEntry) (a : Admission) : List Nat :=
  (a.drives.filter fun d => d.isPending && !entries.any fun e => e.drive == d.drive).map Drive.drive

theorem mem_removedDrives {entries : List DriveEntry} {a : Admission} {n : Nat} :
    n ∈ removedDrives entries a ↔
      ∃ d ∈ a.drives, d.isPending = true ∧ (∀ e ∈ entries, e.drive ≠ n) ∧ d.drive = n := by
  simp only [removedDrives, List.mem_map, List.mem_filter, Bool.and_eq_true, Bool.not_eq_true', List.any_eq_false,
    beq_iff_eq, and_assoc]
  exact exists_congr fun d => and_congr_right fun _ => and_congr_right fun _ => and_congr_left fun hd => by rw [hd]

/-- A drive that waits in the start queue after a load has a rebuilt record. -/
theorem hasRecord_of_kept {a : Admission} (h : UnitAgrees a) {entries : List DriveEntry} {n : Nat} (hq : n ∈ a.queue)
    (hn : n ∉ removedDrives entries a) : HasRecord (rebuiltUnit entries a) n := by
  obtain ⟨d, hd, rfl⟩ := h.queued n hq
  have hlisted : ∃ e ∈ entries, e.drive = d.drive := by
    by_contra hnone
    exact hn (mem_removedDrives.mpr ⟨d, hd, (h.pending d hd).mpr hq, by simpa using hnone, rfl⟩)
  obtain ⟨e, he, hdrive⟩ := hlisted
  obtain ⟨e', he', hsame⟩ := exists_mem_firstByKey (key := DriveEntry.drive) (k := 8) he
    (hdrive ▸ Nat.lt_succ_of_le (h.number d hd))
  exact ⟨_, List.mem_map_of_mem he', (rebuiltDrive_drive _ e').trans (hsame.trans hdrive)⟩

theorem hasRecord_of_not_removed {s : State} (h : windowRemoved s ≠ true) (n : Nat) (hn : WindowOf s.adm n) :
    HasRecord s.adm n := by
  obtain ⟨w, hw, rfl⟩ := hn
  rw [Option.mem_def] at hw
  simp only [windowRemoved, hw, ne_eq, Option.isNone_iff_eq_none] at h
  obtain ⟨d, hd⟩ := Option.ne_none_iff_exists'.mp h
  exact ⟨d, findDrive_mem hd, findDrive_drive hd⟩

/-- A load in its parts: the records, the withdrawals, and the end of a removed window (R155). -/
theorem rebuildDrives_eq (entries : List DriveEntry) :
    ∃ t, Withdrawn (removedDrives entries s.adm) (s.setAdm (rebuiltUnit entries s.adm)) t ∧
      rebuildDrives entries s = if windowRemoved t = true then endWindow .removed t else t :=
  ⟨_, foldl_withdrawRequest_withdrawn .removed _ _, rfl⟩

/-- A load keeps the requests of the drives that stay, and no queue place and no window of one that goes (R155). -/
theorem rebuildDrives_agreement (entries : List DriveEntry) : AgreementKept s (rebuildDrives entries s) := by
  refine .of_unit fun h => ?_
  obtain ⟨t, hdone, e⟩ := rebuildDrives_eq s entries
  have hagree : RecordsAgree t.adm := by
    refine hdone.agree (fun n hn => ?_) (rebuiltUnit_agree h entries)
    obtain ⟨d, hd, hp, -, rfl⟩ := mem_removedDrives.mp hn
    exact h.not_windowOf hd hp
  have hqueued (n : Nat) (hn : n ∈ t.adm.queue) : HasRecord t.adm n := by
    obtain ⟨hq, hkept⟩ := (hdone.queue n).mp hn
    exact (hdone.record n).mpr (hasRecord_of_kept h hq hkept)
  rw [e]
  split
  · next hremoved =>
    unfold windowRemoved at hremoved
    split at hremoved
    · next hw => exact endWindow_unitAgrees .removed hw hagree hqueued
    · cases hremoved
  · next hkept => exact ⟨hagree, hqueued, hasRecord_of_not_removed hkept⟩

end

end Sys2Proof.Machine

/-! PROOFS. The drive records, the start queue and the start window agree (R157, R163, R165) across every command: what
ends or moves a window through the sequencer, the breaker interface, the pilot bus, the settings store and the host. -/

namespace Sys2Proof.Machine

/-! ## The sequencer and the breaker interface -/

section
variable (s : State)

/-- A departure from READY ends the window, and no other move of the sequencer reaches the admission unit (R165). -/
theorem seqMove_agreement (r : Sequencer) (e : SeqEvent) (o : Option ChangeOrigin) :
    AgreementKept s (seqMove r e o s) := by
  have hto : AgreementKept s (seqTo r e o s) := .of_adm (by simp)
  unfold seqMove
  split
  · exact hto.trans (endWindow_agreement _)
  · exact hto

theorem setSeq_agreement (r : Sequencer) : AgreementKept s (s.setSeq r) := .of_adm (by simp)

theorem seqHold_agreement : AgreementKept s (seqHold s) := .of_adm (by simp)

theorem closeRequest_agreement (o : CloseOrigin) : AgreementKept s (closeRequest o s) := .of_adm (by simp)

theorem tripFromClosed_agreement (t : LastTrip) : AgreementKept s (tripFromClosed t s) := by
  unfold tripFromClosed
  split
  all_goals exact seqMove_agreement s _ _ _

theorem seqTrip_agreement (t : LastTrip) : AgreementKept s (seqTrip t s) := by
  unfold seqTrip
  split
  · exact tripFromClosed_agreement s t
  · exact tripFromClosed_agreement s t
  · exact tripFromClosed_agreement s t
  · exact setSeq_agreement s _
  · exact seqMove_agreement s _ _ _
  · exact setSeq_agreement s _

theorem openJudgement_agreement (o : ChangeOrigin) : AgreementKept s (openJudgement o s) := by
  unfold openJudgement
  split
  · exact seqMove_agreement s _ _ _
  · dsimp only
    split
    · exact seqMove_agreement s _ _ _
    · exact (seqMove_agreement s _ _ _).trans (seqHold_agreement _)

theorem laterChange_agreement (n : BreakerPos) (o : ChangeOrigin) (b : Bool) :
    AgreementKept s (laterChange n o b s) := by
  unfold laterChange
  split
  · exact .ite fun _ => openJudgement_agreement s o
  · split
    · exact seqMove_agreement s _ _ _
    · exact .ite fun _ => seqMove_agreement s _ _ _
  · exact .ite fun _ => seqMove_agreement s _ _ _
  · exact .ite fun _ => seqMove_agreement s _ _ _
  · exact .ite fun _ => seqMove_agreement s _ _ _
  · exact .refl s

theorem seqBreakerChange_agreement (n : BreakerPos) (o : ChangeOrigin) :
    AgreementKept s (seqBreakerChange n o s) := by
  unfold seqBreakerChange initialChange
  dsimp only
  split
  · split
    · exact (setSeq_agreement s _).trans (seqMove_agreement _ _ _ _)
    · exact .of_adm (by simp)
  · exact (setSeq_agreement s _).trans (laterChange_agreement _ _ _ _)

theorem seqClosedOk_agreement : AgreementKept s (seqClosedOk s) := by
  unfold seqClosedOk
  split
  · exact seqMove_agreement s _ _ _
  · exact seqMove_agreement s _ _ _
  all_goals exact .refl s

theorem seqBreakerFail_agreement : AgreementKept s (seqBreakerFail s) := .ite fun _ => seqMove_agreement s _ _ _

theorem deadTimeEnds_agreement : AgreementKept s (deadTimeEnds s) := by
  unfold deadTimeEnds
  split
  · exact seqMove_agreement s _ _ _
  · dsimp only
    split
    · exact (seqMove_agreement s _ _ _).trans (closeRequest_agreement _ _)
    · exact (seqMove_agreement s _ _ _).trans (seqMove_agreement _ _ _ _)

theorem ownOutputs_agreement (n : BreakerPos) : AgreementKept s (ownOutputs n s) := by
  unfold ownOutputs completeClose
  split
  · exact .of_adm (by simp)
  · exact .ite fun _ => .trans (.of_adm (by simp)) (seqClosedOk_agreement _)
  all_goals exact .refl s

/-- A position other than CLOSED ends the window before the sequencer takes the change (R165). -/
theorem acceptPosition_agreement (n : BreakerPos) : AgreementKept s (acceptPosition n s) := by
  have htaken : AgreementKept s (positionTaken n s) := by
    unfold positionTaken
    split
    · exact .of_adm (by simp)
    · exact .trans (.of_adm (by simp)) (endWindow_agreement _)
  rw [acceptPosition_eq]
  exact (htaken.trans (seqBreakerChange_agreement _ _ _)).trans (ownOutputs_agreement _ _)

theorem scanPosition_agreement (a b : Bool) : AgreementKept s (scanPosition a b s) :=
  .trans (.of_adm (by simp)) (.ite fun _ => acceptPosition_agreement _ _)

theorem tripTimeout_agreement : AgreementKept s (tripTimeout s) := by
  have hreleased : AgreementKept s (tripReleased s) := .of_adm (by simp [tripReleased])
  rw [tripTimeout_eq]
  split
  · exact hreleased.trans (.of_adm (by simp))
  · exact (hreleased.trans (seqBreakerFail_agreement _)).trans (.of_adm (by simp))

end

/-! ## The evaluation point -/

section
variable (s : State)

theorem handTrip_agreement (t : Trip) : AgreementKept s (handTrip t s) :=
  .trans (.of_adm (by simp)) ((endWindow_agreement _).trans (seqTrip_agreement _ _))

theorem sefStage_agreement : AgreementKept s (sefStage s) := .of_adm (by simp)

theorem protPoint_agreement (q : Multiples) (b : Bool) : AgreementKept s (protPoint q b s) := by
  by_cases h : tripEntries s.settings q (stepValues s.regime.inForce q s.prot) = []
  · rw [protPoint_of_no_entry h]
    exact .of_adm (by simp)
  · obtain ⟨trip, e⟩ := protPoint_of_entry h
    rw [e]
    exact .trans (.of_adm (by simp [zeroValues])) ((handTrip_agreement _ _).trans (sefStage_agreement _))

/-- A point reaches the admission unit by its quiet test, and by a trip (R160, R165). -/
theorem evaluationPoint_agreement : AgreementKept s (evaluationPoint s) := by
  have hhanded (u : State) : AgreementKept u (handPoint u) :=
    (admPoint_agreement _ _).trans (protPoint_agreement _ _ _)
  exact .trans (.of_adm (by simp)) (hhanded _)

theorem acceptSet_agreement (set : SampleSet) : AgreementKept s (acceptSet set s) := by
  have htaken : AgreementKept s (takenIn set s) := .of_adm (by simp)
  cases h : raisesPoint (measBefore set s)
  · rwa [acceptSet_of_no_point h]
  · rw [acceptSet_of_point h]
    exact htaken.trans (evaluationPoint_agreement _)

end

/-! ## The pilot bus controller -/

section
variable (s : State)

theorem noteInFlight_agreement (m : DownMessage) : AgreementKept s (noteInFlight m s) := by
  unfold noteInFlight
  split
  · exact .of_adm (by simp)
  · refine .of_same ⟨rfl, rfl, ?_⟩
    dsimp only [State.setAdm_adm]
    split <;> simp [Function.comp_def]
  all_goals exact .of_adm (by simp)

theorem arbitrate_agreement : AgreementKept s (arbitrate s) := by
  unfold arbitrate
  split
  · split
    · exact .trans (.of_adm (by simp)) (noteInFlight_agreement _ _)
    · exact .refl s
  · exact .refl s

theorem endMessage_agreement : AgreementKept s (endMessage s) := by
  have hfreed : AgreementKept s (freeDown s) := .of_adm (by simp)
  unfold endMessage handOutcome
  split
  · split
    · exact hfreed.trans (.of_adm (by simp))
    · exact hfreed.trans (admOutcome_agreement _ _)
    all_goals exact hfreed.trans (.of_adm (by simp))
  · exact hfreed

end

/-! ## The settings store and the full restart -/

section
variable (s : State)

theorem usersAccept_agreement (i : ImageId) : AgreementKept s (usersAccept i s) := by
  cases i with
  | plant | stations | curve0 | curve1 | curve2 | curve3 | group0 | group1 | group2 | group3 =>
    exact .of_adm (by simp [usersAccept])
  | hunt => exact .refl s
  | drives => exact rebuildDrives_agreement s _

theorem usersInvalid_agreement (i : ImageId) : AgreementKept s (usersInvalid i s) := by
  cases i with
  | plant | stations | curve0 | curve1 | curve2 | curve3 | group0 | group1 | group2 | group3 =>
    exact .of_adm (by simp [usersInvalid])
  | hunt => exact .refl s
  | drives => exact drivesInvalid_agreement

theorem judgeIntegrity_agreement : AgreementKept s (judgeIntegrity s) := .of_adm (by simp)

theorem checkImage_agreement (i : ImageId) : AgreementKept s (checkImage s i) := by
  unfold checkImage
  dsimp only
  split
  · exact .trans (.of_adm (by simp)) ((usersInvalid_agreement _ i).trans (judgeIntegrity_agreement _))
  · exact .of_adm (by simp)

theorem foldl_checkImage_agreement (l : List ImageId) : AgreementKept s (l.foldl checkImage s) := by
  induction l generalizing s with
  | nil => exact .refl s
  | cons i rest ih => exact (checkImage_agreement s i).trans (ih _)

theorem endCheck_agreement : AgreementKept s (endCheck s) := by
  unfold endCheck
  split
  · exact checkImage_agreement s _
  · exact .refl s

theorem fullPass_agreement : AgreementKept s (fullPass s) := by
  have hchecked : AgreementKept s (ImageId.all.foldl checkImage (s.setStore { s.store with checking := none })) :=
    .trans (.of_adm (by simp)) (foldl_checkImage_agreement _ _)
  exact hchecked.trans (.of_adm (by simp [fullPass]))

theorem acceptImage_agreement (i : ImageId) (l : List Byte) (w : Word16) :
    AgreementKept s (acceptImage i l w s) :=
  .trans (.of_adm (by simp)) (usersAccept_agreement _ i)

/-- The records that a full restart builds have no request (R167). -/
theorem admissionAtRestart_from (t : ImageTable Image) :
    (∀ d ∈ (admissionAtRestart t).drives, d.request = .none) ∧ ∀ d ∈ (admissionAtRestart t).drives, d.drive ≤ 7 := by
  cases h : usable t.drives with
  | false =>
    rw [admissionAtRestart_no_drives t h]
    exact ⟨nofun, nofun⟩
  | true =>
    rw [admissionAtRestart_drives t h]
    refine ⟨fun d hd => ?_, fun d hd => ?_⟩
    all_goals obtain ⟨e, he, rfl⟩ := List.mem_map.mp hd
    · rfl
    · exact inDriveOrder_le he

/-- The drives of a full restart have no requests, and none waits or has a window (R167). -/
theorem fullRestart_agreement (k : RestartCause) (b1 b0 : Bool) : AgreementKept s (fullRestart k b1 b0 s) := by
  obtain ⟨himages, hle⟩ := admissionAtRestart_from (fullRestart k b1 b0 s).store.images
  refine .of_unit fun _ => ⟨⟨hle, fun d hd => ?_, fun d hd => ?_⟩, nofun, fun n hn => ?_⟩
  · exact iff_of_false (by simp [Drive.isPending, himages d hd]) nofun
  · exact iff_of_false (by simp [himages d hd]) (windowOf_of_none rfl _)
  · exact absurd hn (windowOf_of_none rfl _)

end

/-! ## Host commands -/

section
variable (s : State)

/-- A command's row keeps the agreement when the command's owner does (R170). -/
theorem runCommand_agreement (k : CommandKind) {own : List Byte → State → Reply × State}
    (hown : ∀ p u, AgreementKept u (own p u).2) : AgreementKept s (runCommand k own s) := by
  have hpop : AgreementKept s (popCommand s) := .of_adm (by simp [popCommand])
  have hfill (r : Reply) (u : State) : AgreementKept u (fillReply r none u) := .of_adm (by simp)
  unfold runCommand
  split
  · unfold execute
    split
    · exact (hpop.trans (hown _ _)).trans (hfill _ _)
    · exact hpop.trans (hfill _ _)
  · exact .refl s

theorem runRestart_agreement (other : List Byte) : AgreementKept s (runRestart other s) := by
  refine .of_adm ?_
  unfold runRestart executeRestart linkRestartTaken fullRestartTaken
  repeat' split
  all_goals simp [popCommand]

/-- A load of DRIVES rebuilds the records, and one of another image leaves the unit alone (R155). -/
theorem ownLoadImage_agreement (p : List Byte) : AgreementKept s (ownLoadImage p s).2 := by
  unfold ownLoadImage
  dsimp only
  split
  · exact .refl s
  · split
    · exact .refl s
    · split
      · exact .refl s
      · split
        · exact .refl s
        · split
          · exact acceptImage_agreement s _ _ _
          · exact .refl s

theorem ownSetFireLevel_agreement (p : List Byte) : AgreementKept s (ownSetFireLevel p s).2 := by
  unfold ownSetFireLevel
  dsimp only
  split <;> exact .of_adm (by simp)

theorem ownSelectGroup_agreement (p : List Byte) : AgreementKept s (ownSelectGroup p s).2 := by
  unfold ownSelectGroup
  dsimp only
  repeat' split
  all_goals exact .of_adm (by simp)

theorem ownSetPermit_agreement (p : List Byte) : AgreementKept s (ownSetPermit p s).2 := by
  unfold ownSetPermit
  repeat' split
  all_goals exact .of_adm (by simp)

theorem ownAckConditions_agreement (p : List Byte) : AgreementKept s (ownAckConditions p s).2 := by
  unfold ownAckConditions
  dsimp only
  split
  · exact .refl s
  · exact .of_adm (by simp [acknowledge])

theorem ownTrip_agreement : AgreementKept s (ownTrip s).2 := .trans (.of_adm (by simp)) (seqTrip_agreement _ _)

theorem ownClose_agreement : AgreementKept s (ownClose s).2 := by
  unfold ownClose
  split
  · exact .refl s
  · split
    · exact .refl s
    · exact .trans (.of_adm (by simp)) (seqMove_agreement _ _ _ _)

theorem judgeReset_agreement : AgreementKept s (judgeReset s).2 := by
  unfold judgeReset
  split
  · exact .refl s
  · split
    · exact .refl s
    · split
      · exact .refl s
      · exact seqMove_agreement s _ _ _

theorem ownResetLockout_agreement : AgreementKept s (ownResetLockout s).2 :=
  .trans (.of_adm (by simp)) (judgeReset_agreement _)

theorem ownStartHunt_agreement (p : List Byte) : AgreementKept s (ownStartHunt p s).2 := by
  unfold ownStartHunt
  split <;> exact .of_adm (by simp)

theorem ownStopHunt_agreement (p : List Byte) : AgreementKept s (ownStopHunt p s).2 := by
  unfold ownStopHunt
  split <;> exact .of_adm (by simp)

theorem ownRequestStart_agreement (p : List Byte) : AgreementKept s (ownRequestStart p s).2 := by
  unfold ownRequestStart
  dsimp only
  split
  · exact .refl s
  · split
    · exact .refl s
    · split
      · exact .refl s
      · next hd =>
        split
        · exact .refl s
        · split
          · exact .refl s
          · next hnone => exact makePending_agreement hd (not_not.mp hnone) 0

theorem ownCancelStart_agreement (p : List Byte) : AgreementKept s (ownCancelStart p s).2 := by
  unfold ownCancelStart
  dsimp only
  split
  · exact .refl s
  · split
    · exact .refl s
    · next hd =>
      split
      · exact .refl s
      · next hp => exact withdrawRequest_agreement _ hd (isPending_iff.mpr ⟨_, _, hp⟩)
      · exact endWindow_agreement _

theorem ownPilotQuery_agreement (p : List Byte) : AgreementKept s (ownPilotQuery p s).2 := by
  refine .of_adm ?_
  unfold ownPilotQuery
  dsimp only
  split
  · rfl
  · split
    · rfl
    · split
      · simp
      · split
        · next hj => simp [joinQueue_frame hj]
        · rfl

end

/-! ## Every command -/

section
variable (s : State)

/-- A row that acts when it is due, and leaves the state alone when it is not. -/
theorem ends_ite_agreement {p : Prop} [Decidable p] {t : State} (h : p → AgreementKept s t) :
    Ends (.next (if p then t else s)) (AgreementKept s) := (ends_next _ _).mpr (.ite h)

/-- A host command's row, by its owner. -/
theorem ends_runCommand_agreement {k : CommandKind} {own : List Byte → State → Reply × State}
    (hown : ∀ p u, AgreementKept u (own p u).2) : Ends (.next (runCommand k own s)) (AgreementKept s) :=
  (ends_next _ _).mpr (runCommand_agreement s k hown)

/-- A row that leaves the admission unit alone. -/
theorem ends_of_adm {t : State} (h : t.adm = s.adm) : Ends (.next t) (AgreementKept s) :=
  (ends_next _ _).mpr (.of_adm h)

/-- A 1 ms event paces the window, and a scanned position may end it (R163, R165). -/
theorem execTimeBaseEvent_agreement (a b r : Bool) : Ends (exec (.timeBaseEvent a b r) s) (AgreementKept s) := by
  have hpaced : AgreementKept s (ticked s) := .of_same ⟨rfl, rfl, Option.map_map ..⟩
  have hready (u : State) : AgreementKept u (scanReady r u) := .of_adm (by simp)
  rw [execTimeBaseEvent_eq, ends_next]
  exact (hpaced.trans (scanPosition_agreement _ _ _)).trans (hready _)

theorem execDownMessageEnd_agreement : Ends (execDownMessageEnd s) (AgreementKept s) := by
  have hsettled (u : State) : AgreementKept u (settle u) := .of_adm (by simp)
  refine ends_ite_agreement s fun _ => ?_
  dsimp only
  split
  · exact ((endMessage_agreement s).trans (arbitrate_agreement _)).trans (hsettled _)
  · exact endMessage_agreement s

theorem execSlotEvent_agreement (up : BitVec 32) : Ends (execSlotEvent up s) (AgreementKept s) := by
  have hsettled (u : State) : AgreementKept u (settle u) := .of_adm (by simp)
  exact ends_ite_agreement s fun _ => .trans (.of_adm (by simp)) ((arbitrate_agreement _).trans (hsettled _))

theorem closeDelivery_agreement : AgreementKept s (closeDelivery s) := .of_adm (by simp)

theorem execStartRequest_agreement : Ends (execStartRequest s) (AgreementKept s) := by
  rw [execStartRequest, ends_next]
  split
  · exact .trans (.of_adm (by simp)) ((admStartRequest_agreement _ _).trans (closeDelivery_agreement _))
  · exact .refl s

theorem execStartDone_agreement : Ends (execStartDone s) (AgreementKept s) := by
  rw [execStartDone, ends_next]
  split
  · exact .trans (.of_adm (by simp)) ((admStartDone_agreement _ _).trans (closeDelivery_agreement _))
  · exact .refl s

theorem execStartAbandon_agreement : Ends (execStartAbandon s) (AgreementKept s) := by
  rw [execStartAbandon, ends_next]
  split
  · exact .trans (.of_adm (by simp)) ((admStartAbandon_agreement _ _).trans (closeDelivery_agreement _))
  · exact .refl s

/-- A delivery of another message leaves the admission unit alone. -/
theorem execStatus_agreement : Ends (execStatus s) (AgreementKept s) := by
  refine ends_of_adm s ?_
  split <;> simp

theorem execSwitchDone_agreement : Ends (execSwitchDone s) (AgreementKept s) := by
  refine ends_of_adm s ?_
  split <;> simp

theorem execBackingWriteCompletion_agreement (b : Bool) :
    Ends (execBackingWriteCompletion b s) (AgreementKept s) := by
  refine ends_of_adm s ?_
  dsimp only
  split
  · rfl
  · split <;> simp

theorem execPollTimerExpiry_agreement : Ends (execPollTimerExpiry s) (AgreementKept s) := by
  refine ends_ite_agreement s fun _ => .of_adm ?_
  dsimp only
  split
  · split <;> simp
  · simp

theorem execReplyWaitExpiry_agreement (a : Nat) : Ends (execReplyWaitExpiry a s) (AgreementKept s) := by
  refine ends_of_adm s ?_
  split
  · split <;> simp
  · rfl

theorem execSwitchWaitExpiry_agreement : Ends (execSwitchWaitExpiry s) (AgreementKept s) := by
  refine ends_ite_agreement s fun _ => .of_adm ?_
  split <;> simp

theorem execWholeSecondBoundary_agreement : Ends (execWholeSecondBoundary s) (AgreementKept s) := by
  have hcounted : AgreementKept s (afterRestoration (s.setDue { s.due with second := false })) :=
    .trans (.of_adm (by simp)) (afterRestoration_agreement _)
  refine ends_ite_agreement s fun _ => ?_
  dsimp only
  split
  · next hd => exact hcounted.trans (openWindow_agreement _ hd)
  · exact hcounted

theorem execRequestLifetimeExpiry_agreement (n : Nat) : Ends (execRequestLifetimeExpiry n s) (AgreementKept s) := by
  rw [execRequestLifetimeExpiry, ends_next]
  split
  · next d hd =>
    refine .ite fun hdue => (dropPending_agreement hd ?_).trans (startReport_agreement _ _ _ _ _)
    unfold lifetimeDue at hdue
    split at hdue
    · next hp => exact isPending_iff.mpr ⟨_, _, hp⟩
    · cases hdue
    · cases hdue
  · exact .refl s

theorem execHostRecordArrival_agreement : Ends (execHostRecordArrival s) (AgreementKept s) := by
  refine ends_of_adm s ?_
  split <;> simp

theorem execTransmissionEnd_agreement : Ends (execTransmissionEnd s) (AgreementKept s) := by
  refine ends_of_adm s ?_
  split <;> simp

/-- Every command keeps the agreement. -/
theorem exec_agreement (c : Instr) : Ends (exec c s) (AgreementKept s) := by
  cases c with
  | fullRestart k b1 b0 =>
    exact (ends_next _ _).mpr ((fullRestart_agreement s (causeOf k) b1 b0).trans (.of_adm (by simp)))
  | fullRestartByCommand b1 b0 => exact ends_ite_agreement s fun _ => fullRestart_agreement s _ _ _
  | timeBaseEvent a b r => exact execTimeBaseEvent_agreement s a b r
  | sampleSetArrival n f => exact ends_ite_agreement s fun _ => acceptSet_agreement s _
  | lossDeclared => exact ends_ite_agreement s fun _ => .of_adm (by simp)
  | tripTimerExpiry => exact ends_ite_agreement s fun _ => tripTimeout_agreement s
  | closeTimerExpiry =>
    exact ends_ite_agreement s fun _ => .trans (.of_adm (by simp)) (.ite fun _ => seqMove_agreement _ _ _ _)
  | deadTimerExpiry => exact ends_ite_agreement s fun _ => deadTimeEnds_agreement s
  | holdExceeded | reclaimTimerExpiry => exact ends_ite_agreement s fun _ => seqMove_agreement s _ _ _
  | scanEvent =>
    have hset (u : State) (v : Store) : AgreementKept u (u.setStore v) := .of_adm (by simp)
    exact ends_ite_agreement s fun _ => .trans (.of_adm (by simp)) ((endCheck_agreement _).trans (hset _ _))
  | backingWriteCompletion b => exact execBackingWriteCompletion_agreement s b
  | fireLevelExpiry => exact ends_ite_agreement s fun _ => .of_adm (by simp)
  | slotEvent up => exact execSlotEvent_agreement s up
  | takeTimeout | holdingTimeout | refusingEnd | coolDownEnd => exact ends_ite_agreement s fun _ => .of_adm (by simp)
  | downMessageEnd => exact execDownMessageEnd_agreement s
  | status => exact execStatus_agreement s
  | switchDone => exact execSwitchDone_agreement s
  | startRequest => exact execStartRequest_agreement s
  | startDone => exact execStartDone_agreement s
  | startAbandon => exact execStartAbandon_agreement s
  | pollTimerExpiry => exact execPollTimerExpiry_agreement s
  | replyWaitExpiry a => exact execReplyWaitExpiry_agreement s a
  | switchWaitExpiry => exact execSwitchWaitExpiry_agreement s
  | dwellExpiry | settlingEnd => exact ends_ite_agreement s fun _ => .of_adm (by simp)
  | wholeSecondBoundary => exact execWholeSecondBoundary_agreement s
  | requestLifetimeExpiry n => exact execRequestLifetimeExpiry_agreement s n
  | startWindowExpiry => exact ends_ite_agreement s fun _ => endWindow_agreement _
  | hostRecordArrival => exact execHostRecordArrival_agreement s
  | receiveTimeout | transmissionStart => exact ends_ite_agreement s fun _ => .of_adm (by simp)
  | transmissionEnd => exact execTransmissionEnd_agreement s
  | hostByteReceived b => exact ends_of_adm s (by simp)
  | echo => exact ends_runCommand_agreement s fun _ u => .refl u
  | readStatus => exact ends_runCommand_agreement s fun p u => (ownReadStatus_state p u).symm ▸ .refl u
  | readMeasure => exact ends_runCommand_agreement s fun _ u => .refl u
  | readImage => exact ends_runCommand_agreement s fun p u => (ownReadImage_state p u).symm ▸ .refl u
  | loadImage => exact ends_runCommand_agreement s fun p u => ownLoadImage_agreement u p
  | checkImages => exact ends_runCommand_agreement s fun _ u => fullPass_agreement u
  | setFireLevel => exact ends_runCommand_agreement s fun p u => ownSetFireLevel_agreement u p
  | selectGroup => exact ends_runCommand_agreement s fun p u => ownSelectGroup_agreement u p
  | trip => exact ends_runCommand_agreement s fun _ u => ownTrip_agreement u
  | close => exact ends_runCommand_agreement s fun _ u => ownClose_agreement u
  | resetLockout => exact ends_runCommand_agreement s fun _ u => ownResetLockout_agreement u
  | setPermit => exact ends_runCommand_agreement s fun p u => ownSetPermit_agreement u p
  | ackConditions => exact ends_runCommand_agreement s fun p u => ownAckConditions_agreement u p
  | startHunt => exact ends_runCommand_agreement s fun p u => ownStartHunt_agreement u p
  | stopHunt => exact ends_runCommand_agreement s fun p u => ownStopHunt_agreement u p
  | requestStart => exact ends_runCommand_agreement s fun p u => ownRequestStart_agreement u p
  | cancelStart => exact ends_runCommand_agreement s fun p u => ownCancelStart_agreement u p
  | pilotQuery => exact ends_runCommand_agreement s fun p u => ownPilotQuery_agreement u p
  | setReportMask => exact ends_runCommand_agreement s fun _ u => .of_adm (by simp [ownSetReportMask])
  | restartLink | restartFull => exact (ends_next _ _).mpr (runRestart_agreement s _)

end

/-- Settles O59: the front command keeps the agreement, and the queue of commands is no part of it. -/
theorem stepKeepsAdmissionInAgreement : Obligations.StepKeepsAdmissionInAgreement := by
  intro s t hs e
  unfold step at e
  split at e
  · cases e
    exact hs
  · next c rest _ => exact exec_agreement (s.setPending rest) c t e hs

end Sys2Proof.Machine

/-! PROOFS. The manual operations: CLOSE (R71, R75, R96, R99), with the end of a window that finds the sequencer in
CLOSING (R89, R143, R165). -/

namespace Sys2Proof.Machine

/-! ## The end of a window in CLOSING -/

/-- The admission unit and the down queue at a window's end: the drive's record, then the GRANT, then the window (R165). -/
def windowSettled (k : StartCause) (w : StartWindow) (s : State) : State :=
  let u := settleGrant w (callsForRelease k) (updateDrive w.drive (windowEnded k) s)
  u.setAdm { u.adm with window := none }

/-- A window's end in its parts: what the unit settles, the hunt that waited, and the report (R143, R165, R166). -/
theorem endWindow_eq {s : State} {w : StartWindow} (hw : s.adm.window = some w) (k : StartCause) :
    endWindow k s =
      startReport w.drive .ended (some k) none (some (w.loaded, elapsed s.time w.opened))
        (huntWindowClosed (windowSettled k w s)) := by
  rw [endWindow, hw]
  rfl

section
variable {s : State} (hm : MonitorConsistent s)
include hm

/-- The report of a fall brings no hard reason, so it withdraws no close (R73, R102). -/
theorem ownerReport_fall_brk (d : Cond) : (ownerReport d false s).brk = s.brk := by
  obtain ⟨hhard, -⟩ := blockSet_of_consistent hm
  unfold ownerReport
  split
  · rfl
  · simpa [reportCondition] using adoptRecords_brk_of_no_arrival (hhard ▸ not_arrives_of_fall s.mon.recs d)

theorem finishHunt_idle_brk (r : LastResult) (l : List StepRecord) : (finishHunt r l .idle s).brk = s.brk := by
  refine (ownerReport_fall_brk ?_ _).trans ?_
  · simpa [MonitorConsistent] using hm
  · simp

variable (h : s.seq.state = .closing)
include h

/-- In CLOSING a deferred hunt fails its tests, and HUNT_ACTIVE falls (R141, R143). -/
theorem huntWindowClosed_of_closing : (huntWindowClosed s).seq = s.seq ∧ (huntWindowClosed s).brk = s.brk := by
  have htests : huntTests s ≠ none := by
    have hready : s.seq.state ≠ .ready := by simp [h]
    unfold huntTests
    rw [if_pos hready]
    repeat' split
    all_goals nofun
  unfold huntWindowClosed
  split
  · split
    · next hnone => exact absurd hnone htests
    · exact ⟨finishHunt_idle_of_closing hm h _ _, finishHunt_idle_brk hm _ _⟩
  · exact ⟨rfl, rfl⟩

theorem endWindow_of_closing (k : StartCause) : (endWindow k s).seq = s.seq ∧ (endWindow k s).brk = s.brk := by
  cases hw : s.adm.window with
  | none =>
    rw [endWindow_of_no_window hw]
    exact ⟨rfl, rfl⟩
  | some w =>
    obtain ⟨hmon, hseq, hbrk⟩ : (windowSettled k w s).mon = s.mon ∧ (windowSettled k w s).seq = s.seq ∧
        (windowSettled k w s).brk = s.brk := by simp [windowSettled, updateDrive]
    obtain ⟨hseq', hbrk'⟩ := huntWindowClosed_of_closing (s := windowSettled k w s)
      (by simpa [MonitorConsistent, hmon] using hm) (by rw [hseq, h])
    rw [endWindow_eq hw]
    simp [hseq', hbrk', hseq, hbrk]

end

/-- A move into CLOSING gives the record, and leaves the close that has been asserted (R89, R96). -/
theorem seqMove_into_closing {r : Sequencer} {s : State} (hm : MonitorConsistent s) (hr : r.state = .closing)
    (e : SeqEvent) (o : Option ChangeOrigin) : (seqMove r e o s).seq = r ∧ (seqMove r e o s).brk = s.brk := by
  have hseq : (seqTo r e o s).seq = r := seqTo_seq _ _ _ _
  unfold seqMove
  split
  · obtain ⟨hseq', hbrk'⟩ := endWindow_of_closing (s := seqTo r e o s) (by simpa [MonitorConsistent] using hm)
      (by rw [hseq, hr]) .tripped
    exact ⟨hseq'.trans hseq, by simpa using hbrk'⟩
  · exact ⟨hseq, by simp⟩

/-! ## The guards -/

section
variable {s : State}

theorem closeGuards_of_state (hready : s.seq.state ≠ .ready) (hlock : s.seq.state ≠ .lockout) :
    closeGuards s = some (refusedFor .state (.seqState s.seq.state)) := by
  simp [closeGuards, closeContent, hready, hlock]

variable (hstate : s.seq.state = .ready ∨ s.seq.state = .lockout)
include hstate

theorem not_refused_for_state : ¬ (s.seq.state ≠ .ready ∧ s.seq.state ≠ .lockout) := by
  rcases hstate with h | h <;> simp [h]

theorem closeGuards_of_position (hacc : s.brk.accepted ≠ .opened) :
    closeGuards s = some (refusedFor .notOpen (.seqState s.seq.state)) := by
  rw [closeGuards, if_neg (not_refused_for_state hstate), if_pos hacc, closeContent]

variable (hacc : s.brk.accepted = .opened)
include hacc

theorem closeGuards_of_hard {x : Cond} {l : List Cond} (hhard : s.mon.hard = x :: l) :
    closeGuards s = some (refusedBy .hardBlock x (.seqState s.seq.state)) := by
  rw [closeGuards, if_neg (not_refused_for_state hstate)]
  simp [hacc, hhard, lowest, closeContent]

variable (hhard : s.mon.hard = [])
include hhard

theorem closeGuards_of_hold {x : Cond} {l : List Cond} (hhold : s.mon.hold = x :: l) :
    closeGuards s = some (refusedBy .hold x (.seqState s.seq.state)) := by
  rw [closeGuards, if_neg (not_refused_for_state hstate)]
  simp [hacc, hhard, hhold, lowest, closeContent]

variable (hhold : s.mon.hold = [])
include hhold

theorem closeGuards_of_not_ready (hready : s.brk.ready ≠ .active) :
    closeGuards s = some (refusedFor .mechanismNotReady (.seqState s.seq.state)) := by
  rw [closeGuards, if_neg (not_refused_for_state hstate)]
  simp [hacc, hhard, hhold, hready, closeContent]

theorem closeGuards_of_passed (hready : s.brk.ready = .active) : closeGuards s = none := by
  rw [closeGuards, if_neg (not_refused_for_state hstate)]
  simp [hacc, hhard, hhold, hready]

end

/-! ## CLOSE -/

/-- The state after a manual close with every guard passed (R96). -/
def manuallyClosed (s : State) : State :=
  seqMove (enterManualClosing s.seq) .manualClose none (assertClose .manual s)

section
variable {s : State}

theorem ownClose_of_refused {r : Reply} (h : closeGuards s = some r) : ownClose s = (r, s) := by
  rw [ownClose, h]

theorem ownClose_of_passed (hguards : closeGuards s = none) (hjudge : closeJudgement s = none) :
    ownClose s = (okReply (.seqState (manuallyClosed s).seq.state), manuallyClosed s) := by
  rw [ownClose, hguards, hjudge]
  simp only [closeRequest, hjudge, if_true]
  rfl

theorem manuallyClosed_holds (hm : MonitorConsistent s) :
    (manuallyClosed s).seq = enterManualClosing s.seq ∧ (manuallyClosed s).brk = (assertClose .manual s).brk :=
  seqMove_into_closing (s := assertClose .manual s) hm rfl _ _

theorem manuallyClosed_frame (s : State) :
    SameClock s (manuallyClosed s) ∧ SameSettings s (manuallyClosed s) ∧ SameLine s (manuallyClosed s) ∧
      (manuallyClosed s).prot = s.prot := by
  simp [SameClock, SameSettings, SameLine, manuallyClosed, assertClose]

/-- The SEQUENCE report of a manual close (R99). -/
def closeReport (s : State) : SequenceReport where
  time := s.time
  previous := s.seq.state
  state := .closing
  event := .manualClose
  shots := 4
  loaded := none
  cause := none
  breaker := .opened
  origin := none
  group := s.regime.active
  revision := s.settings.revision

theorem sequenceReport_of_close (hacc : s.brk.accepted = .opened) :
    sequenceReport s.seq.state .manualClose none ((assertClose .manual s).setSeq (enterManualClosing s.seq)) =
      closeReport s := by
  rw [closeReport, ← hacc]
  rfl

/-- Without a start window the close moves the breaker interface, the sequencer and the reports (R96, R99). -/
theorem manuallyClosed_of_no_window (hstate : s.seq.state = .ready ∨ s.seq.state = .lockout)
    (hacc : s.brk.accepted = .opened) (hwindow : s.adm.window = none) :
    manuallyClosed s =
      { s with
        brk := (assertClose .manual s).brk
        seq := enterManualClosing s.seq
        host := (addReport (.sequence (closeReport s)) s).host } := by
  have hchange : (enterManualClosing s.seq).state ≠ (assertClose .manual s).seq.state := by
    rcases hstate with h | h <;> simp [enterManualClosing, assertClose, h]
  rw [manuallyClosed, seqMove_of_no_window (by exact hwindow), seqTo_of_change hchange,
    addReport_eq (s := s) (t := assertClose .manual s) rfl rfl, ← sequenceReport_of_close hacc]
  rfl

end

/-- A report joins the queue alike before and after a command leaves its own queue (R170, R172). -/
theorem addReport_withCommands (r : Report) (rest : List Command) (s : State) :
    addReport r (withCommands rest s) = withCommands rest (addReport r s) := by
  unfold addReport placeReport reportEnabled
  by_cases henabled : s.host.mask.getLsbD (reportBit r) = true
  · by_cases hroom : s.host.reports.length < 32
    · simp [withCommands, State.setHost, henabled, hroom]
    · simp only [henabled, hroom, withCommands_host, if_true, if_false]
      rfl
  · simp [withCommands, henabled]

theorem exec_close_head {c : Command} {rest : List Command} {s : State} (h : HeadIs .close c rest s)
    (hpayload : c.payload = []) :
    exec .close s =
      .next (fillReply (ownClose (withCommands rest s)).1 none (ownClose (withCommands rest s)).2) :=
  congrArg Host.Outcome.next (runCommand_head (fun _ => ownClose) h (by rw [hpayload]; rfl))

theorem close_refused {c : Command} {rest : List Command} {s : State} {r : Reply} (h : HeadIs .close c rest s)
    (hpayload : c.payload = []) (hguards : closeGuards s = some r) :
    exec .close s = .next { s with host := s.host.afterReply r none rest } := by
  rw [exec_close_head h hpayload, ownClose_of_refused (s := withCommands rest s) (by exact hguards),
    fillReply_withCommands]

/-- Settles O43: the owner asserts CLOSE_OUT and moves the sequencer, or its first failing guard replies. -/
theorem closeCommandIsJudged : Obligations.CloseCommandIsJudged := by
  refine ⟨fun c rest s hhead hpayload hm hstate hacc hhard hhold hready htrip hclose => ?_,
    fun c rest s hhead hpayload r hcases => close_refused hhead hpayload ?_⟩
  · have hown := ownClose_of_passed (s := withCommands rest s) (closeGuards_of_passed hstate hacc hhard hhold hready)
      (closeJudgement_of_passed htrip hhard hacc hclose)
    obtain ⟨hseq, hbrk⟩ := manuallyClosed_holds (s := withCommands rest s) hm
    obtain ⟨hclock, hsettings, hline, hprot⟩ := manuallyClosed_frame (withCommands rest s)
    rw [hseq] at hown
    refine ⟨_, exec_close_head hhead hpayload, ?_⟩
    rw [hown]
    refine ⟨hbrk, hseq, fun hwindow => ⟨_, rfl, ?_⟩, replied_of_line hline _, hclock, hsettings, hprot⟩
    rw [manuallyClosed_of_no_window (s := withCommands rest s) hstate hacc hwindow, addReport_withCommands]
    rfl
  · rcases hcases with ⟨h1, h2, rfl⟩ | ⟨h1, h2, rfl⟩ | ⟨x, l, h1, h2, h3, rfl⟩ | ⟨x, l, h1, h2, h3, h4, rfl⟩ |
      ⟨h1, h2, h3, h4, h5, rfl⟩
    · exact closeGuards_of_state h1 h2
    · exact closeGuards_of_position h1 h2
    · exact closeGuards_of_hard h1 h2 h3
    · exact closeGuards_of_hold h1 h2 h3 h4
    · exact closeGuards_of_not_ready h1 h2 h3 h4 h5

end Sys2Proof.Machine

/-! PROOFS. REQUEST_START (R158, R166) and CANCEL_START (R159, R164 to R166). -/

namespace Sys2Proof.Machine

/-! ## The START report and the messages of the unit, in full -/

/-- The START report of a drive that has its record joins the reports, after what left the record interface alone
(R166). -/
theorem startReport_host {s u : State} {n : Nat} {x : Drive} (hhost : u.host = s.host) (htime : u.time = s.time)
    (hstore : u.store = s.store) (hx : findDrive u n = some x) (e : StartEvent) (c : Option StartCause)
    (so : Option Nat) (w : Option (Nat × Nat)) :
    (startReport n e c so w u).host =
      (addReport
        (.start
          { time := s.time, drive := n, event := e, cause := c, source := so, level := some x.level,
            request := some x.request, requirement := some (requirement s.plant x), quiet := u.adm.quiet,
            window := w }) s).host := by
  rw [startReport, addReport_eq hhost htime, htime, hx, State.plant, hstore]
  rfl

/-- With nothing outstanding and its place free a RELEASE joins the down queue (R122, R164). -/
theorem queueRelease_of_free {s : State} {n a : Nat} (hout : s.adm.outstanding = none)
    (hfree : keptFree s.pilot.queue .admission = true) :
    queueRelease n a s =
      (s.setPilot
        { s.pilot with queue := s.pilot.queue ++ [{ msg := releaseMessage a n, kept := true }] }).setAdm
        { s.adm with
          outstanding := some { kind := .release, drive := n, station := a, inFlight := false, stale := false } } := by
  rw [queueRelease, hout, joinQueue_kept (m := releaseMessage a n) (.inr rfl) hfree]
  rfl

/-- A settled GRANT makes no report, unless its RELEASE finds no place (R164). -/
theorem settleGrant_host {w : StartWindow} {s : State} (b : Bool)
    (h : w.grant ≠ .delivered ∨ s.adm.outstanding = none ∧ keptFree s.pilot.queue .admission = true) :
    (settleGrant w b s).host = s.host := by
  unfold settleGrant
  split
  · rfl
  · rfl
  · simp
  · rfl
  · next hgrant =>
    obtain ⟨hout, hfree⟩ := h.resolve_left (not_not.mpr hgrant)
    split
    · rw [queueRelease_of_free hout hfree]
      rfl
    · rfl

theorem findDrive_windowSettled (k : StartCause) (w : StartWindow) (s : State) :
    findDrive (windowSettled k w s) w.drive = (findDrive s w.drive).map (windowEnded k) := by
  obtain ⟨hdrives, -⟩ := settleGrant_records w (callsForRelease k) (updateDrive w.drive (windowEnded k) s)
  refine (findDrive_congr (s := updateDrive w.drive (windowEnded k) s) hdrives _).trans ?_
  rw [findDrive_updateDrive (f := windowEnded k) (fun _ h => h), if_pos rfl]

/-- A window's end with no hunt waiting and a place for its RELEASE reports ENDED alone (R166). -/
theorem endWindow_host {s : State} {w : StartWindow} {d : Drive} (hw : s.adm.window = some w)
    (hd : findDrive s w.drive = some d) (hwait : s.hunt.state ≠ .deferred)
    (hplace : w.grant ≠ .delivered ∨ s.adm.outstanding = none ∧ keptFree s.pilot.queue .admission = true)
    (k : StartCause) :
    (endWindow k s).host =
      (addReport
        (.start
          { time := s.time, drive := w.drive, event := .ended, cause := some k, source := none,
            level := some (windowEnded k d).level, request := some .none,
            requirement := some (requirement s.plant (windowEnded k d)), quiet := s.adm.quiet,
            window := some (w.loaded, elapsed s.time w.opened) }) s).host := by
  have hhost : (windowSettled k w s).host = s.host :=
    settleGrant_host (s := updateDrive w.drive (windowEnded k) s) _ hplace
  have hfound : findDrive (windowSettled k w s) w.drive = some (windowEnded k d) := by
    rw [findDrive_windowSettled, hd]
    rfl
  have hquiet : (windowSettled k w s).adm.quiet = s.adm.quiet := by simp [windowSettled, updateDrive]
  rw [endWindow_eq hw, huntWindowClosed_of_not_deferred (by simp [windowSettled, updateDrive, hwait]),
    startReport_host hhost (by simp [windowSettled, updateDrive]) (by simp [windowSettled, updateDrive]) hfound, hquiet]
  rfl

/-- With its RELEASE due and its place free, a delivered window's end puts the RELEASE in the down queue (R164). -/
theorem endWindow_released {s : State} {w : StartWindow} (hw : s.adm.window = some w) (hgrant : w.grant = .delivered)
    (hout : s.adm.outstanding = none) (hfree : keptFree s.pilot.queue .admission = true)
    (hwait : s.hunt.state ≠ .deferred) {k : StartCause} (hk : callsForRelease k = true) :
    (endWindow k s).adm.outstanding =
        some { kind := .release, drive := w.drive, station := w.station, inFlight := false, stale := false } ∧
      (endWindow k s).pilot =
        { s.pilot with queue := s.pilot.queue ++ [{ msg := releaseMessage w.station w.drive, kept := true }] } := by
  have hsettled : settleGrant w (callsForRelease k) (updateDrive w.drive (windowEnded k) s) =
      queueRelease w.drive w.station (updateDrive w.drive (windowEnded k) s) := by
    rw [settleGrant, hgrant, hk]
    rfl
  rw [endWindow_adm hw, endWindow_pilot_of_not_deferred hw _ hwait, hsettled]
  exact queueRelease_sent (s := updateDrive w.drive (windowEnded k) s) hout hfree

/-! ## The two judgements -/

section
variable {n : Byte} {d : Drive} {s : State} (hn : n.toNat ≤ 7) (hd : findDrive s n.toNat = some d)
include hn hd

theorem ownRequestStart_of_none (husable : usable s.store.images.drives = true) (h0 : d.station = 0)
    (hnone : d.request = .none) :
    ownRequestStart [n] s =
      (okReply (.startPending false d.level (requirement s.plant d) s.adm.quiet), makePending d 0 s) := by
  simp [ownRequestStart, u8, Nat.not_lt.mpr hn, drivesUsable, husable, hd, h0, hnone]

theorem ownRequestStart_of_pending (husable : usable s.store.images.drives = true) (h0 : d.station = 0)
    (hsome : d.request ≠ .none) :
    ownRequestStart [n] s = (okReply (.startPending true d.level (requirement s.plant d) s.adm.quiet), s) := by
  simp [ownRequestStart, u8, Nat.not_lt.mpr hn, drivesUsable, husable, hd, h0, hsome]

theorem ownCancelStart_of_none (hnone : d.request = .none) :
    ownCancelStart [n] s = (refusedFor .notPending (.startCancelled .none d.level), s) := by
  simp [ownCancelStart, u8, Nat.not_lt.mpr hn, hd, hnone]

theorem ownCancelStart_of_pending {arrival deadline : Time} (hp : d.request = .pending arrival deadline) :
    ownCancelStart [n] s =
      (okReply (.startCancelled .none d.level), withdrawRequest .cancelled s n.toNat) := by
  have hfound : findDrive (withdrawRequest .cancelled s n.toNat) n.toNat = some { d with request := .none } := by
    have hdrive := findDrive_drive hd
    rw [withdrawRequest, findDrive_congr (s := dropPending n.toNat s) (by simp), ← hdrive,
      findDrive_dropPending (hdrive ▸ hd)]
  simp [ownCancelStart, cancelledReply, u8, Nat.not_lt.mpr hn, hd, hp, hfound]

theorem ownCancelStart_of_window {w : StartWindow} (hr : d.request = .window) (hw : s.adm.window = some w)
    (hdrive : w.drive = n.toNat) :
    ownCancelStart [n] s = (okReply (.startCancelled .none .lowered), endWindow .cancelled s) := by
  have hfound : findDrive (endWindow .cancelled s) n.toNat = some (windowEnded .cancelled d) := by
    rw [findDrive_endWindow hw, if_pos hdrive.symm, hd]
    rfl
  simp [ownCancelStart, cancelledReply, u8, Nat.not_lt.mpr hn, hd, hr, hfound, windowEnded, lowersLevel]

end

/-! ## The two commands -/

section
variable {c : Command} {rest : List Command} {s : State} {n : Byte} {r : Reply}

theorem exec_requestStart_head {u : State} (h : HeadIs .requestStart c rest s) (hp : c.payload = [n])
    (hown : ownRequestStart [n] (withCommands rest s) = (r, u)) : exec .requestStart s = .next (fillReply r none u) := by
  have hrun := runCommand_head ownRequestStart h (by rw [hp]; rfl)
  rw [hp, hown] at hrun
  exact congrArg Host.Outcome.next hrun

theorem exec_cancelStart_head {u : State} (h : HeadIs .cancelStart c rest s) (hp : c.payload = [n])
    (hown : ownCancelStart [n] (withCommands rest s) = (r, u)) : exec .cancelStart s = .next (fillReply r none u) := by
  have hrun := runCommand_head ownCancelStart h (by rw [hp]; rfl)
  rw [hp, hown] at hrun
  exact congrArg Host.Outcome.next hrun

end

theorem makePending_host {s : State} {d : Drive} (hd : findDrive s d.drive = some d) (a : Nat) :
    (makePending d a s).host =
      (addReport
        (.start
          { time := s.time, drive := d.drive, event := .requested, cause := none, source := some a,
            level := some d.level, request := some (pendingFrom s.time d).request,
            requirement := some (requirement s.plant d), quiet := s.adm.quiet, window := none }) s).host := by
  have hfound : findDrive (updateDrive d.drive (pendingFrom s.time) s) d.drive = some (pendingFrom s.time d) := by
    rw [findDrive_updateDrive (f := pendingFrom s.time) (fun _ h => h), if_pos rfl, hd]
    rfl
  let u := updateDrive d.drive (pendingFrom s.time) s
  exact startReport_host (u := u.setAdm { u.adm with queue := u.adm.queue ++ [d.drive] }) (s := s) rfl rfl rfl hfound
    .requested none (some a) none

theorem withdrawRequest_host {s : State} {d : Drive} (hd : findDrive s d.drive = some d) (k : StartCause) :
    (withdrawRequest k s d.drive).host =
      (addReport
        (.start
          { time := s.time, drive := d.drive, event := .withdrawn, cause := some k, source := none,
            level := some d.level, request := some .none, requirement := some (requirement s.plant d),
            quiet := s.adm.quiet, window := none }) s).host :=
  startReport_host (u := dropPending d.drive s) (s := s) rfl rfl rfl (findDrive_dropPending hd) .withdrawn (some k) none
    none

/-- What an owner makes of the admission unit and of the reports stands after its reply (R170). -/
theorem replied_adm {u : State} (r : Reply) : (fillReply r none u).adm = u.adm := by simp

theorem replied_reports {u s : State} {rest : List Command} {x : Report} (r : Reply)
    (h : u.host = (addReport x (withCommands rest s)).host) :
    (fillReply r none u).host.reports = (addReport x s).host.reports := by
  rw [addReport_withCommands] at h
  simp [h]

/-- Settles O41: the owner answers on the state without the command, and its reply takes the command's place. -/
theorem hostRequestsAndCancels : Obligations.HostRequestsAndCancels := by
  intro c rest n d s hp hn hd
  have hdrive := findDrive_drive hd
  have hd' : findDrive (withCommands rest s) n.toNat = some d := hd
  have hfound : findDrive (withCommands rest s) d.drive = some d := hdrive ▸ hd
  refine ⟨fun hhead husable h0 hnone => ?_, fun hhead husable h0 hsome => ?_,
    fun w hhead hr hw hwd => ?_, fun arrival deadline hhead hpend => ?_, fun hhead hnone => ?_⟩
  · refine ⟨_, exec_requestStart_head hhead hp (ownRequestStart_of_none hn hd' husable h0 hnone), ?_,
      replied_of_line (by simp [SameLine]) _, ?_, by simp [SameClock, SameSettings]⟩
    · rw [replied_adm, makePending_adm, hdrive]
      rfl
    · rw [← hdrive]
      exact replied_reports _ (makePending_host hfound 0)
  · rw [exec_requestStart_head hhead hp (ownRequestStart_of_pending hn hd' husable h0 hsome), fillReply_withCommands]
    rfl
  · have hwfound : findDrive (withCommands rest s) w.drive = some d := hwd ▸ hd
    have hw' : (withCommands rest s).adm.window = some w := hw
    obtain ⟨hdrives, hqueue⟩ := endWindow_records hw' .cancelled
    refine ⟨_, exec_cancelStart_head hhead hp (ownCancelStart_of_window hn hd' hr hw' hwd), ?_, ?_, ?_, ?_,
      replied_of_line (by simp [SameLine]) _, fun hgrant hout hfree hwait => ?_, fun hplace hwait => ?_,
      by simp [SameClock, SameSettings]⟩
    · simp
    · simp
    · rw [replied_adm, hqueue]
      rfl
    · rw [replied_adm, hdrives, hwd]
      rfl
    · simpa using endWindow_released hw' hgrant hout hfree hwait (k := .cancelled) rfl
    · rw [← hwd]
      exact replied_reports _ (endWindow_host hw' hwfound hwait hplace .cancelled)
  · refine ⟨_, exec_cancelStart_head hhead hp (ownCancelStart_of_pending hn hd' hpend), ?_,
      replied_of_line (by simp [SameLine]) _, ?_, by simp [SameClock, SameSettings]⟩
    · simp [withdrawRequest, dropPending, updateDrive]
    · rw [← hdrive]
      exact replied_reports _ (withdrawRequest_host hfound .cancelled)
  · rw [exec_cancelStart_head hhead hp (ownCancelStart_of_none hn hd' hnone), fillReply_withCommands]

end Sys2Proof.Machine

/-! PROOFS. The whole-second boundary: the second counted and the levels restored (R161, R162), the drive admitted
(R162), and the window opened (R122, R163, R166). -/

namespace Sys2Proof.Machine

/-! ## The counting and the restoration -/

/-- The counter after the second that a boundary ends (R161). -/
def countedQuiet (a : Admission) : Nat :=
  match a.second with
  | .quiet => min 255 (a.quiet + 1)
  | .spoiled => a.quiet
  | .empty => 0

theorem afterRestoration_adm (s : State) :
    (afterRestoration s).adm =
      { s.adm with
        quiet := countedQuiet s.adm
        second := .empty
        drives :=
          if usable s.store.images.drives = true then s.adm.drives.map (restoreLevel s.plant (countedQuiet s.adm))
          else s.adm.drives } := by
  unfold afterRestoration drivesUsable
  split
  · rfl
  · rfl

/-- Counting and restoring reach the admission unit alone. -/
theorem afterRestoration_eq (s : State) : afterRestoration s = s.setAdm (afterRestoration s).adm := by
  unfold afterRestoration
  dsimp only
  split <;> rfl

/-- The state in which a boundary looks for the drive that starts: its mark taken, the second counted, the levels restored. -/
def boundaryCounted (s : State) : State := afterRestoration (s.setDue { s.due with second := false })

/-- A boundary reaches its mark and the admission unit alone until a drive is admitted. -/
@[simp] theorem boundaryCounted_frame (s : State) :
    (boundaryCounted s).time = s.time ∧ (boundaryCounted s).port = s.port ∧ (boundaryCounted s).meas = s.meas ∧
    (boundaryCounted s).prot = s.prot ∧ (boundaryCounted s).store = s.store ∧
    (boundaryCounted s).regime = s.regime ∧ (boundaryCounted s).brk = s.brk ∧ (boundaryCounted s).seq = s.seq ∧
    (boundaryCounted s).mon = s.mon ∧ (boundaryCounted s).pilot = s.pilot ∧ (boundaryCounted s).hunt = s.hunt ∧
    (boundaryCounted s).host = s.host := by
  simp [boundaryCounted]

/-- Of the admission unit a boundary counts the second and moves levels; requests, window and message stand. -/
theorem boundaryCounted_adm (s : State) :
    (boundaryCounted s).adm.second = .empty ∧ (boundaryCounted s).adm.queue = s.adm.queue ∧
      (boundaryCounted s).adm.outstanding = s.adm.outstanding := by
  rw [boundaryCounted, afterRestoration_adm]
  exact ⟨rfl, rfl, rfl⟩

section
variable {s : State} (hdue : s.due.second = true)
include hdue

theorem exec_wholeSecondBoundary_of_none (h : admittedDrive (boundaryCounted s) = none) :
    exec .wholeSecondBoundary s = .next (boundaryCounted s) := by
  unfold boundaryCounted at h ⊢
  simp only [exec, execWholeSecondBoundary, hdue, if_true, h]

theorem exec_wholeSecondBoundary_of_some {d : Drive} (h : admittedDrive (boundaryCounted s) = some d) :
    exec .wholeSecondBoundary s = .next (openWindow d (boundaryCounted s)) := by
  unfold boundaryCounted at h ⊢
  simp only [exec, execWholeSecondBoundary, hdue, if_true, h]

end

/-! ## The drive admitted -/

/-- One drive stands before another, or at its place: the order of R162. -/
def NotAfter (p : Plant) (d e : Drive) : Prop :=
  requirement p d < requirement p e ∨ requirement p d = requirement p e ∧ d.drive ≤ e.drive

theorem NotAfter.trans {p : Plant} {c d e : Drive} (h : NotAfter p c d) (h' : NotAfter p d e) : NotAfter p c e := by
  unfold NotAfter at *
  omega

theorem notAfter_of_goesBefore {p : Plant} {d e : Drive} (h : goesBefore p d e = true) : NotAfter p d e := by
  simp only [goesBefore, Bool.or_eq_true, Bool.and_eq_true, decide_eq_true_eq, beq_iff_eq] at h
  exact h.imp id fun ⟨heq, hlt⟩ => ⟨heq, hlt.le⟩

theorem notAfter_of_not_goesBefore {p : Plant} {d e : Drive} (h : ¬ goesBefore p e d = true) : NotAfter p d e := by
  simp only [goesBefore, Bool.or_eq_true, Bool.and_eq_true, decide_eq_true_eq, beq_iff_eq] at h
  unfold NotAfter
  omega

/-- The drive chosen from a list stands after none of the list (R162). -/
theorem firstDrive_notAfter {p : Plant} {l : List Drive} {d : Drive} (h : firstDrive p l = some d) :
    ∀ e ∈ l, NotAfter p d e := by
  induction l generalizing d with
  | nil => cases h
  | cons x rest ih =>
    have hself (y : Drive) : NotAfter p y y := .inr ⟨rfl, le_rfl⟩
    unfold firstDrive at h
    split at h
    · next hnone =>
      cases h
      have hempty : rest = [] := by
        cases rest with
        | nil => rfl
        | cons y more =>
          unfold firstDrive at hnone
          split at hnone
          · cases hnone
          · split at hnone <;> cases hnone
      simp [hempty, hself]
    · next y hy =>
      have hrest := ih hy
      split at h
      · next hbefore =>
        cases h
        exact List.forall_mem_cons.mpr ⟨notAfter_of_goesBefore hbefore, hrest⟩
      · next hafter =>
        cases h
        exact List.forall_mem_cons.mpr
          ⟨hself _, fun e he => (notAfter_of_not_goesBefore hafter).trans (hrest e he)⟩

theorem admissionOpen_iff (s : State) :
    admissionOpen s = true ↔
      usable s.store.images.drives = true ∧ s.adm.window = none ∧ s.mon.startBar = false ∧ s.hunt.state = .idle ∧
        s.settings.startsAllowed = true ∧ s.seq.state = .ready ∧ s.brk.accepted = .closed := by
  simp [admissionOpen, drivesUsable, and_assoc]

theorem admittedDrive_of_some {s : State} {d : Drive} (h : admittedDrive s = some d) :
    admissionOpen s = true ∧
      firstDrive s.plant (s.adm.drives.filter fun d => d.isPending && decide (requirement s.plant d ≤ s.adm.quiet)) =
        some d := by
  unfold admittedDrive at h
  split at h
  · next hopen => exact ⟨hopen, h⟩
  · cases h

/-! ## The window opened -/

/-- With nothing outstanding and its place free a GRANT joins the down queue (R122, R164). -/
theorem queueGrant_of_free {s : State} {w : StartWindow} (hout : s.adm.outstanding = none)
    (hfree : keptFree s.pilot.queue .admission = true) :
    queueGrant w s =
      (s.setPilot
        { s.pilot with
          queue :=
            s.pilot.queue ++ [{ msg := grantMessage w.station w.drive w.loaded, kept := true }] }).setAdm
        { s.adm with
          window := some { w with grant := .waiting }
          outstanding :=
            some { kind := .grant, drive := w.drive, station := w.station, inFlight := false, stale := false } } := by
  rw [queueGrant, hout, joinQueue_kept (m := grantMessage w.station w.drive w.loaded) (.inr rfl) hfree]
  rfl

section
variable (d : Drive) (s : State)

/-- The state at an admission with the down queue free to take a GRANT, before the report (R163). -/
def windowGranted : State :=
  if d.station = 0 then windowOpened d s
  else
    ((windowOpened d s).setPilot
      { s.pilot with
        queue := s.pilot.queue ++ [{ msg := grantMessage d.station d.drive d.windowLength, kept := true }] }).setAdm
      { (windowOpened d s).adm with
        window := some { openedWindow d s with grant := .waiting }
        outstanding :=
          some { kind := .grant, drive := d.drive, station := d.station, inFlight := false, stale := false } }

theorem openWindow_of_free (hout : s.adm.outstanding = none) (hfree : keptFree s.pilot.queue .admission = true) :
    openWindow d s =
      startReport d.drive .granted none none (some (d.windowLength, 0)) (windowGranted d s) := by
  rw [openWindow_eq, windowGranted, queueGrant_of_free (s := windowOpened d s) hout hfree]
  rfl

/-- An admission reaches the admission unit and, with a GRANT, the down queue, until it is reported. -/
@[simp] theorem windowGranted_frame :
    (windowGranted d s).time = s.time ∧ (windowGranted d s).port = s.port ∧ (windowGranted d s).meas = s.meas ∧
    (windowGranted d s).prot = s.prot ∧ (windowGranted d s).store = s.store ∧
    (windowGranted d s).regime = s.regime ∧ (windowGranted d s).brk = s.brk ∧ (windowGranted d s).seq = s.seq ∧
    (windowGranted d s).mon = s.mon ∧ (windowGranted d s).hunt = s.hunt ∧ (windowGranted d s).host = s.host := by
  unfold windowGranted
  split <;> simp [windowOpened, updateDrive]

theorem windowGranted_adm :
    (windowGranted d s).adm.quiet = 0 ∧ (windowGranted d s).adm.second = s.adm.second ∧
      (windowGranted d s).adm.queue = s.adm.queue.filter (· != d.drive) ∧
      (windowGranted d s).adm.drives = changeDrive d.drive (fun x => { x with request := .window }) s.adm.drives := by
  unfold windowGranted
  split <;> exact ⟨rfl, rfl, rfl, rfl⟩

/-- The window of an admission, and the GRANT of a station drive (R122, R163). -/
theorem windowGranted_window :
    ∃ w, (windowGranted d s).adm.window = some w ∧ w.drive = d.drive ∧ w.station = d.station ∧ w.opened = s.time ∧
      w.loaded = d.windowLength ∧ w.remaining = d.windowLength ∧
      (d.station = 0 →
        w.grant = .hostDrive ∧ (windowGranted d s).adm.outstanding = s.adm.outstanding ∧
          (windowGranted d s).pilot = s.pilot) ∧
      (d.station ≠ 0 →
        w.grant = .waiting ∧
          (windowGranted d s).adm.outstanding =
            some { kind := .grant, drive := d.drive, station := d.station, inFlight := false, stale := false } ∧
          (windowGranted d s).pilot =
            { s.pilot with
              queue :=
                s.pilot.queue ++ [{ msg := grantMessage d.station d.drive d.windowLength, kept := true }] }) := by
  unfold windowGranted
  split
  · next h0 => exact ⟨openedWindow d s, rfl, rfl, rfl, rfl, rfl, rfl, fun _ => ⟨rfl, rfl, rfl⟩, fun h => absurd h0 h⟩
  · next h0 =>
    exact ⟨{ openedWindow d s with grant := .waiting }, rfl, rfl, rfl, rfl, rfl, rfl, fun h => absurd h h0,
      fun _ => ⟨rfl, rfl, rfl⟩⟩

theorem findDrive_windowGranted (n : Nat) :
    findDrive (windowGranted d s) n =
      if n = d.drive then (findDrive s n).map fun x => { x with request := .window } else findDrive s n := by
  obtain ⟨-, -, -, hdrives⟩ := windowGranted_adm d s
  exact (findDrive_congr (s := updateDrive d.drive (fun x => { x with request := .window }) s) hdrives n).trans
    (findDrive_updateDrive (f := fun x => { x with request := .window }) (fun _ h => h) s n)

end

theorem findDrive_isSome {s : State} {d : Drive} (h : d ∈ s.adm.drives) : ∃ x, findDrive s d.drive = some x :=
  Option.isSome_iff_exists.mp (List.find?_isSome.mpr ⟨d, h, beq_self_eq_true _⟩)

@[simp] theorem findDrive_startReport (n : Nat) (e : StartEvent) (c : Option StartCause) (so : Option Nat)
    (w : Option (Nat × Nat)) (s : State) (m : Nat) : findDrive (startReport n e c so w s) m = findDrive s m :=
  findDrive_congr (by simp) m

/-- The START report GRANTED: all that an admission reports (R166). -/
theorem grantReport_host {s u : State} {n : Nat} (hhost : u.host = s.host) (htime : u.time = s.time)
    (hstore : u.store = s.store) (hquiet : u.adm.quiet = 0)
    (hrequest : (findDrive u n).map (fun x => x.request) = some .window) (w : Option (Nat × Nat)) :
    (startReport n .granted none none w u).host =
      (addReport
        (.start
          { time := s.time, drive := n, event := .granted, cause := none, source := none,
            level := (findDrive u n).map fun x => x.level, request := some .window,
            requirement := (findDrive u n).map (requirement s.plant), quiet := 0, window := w }) s).host := by
  rw [startReport, addReport_eq hhost htime, htime, hrequest, hquiet, State.plant, hstore]
  rfl

/-- The request of an admitted drive is WINDOW at every record of its number (R163). -/
theorem changeDrive_request {n : Nat} {r : DriveRequest} {l : List Drive} {x : Drive}
    (hx : x ∈ changeDrive n (fun y => { y with request := r }) l) (hn : x.drive = n) : x.request = r := by
  obtain ⟨y, -, rfl⟩ := List.mem_map.mp hx
  split at hn
  · next h => rw [if_pos h]
  · next h => exact absurd hn h

/-- The boundary that admits a drive, with the down queue free to take a GRANT (R122, R161 to R163, R166). -/
theorem exec_wholeSecondBoundary_admits {s : State} {d : Drive} (hdue : s.due.second = true)
    (h : admittedDrive (boundaryCounted s) = some d) (hout : s.adm.outstanding = none)
    (hfree : keptFree s.pilot.queue .admission = true) :
    exec .wholeSecondBoundary s =
      .next
        (startReport d.drive .granted none none (some (d.windowLength, 0)) (windowGranted d (boundaryCounted s))) := by
  obtain ⟨-, -, hout'⟩ := boundaryCounted_adm s
  rw [exec_wholeSecondBoundary_of_some hdue h, openWindow_of_free d _ (hout'.trans hout) (by simpa using hfree)]

/-- Settles O37: what the boundary counts, the order in which it chooses, and the window that it opens. -/
theorem boundaryCountsAndAdmits : Obligations.BoundaryCountsAndAdmits := by
  refine ⟨fun s n hdue hnone hn => ?_, fun s d h => ?_, fun s d hdue h hout hfree => ?_⟩
  · subst hn
    rw [exec_wholeSecondBoundary_of_none hdue hnone, boundaryCounted, afterRestoration_eq, afterRestoration_adm]
    rfl
  · obtain ⟨hopen, hfirst⟩ := admittedDrive_of_some h
    obtain ⟨husable, hwindow, hbar, hidle, hallowed, hready, hclosed⟩ := (admissionOpen_iff s).mp hopen
    obtain ⟨hmem, hwithin⟩ := List.mem_filter.mp (firstDrive_mem hfirst)
    obtain ⟨hpending, hle⟩ := Bool.and_eq_true_iff.mp hwithin
    refine ⟨hmem, hpending, of_decide_eq_true hle, fun e he hp hq => ?_, husable, hwindow, hbar, hidle, hallowed, hready,
      hclosed⟩
    exact firstDrive_notAfter hfirst e (List.mem_filter.mpr ⟨he, Bool.and_eq_true_iff.mpr ⟨hp, decide_eq_true hq⟩⟩)
  · have hadmit : admittedDrive (boundaryCounted s) = some d := h
    obtain ⟨hsecond, hqueue, hout'⟩ := boundaryCounted_adm s
    obtain ⟨hquiet, hsecond', hqueue', hdrives⟩ := windowGranted_adm d (boundaryCounted s)
    obtain ⟨w, hw, hdrive, hstation, hopened, hloaded, hremaining, hown, hsent⟩ :=
      windowGranted_window d (boundaryCounted s)
    obtain ⟨-, hmem, -⟩ := admittedDrive_pending _ hadmit
    obtain ⟨x, hx⟩ := findDrive_isSome hmem
    have hfound : findDrive (windowGranted d (boundaryCounted s)) d.drive = some { x with request := .window } := by
      rw [findDrive_windowGranted, if_pos rfl, hx]
      rfl
    have hreport := grantReport_host (s := s) (u := windowGranted d (boundaryCounted s)) (n := d.drive) (by simp)
      (by simp) (by simp) hquiet (by rw [hfound]; rfl) (some (d.windowLength, 0))
    refine ⟨_, w, exec_wholeSecondBoundary_admits hdue h hout hfree, ?_⟩
    rw [hqueue] at hqueue'
    simp only [startReport_frame, boundaryCounted_frame, hout'] at hopened hown hsent ⊢
    refine ⟨hw, hdrive, hstation, hopened, hloaded, hremaining, hquiet, hsecond'.trans hsecond, ?_, fun n hn => ?_,
      fun y hy hn => ?_, fun h0 => ?_, hsent, ?_, ?_⟩
    · simp [hqueue']
    · simp [hqueue', hn]
    · rw [hdrives] at hy
      exact changeDrive_request hy hn
    · obtain ⟨hgrant, hsame, hpilot⟩ := hown h0
      exact ⟨hgrant, hsame.trans hout, hpilot⟩
    · rw [hreport, findDrive_startReport]
    · simp [SameSettings, SameLine]

end Sys2Proof.Machine

/-! PROOFS. The end of a down message: what its outcome makes of the station of a QUERY (R133), of the hunt's step (R144
to R149) and of the start admission unit (R164), and the message that follows it on the channel (R115, R119, R123). -/

namespace Sys2Proof.Machine

/-! ## The outcome of a QUERY -/

section
variable {s : State} {a : Nat} {st : Station} (hst : findStation s a = some st)
include hst

theorem queryOutcome_delivered (h : st.answer = .inFlight) :
    queryOutcome .delivered a s =
      updateStation a (fun x => { x with answer := .waiting (s.time + BitVec.ofNat 32 s.plant.replyWait) }) s := by
  simp [queryOutcome, hst, h]

theorem queryOutcome_not_delivered {o : DownOutcome} (ho : o ≠ .delivered) (h : st.answer = .inFlight) :
    queryOutcome o a s = missedAnswer st s := by
  simp [queryOutcome, hst, h, ho]

theorem queryOutcome_answered (o : DownOutcome) (h : st.answer = .answered) :
    queryOutcome o a s = updateStation a (fun x => { x with answer := .none }) s := by
  simp [queryOutcome, hst, h]

theorem queryOutcome_unasked (o : DownOutcome) (h : st.answer = .none) : queryOutcome o a s = s := by
  simp [queryOutcome, hst, h]

theorem findStation_updated {f : Station → Station} (hf : ∀ x, (f x).address = x.address) :
    findStation (updateStation a f s) a = some (f st) := by
  rw [findStation_updateStation (fun x hx => (hf x).trans hx), if_pos rfl, hst]
  rfl

/-- The end of a QUERY reaches the record of its own station alone (R133). -/
theorem queryOutcome_other (o : DownOutcome) {x : Nat} (hx : x ≠ a) :
    findStation (queryOutcome o a s) x = findStation s x := by
  have hupdated (f : Station → Station) (hf : ∀ y, (f y).address = y.address) :
      findStation (updateStation a f s) x = findStation s x := by
    rw [findStation_updateStation (fun y hy => (hf y).trans hy), if_neg hx]
  have hmissed : findStation (missedAnswer st s) x = findStation s x := by
    obtain ⟨-, hothers⟩ := findStation_changeStation (new := missedOnce s.plant.silentCount st) hst
      (show st.address = a from findStation_address hst) (queryResult st .unanswered)
    exact hothers x hx
  unfold queryOutcome
  rw [hst]
  dsimp only
  split
  · split
    · exact hupdated _ fun _ => rfl
    · exact hmissed
  · exact hupdated _ fun _ => rfl
  · rfl
  · rfl

end

theorem queryOutcome_ended (o : DownOutcome) (a : Nat) (s : State) : QueryEnded o a s (queryOutcome o a s) := by
  intro st hst
  refine ⟨fun h ho => ?_, fun h ho => ?_, fun h => ?_, fun h => ?_, fun x hx => queryOutcome_other hst o hx⟩
  · rw [ho, queryOutcome_delivered hst h]
    exact findStation_updated hst fun _ => rfl
  · rw [queryOutcome_not_delivered hst ho h]
    obtain ⟨hown, -⟩ := findStation_changeStation (new := missedOnce s.plant.silentCount st) hst
      (show st.address = a from findStation_address hst) (queryResult st .unanswered)
    exact hown
  · rw [queryOutcome_answered hst o h]
    exact findStation_updated hst fun _ => rfl
  · rw [queryOutcome_unasked hst o h, hst]

/-! ## The outcome of the hunt's message -/

/-- The hunt controller with its message out of flight (R148). -/
def huntDealt (s : State) : State := s.setHunt { s.hunt with outstanding := none }

section
variable {s : State} {x : HuntMessage} (hx : s.hunt.outstanding = some x)
include hx

theorem huntOutcome_stale (o : DownOutcome) (hstale : x.stale = true) (hphase : s.hunt.phase ≠ some .held) :
    huntOutcome o s = huntDealt s := by
  simp [huntOutcome, hx, hstale, hphase, huntDealt]

theorem huntOutcome_held (o : DownOutcome) (hstale : x.stale = true) (hphase : s.hunt.phase = some .held) :
    huntOutcome o s = sendHeldHunt (huntDealt s) := by
  simp [huntOutcome, hx, hstale, hphase, huntDealt]

variable (hcurrent : x.stale = false) (hphase : s.hunt.phase = some .sent)
include hcurrent hphase

theorem huntOutcome_delivered (h : s.hunt.state = .opening ∨ s.hunt.state = .restoring) :
    huntOutcome .delivered s = startSwitchWait (huntDealt s) := by
  rcases h with h | h <;> simp [huntOutcome, hx, hcurrent, hphase, h, huntDealt]

theorem huntOutcome_opening {o : DownOutcome} (ho : o ≠ .delivered) (h : s.hunt.state = .opening) :
    huntOutcome o s = stepOver .noResponse none (huntDealt s) := by
  simp [huntOutcome, hx, hcurrent, hphase, h, ho, huntDealt]

theorem huntOutcome_restoring {o : DownOutcome} (ho : o ≠ .delivered) (h : s.hunt.state = .restoring) :
    huntOutcome o s = restoreFailed none (huntDealt s) := by
  simp [huntOutcome, hx, hcurrent, hphase, h, ho, huntDealt]

end

/-- A held message that finds its kept place free is sent (R122, R148). -/
theorem sendHeldHunt_sent {s : State} {k : DownKind} (hfree : keptFree s.pilot.queue .hunt = true)
    (hk : s.hunt.state = .opening ∧ k = .openSwitch ∨ s.hunt.state = .restoring ∧ k = .closeSwitch) :
    sendHeldHunt (huntDealt s) =
      (s.setPilot { s.pilot with queue := s.pilot.queue ++ [huntEntry k (currentStep s).station] }).setHunt
        { s.hunt with
          phase := some .sent
          outstanding := some { kind := k, station := (currentStep s).station, inFlight := false, stale := false } } := by
  have hsent := sendHunt_sent (s := huntDealt s) (k := k) (a := (currentStep s).station) rfl hfree
  have hstep : currentStep (huntDealt s) = currentStep s := rfl
  rcases hk with ⟨hstate, rfl⟩ | ⟨hstate, rfl⟩
  all_goals
    have hstate' : (huntDealt s).hunt.state = s.hunt.state := rfl
    simp only [sendHeldHunt, hstate', hstate, hstep, hsent]
    rfl

theorem sendHunt_results {k : DownKind} {a : Nat} {s t : State} (h : sendHunt k a s = some t) :
    t.hunt.results = s.hunt.results := by
  unfold sendHunt at h
  split at h
  · cases h
    rfl
  · rw [Option.map_eq_some_iff] at h
    obtain ⟨u, hj, rfl⟩ := h
    simp [joinQueue_frame hj]

/-- The steps that begin add their records after those that stand (R147). -/
theorem beginSteps_results (u : Option Nat) (l : List HuntStep) (s : State) :
    ∃ more, (beginSteps u l s).hunt.results = s.hunt.results ++ more := by
  induction l generalizing s with
  | nil => exact ⟨[], by simp [beginSteps, endHunt_hunt]⟩
  | cons st rest ih =>
    let begun := s.setHunt { s.hunt with step := s.hunt.step + 1, state := .opening }
    have hover : ∃ more, (beginSteps u rest (endStep .noResponse begun)).hunt.results = s.hunt.results ++ more := by
      obtain ⟨more, hmore⟩ := ih (endStep .noResponse begun)
      exact ⟨stepRecordOf .noResponse begun :: more, by rw [hmore, endStep_hunt]; simp [begun]⟩
    unfold beginSteps
    dsimp only
    split
    · split
      · next hsent => exact ⟨[], by simp [sendHunt_results hsent]⟩
      · exact hover
    · exact hover

theorem stepOver_results (r : StepResult) (u : Option Nat) (s : State) :
    ∃ more, (stepOver r u s).hunt.results = s.hunt.results ++ stepRecordOf r s :: more := by
  obtain ⟨more, hmore⟩ := beginSteps_results u
    (((endStep r s).hunt.plan.getD []).drop (endStep r s).hunt.step) (endStep r s)
  refine ⟨more, hmore.trans ?_⟩
  simp [endStep_hunt]

/-- After its last step a hunt ends NOT_FOUND, whether or not a plan stands (R147). -/
theorem stepOver_no_more {s : State} (r : StepResult) (u : Option Nat)
    (h : (s.hunt.plan.getD []).drop s.hunt.step = []) :
    stepOver r u s = endHunt .notFound none none u .idle (endStep r s) := by
  simp [stepOver, continueHunt, endStep_hunt, h, beginSteps]

theorem huntOutcome_ended (o : DownOutcome) (s : State) : HuntMessageEnded o s (huntOutcome o s) := by
  intro x hx
  refine ⟨fun hstale hphase => ?_, fun k hstale hphase hfree hk => ?_, fun hcur hphase ho hstate => ?_,
    fun hcur hphase ho hstate => ?_, fun hcur hphase ho hstate => ?_⟩
  · rw [huntOutcome_stale hx o hstale hphase]
    exact ⟨rfl, rfl⟩
  · rw [huntOutcome_held hx o hstale hphase, sendHeldHunt_sent hfree hk]
    exact ⟨rfl, rfl⟩
  · subst ho
    rw [huntOutcome_delivered hx hcur hphase hstate]
    rfl
  · rw [huntOutcome_opening hx hcur hphase ho hstate]
    refine ⟨?_, fun hlast => ?_, fun st more hnext hans hfree => ?_⟩
    · obtain ⟨more, hmore⟩ := stepOver_results .noResponse none (huntDealt s)
      exact ⟨_, more, hmore, rfl, rfl, rfl⟩
    · obtain ⟨hidle, hresult, -, hactive⟩ := endHunt_endStep .notFound none none none .noResponse (huntDealt s)
      rw [stepOver_no_more (s := huntDealt s) _ _ hlast]
      exact ⟨_, hidle, hresult, rfl, rfl, hactive⟩
    · cases hplan : s.hunt.plan with
      | none => simp [hplan] at hnext
      | some plan =>
        rw [hplan, Option.getD_some] at hnext
        rw [stepOver_next (s := huntDealt s) hplan _ _ hnext hans rfl hfree]
        exact ⟨rfl, rfl, rfl, rfl⟩
  · rw [huntOutcome_restoring hx hcur hphase ho hstate, restoreFailed]
    obtain ⟨hidle, hresult, hresults, hactive⟩ :=
      endHunt_endStep .aborted (some .restoreFailed) none none .restoreFailed (huntDealt s)
    obtain ⟨hopen, -⟩ := endResult_endStep .aborted (some .restoreFailed) none none .restoreFailed (huntDealt s)
    exact ⟨_, _, hidle, hresult, rfl, rfl, hopen, rfl, hresults, rfl, hactive⟩

/-! ## The outcome of the admission unit's message -/

/-- The admission unit with its message out of flight (R164). -/
def admDealt (s : State) : State := s.setAdm { s.adm with outstanding := none }

theorem admOutcome_eq {s : State} {x : StartMessage} (hx : s.adm.outstanding = some x) (o : DownOutcome) :
    admOutcome o s = sendHeldGrant (sendReleaseDue (admOutcomeEffect x o (admDealt s))) := by
  rw [admOutcome, hx]
  rfl

section
variable {s : State}

theorem sendReleaseDue_of_none (h : s.adm.releaseDue = none) : sendReleaseDue s = s := by
  unfold sendReleaseDue
  split
  · next hr => simp [h] at hr
  · rfl

theorem sendReleaseDue_of_due {r : ReleaseDue} (hout : s.adm.outstanding = none) (h : s.adm.releaseDue = some r) :
    sendReleaseDue s = queueRelease r.drive r.station (s.setAdm { s.adm with releaseDue := none }) := by
  rw [sendReleaseDue, hout, h]

theorem sendHeldGrant_of_busy (h : s.adm.outstanding.isSome = true) : sendHeldGrant s = s := by
  unfold sendHeldGrant
  split
  · next hout _ => simp [hout] at h
  · rfl

theorem sendHeldGrant_of_not_held (h : ∀ w, s.adm.window = some w → w.grant ≠ .held) : sendHeldGrant s = s := by
  unfold sendHeldGrant
  split
  · next hw => exact if_neg (h _ hw)
  · rfl

theorem sendHeldGrant_of_held {w : StartWindow} (hout : s.adm.outstanding = none) (hw : s.adm.window = some w)
    (h : w.grant = .held) : sendHeldGrant s = queueGrant w s := by
  rw [sendHeldGrant, hout, hw]
  exact if_pos h

end

/-- What the outcome of a message that is no CURRENT GRANT makes of the release due: that of a stale GRANT not
delivered is dropped (R164). -/
def releaseLeft (x : StartMessage) (o : DownOutcome) (s : State) : Option ReleaseDue :=
  if x.kind = .grant ∧ o ≠ .delivered then none else s.adm.releaseDue

/-- The outcome of a message that is no CURRENT GRANT moves the release due, and reports a RELEASE not delivered
(R164). -/
theorem admOutcomeEffect_of_no_grant {x : StartMessage} (h : x.kind = .release ∨ x.stale = true) (o : DownOutcome)
    (s : State) :
    (admOutcomeEffect x o s).adm = { s.adm with releaseDue := releaseLeft x o s } ∧
      (admOutcomeEffect x o s).pilot = s.pilot := by
  unfold admOutcomeEffect releaseLeft
  by_cases hgrant : x.kind = .grant
  · have hstale : x.stale = true := h.resolve_left (by simp [hgrant])
    by_cases ho : o = .delivered <;> simp [hgrant, hstale, ho]
  · by_cases ho : o = .delivered <;> simp [hgrant, ho]

/-- A withdrawn window's GRANT leaves the unit as it is once nothing is outstanding and no RELEASE is called for. -/
theorem settleGrant_adm {s : State} (hout : s.adm.outstanding = none) (w : StartWindow) :
    (settleGrant w false s).adm = s.adm := by
  have hnone (v : Option ReleaseDue) (hv : v = s.adm.releaseDue) :
      { s.adm with outstanding := none, releaseDue := v } = s.adm := by rw [hv, ← hout]
  unfold settleGrant
  split
  · rfl
  · rfl
  · simpa using hnone _ rfl
  · simpa [hout] using hnone _ rfl
  · rfl

/-! What goes to the down queue once the unit has no message outstanding (R164). -/

section
variable {v : State} (hout : v.adm.outstanding = none)

theorem sendNext_none (hrelease : v.adm.releaseDue = none) (hheld : ∀ w, v.adm.window = some w → w.grant ≠ .held) :
    sendHeldGrant (sendReleaseDue v) = v := by
  rw [sendReleaseDue_of_none hrelease, sendHeldGrant_of_not_held hheld]

include hout
variable (hfree : keptFree v.pilot.queue .admission = true)
include hfree

theorem sendNext_release {r : ReleaseDue} (hrelease : v.adm.releaseDue = some r) :
    sendHeldGrant (sendReleaseDue v) =
      (v.setPilot
        { v.pilot with
          queue := v.pilot.queue ++ [{ msg := releaseMessage r.station r.drive, kept := true }] }).setAdm
        { v.adm with
          outstanding :=
            some { kind := .release, drive := r.drive, station := r.station, inFlight := false, stale := false }
          releaseDue := none } := by
  rw [sendReleaseDue_of_due hout hrelease,
    queueRelease_of_free (s := v.setAdm { v.adm with releaseDue := none }) hout hfree, sendHeldGrant_of_busy rfl]
  rfl

theorem sendNext_grant {w : StartWindow} (hrelease : v.adm.releaseDue = none) (hw : v.adm.window = some w)
    (hheld : w.grant = .held) :
    sendHeldGrant (sendReleaseDue v) =
      (v.setPilot
        { v.pilot with
          queue := v.pilot.queue ++ [{ msg := grantMessage w.station w.drive w.loaded, kept := true }] }).setAdm
        { v.adm with
          window := some { w with grant := .waiting }
          outstanding :=
            some { kind := .grant, drive := w.drive, station := w.station, inFlight := false, stale := false } } := by
  rw [sendReleaseDue_of_none hrelease, sendHeldGrant_of_held hout hw hheld, queueGrant_of_free hout hfree]

/-- A message that finds its kept place free is sent without a report (R122, R164). -/
theorem sendNext_host : (sendHeldGrant (sendReleaseDue v)).host = v.host := by
  cases hrelease : v.adm.releaseDue with
  | some r =>
    rw [sendNext_release hout hfree hrelease]
    rfl
  | none =>
    by_cases hheld : ∃ w, v.adm.window = some w ∧ w.grant = .held
    · obtain ⟨w, hw, hg⟩ := hheld
      rw [sendNext_grant hout hfree hrelease hw hg]
      rfl
    · rw [sendNext_none hrelease fun w hw hg => hheld ⟨w, hw, hg⟩]

end

section
variable {s : State} {x : StartMessage} {o : DownOutcome} (hx : s.adm.outstanding = some x)
include hx

/-- A CURRENT GRANT that was delivered leaves its window open, granted (R164). -/
theorem admOutcome_granted (hkind : x.kind = .grant) (hcurrent : x.stale = false) (ho : o = .delivered)
    (hrelease : s.adm.releaseDue = none) :
    admOutcome o s =
      s.setAdm
        { s.adm with outstanding := none, window := s.adm.window.map fun w => { w with grant := .delivered } } := by
  have heffect : admOutcomeEffect x o (admDealt s) =
      s.setAdm
        { s.adm with outstanding := none, window := s.adm.window.map fun w => { w with grant := .delivered } } := by
    rw [admOutcomeEffect, if_pos hkind, if_neg (by simp [hcurrent]), if_pos ho]
    rfl
  rw [admOutcome_eq hx, heffect]
  refine sendNext_none hrelease fun w hw => ?_
  obtain ⟨w', -, rfl⟩ := Option.map_eq_some_iff.mp hw
  nofun

/-- A CURRENT GRANT that was not delivered ends its window, and nothing follows it (R164). -/
theorem admOutcome_grant_undelivered {w : StartWindow} (hkind : x.kind = .grant) (hcurrent : x.stale = false)
    (ho : o ≠ .delivered) (hrelease : s.adm.releaseDue = none) (hw : s.adm.window = some w) :
    admOutcome o s = endWindow .grantUndelivered (admDealt s) ∧
      (endWindow .grantUndelivered (admDealt s)).adm =
        { s.adm with
          outstanding := none
          window := none
          drives := s.adm.drives.map fun d => if d.drive = w.drive then { d with request := .none } else d } := by
  have hadm : (endWindow .grantUndelivered (admDealt s)).adm =
      { s.adm with
        outstanding := none
        window := none
        drives := s.adm.drives.map fun d => if d.drive = w.drive then { d with request := .none } else d } := by
    have hsettled := settleGrant_adm (s := updateDrive w.drive (windowEnded .grantUndelivered) (admDealt s)) rfl w
    rw [endWindow_adm (s := admDealt s) hw, show callsForRelease .grantUndelivered = false from rfl, hsettled]
    rfl
  have heffect : admOutcomeEffect x o (admDealt s) = endWindow .grantUndelivered (admDealt s) := by
    simp [admOutcomeEffect, hkind, hcurrent, ho]
  refine ⟨?_, hadm⟩
  rw [admOutcome_eq hx, heffect]
  exact sendNext_none (by rw [hadm]; exact hrelease) fun w' hw' => by simp [hadm] at hw'

end

/-- A window's end is its report ENDED, made over what the end has settled (R165, R166). -/
theorem endWindow_reports {s : State} {w : StartWindow} (hw : s.adm.window = some w) (k : StartCause) :
    ∃ v r, endWindow k s = addReport (.start r) v ∧ r.time = s.time ∧ r.drive = w.drive ∧ r.event = .ended ∧
      r.cause = some k := by
  rw [endWindow_eq hw]
  exact ⟨_, _, rfl, by simp [windowSettled, updateDrive], rfl, rfl, rfl⟩

/-- The outcome of a RELEASE makes a report when it was not delivered (R164, R166). -/
theorem admOutcomeEffect_release_host {x : StartMessage} (hkind : x.kind = .release) (o : DownOutcome) (s : State) :
    (o = .delivered → (admOutcomeEffect x o (admDealt s)).host = s.host) ∧
    (o ≠ .delivered →
      ∃ r, r.time = s.time ∧ r.drive = x.drive ∧ r.event = .releaseUndelivered ∧
        (admOutcomeEffect x o (admDealt s)).host = (addReport (.start r) s).host) := by
  refine ⟨fun ho => by simp [admOutcomeEffect, hkind, ho, admDealt], fun ho => ?_⟩
  obtain ⟨r, hreport, htime, hdrive, hevent, -⟩ :=
    startReport_eq (s := s) (u := admDealt s) rfl rfl x.drive .releaseUndelivered none none none
  have heffect : admOutcomeEffect x o (admDealt s) =
      startReport x.drive .releaseUndelivered none none none (admDealt s) := by
    simp [admOutcomeEffect, hkind, ho]
  exact ⟨r, htime, hdrive, hevent, by rw [heffect, hreport]; rfl⟩

theorem admOutcome_ended (o : DownOutcome) (s : State) : AdmissionMessageEnded o s (admOutcome o s) := by
  intro x hx
  refine ⟨fun hkind hcur ho hrel => ?_, fun w hkind hcur ho hrel hw => ?_, fun r hdone hrel hfree => ?_,
    fun hdone hrel => ?_, fun hkind hfree => ?_⟩
  · rw [admOutcome_granted hx hkind hcur ho hrel]
    exact ⟨rfl, rfl⟩
  · obtain ⟨hended, hadm⟩ := admOutcome_grant_undelivered hx hkind hcur ho hrel hw
    rw [hended]
    exact ⟨hadm, endWindow_reports (s := admDealt s) hw .grantUndelivered⟩
  · have hleft : releaseLeft x o s = some r := by
      rw [releaseLeft, if_neg, hrel]
      rintro ⟨hgrant, ho⟩
      rcases hdone with hkind | ⟨-, hdel⟩
      · simp [hgrant] at hkind
      · exact ho hdel
    obtain ⟨hadm, hpilot⟩ := admOutcomeEffect_of_no_grant (hdone.imp_right And.left) o (admDealt s)
    rw [admOutcome_eq hx, sendNext_release (r := r) (by rw [hadm]; rfl) (by rw [hpilot]; exact hfree)
      (by rw [hadm]; exact hleft), hadm, hpilot]
    exact ⟨rfl, rfl⟩
  · have hleft : releaseLeft x o s = none := by
      unfold releaseLeft
      split
      · rfl
      · next hnot => exact hrel.resolve_right hnot
    obtain ⟨heffect, hpilot⟩ := admOutcomeEffect_of_no_grant hdone o (admDealt s)
    have hadm : (admOutcomeEffect x o (admDealt s)).adm = { s.adm with outstanding := none, releaseDue := none } := by
      rw [heffect, show releaseLeft x o (admDealt s) = none from hleft]
      rfl
    rw [admOutcome_eq hx]
    refine ⟨fun hnot => ?_, fun w hw hheld hfree => ?_⟩
    · rw [sendNext_none (by rw [hadm]) (by rw [hadm]; exact hnot), hadm, hpilot]
      exact ⟨rfl, rfl⟩
    · rw [sendNext_grant (by rw [hadm]) (by rw [hpilot]; exact hfree) (by rw [hadm]) (by rw [hadm]; exact hw) hheld,
        hadm, hpilot]
      exact ⟨rfl, rfl⟩
  · obtain ⟨hadm, hpilot⟩ := admOutcomeEffect_of_no_grant (.inl hkind) o (admDealt s)
    rw [admOutcome_eq hx, sendNext_host (by rw [hadm]; rfl) (by rw [hpilot]; exact hfree)]
    exact admOutcomeEffect_release_host hkind o s

/-- The outcome is handed over with the channel freed, which no requester reads. -/
theorem admOutcome_freed_ended (o : DownOutcome) (s : State) :
    AdmissionMessageEnded o s (admOutcome o (freeDown s)) := by
  intro x hx
  obtain ⟨hgranted, hundelivered, hrelease, hnext, hreported⟩ := admOutcome_ended o (freeDown s) x hx
  refine ⟨hgranted, hundelivered, hrelease, hnext, fun hkind hfree => ?_⟩
  obtain ⟨hquiet, hreport⟩ := hreported hkind hfree
  refine ⟨hquiet, fun ho => ?_⟩
  obtain ⟨r, htime, hdrive, hevent, hhost⟩ := hreport ho
  refine ⟨r, htime, hdrive, hevent, hhost.trans ?_⟩
  rw [addReport_eq (s := s) (t := freeDown s) rfl rfl]
  rfl

/-! ## The channel, freed -/

theorem huntWindowClosed_down (s : State) : (huntWindowClosed s).pilot.down = s.pilot.down := by
  unfold huntWindowClosed
  split
  · split
    · simp [startHuntNow, updateStations]
    · simp [huntNotStarted]
  · rfl

/-- A window's end reaches the down queue, not the channel (R143, R165). -/
theorem endWindow_down (k : StartCause) (s : State) : (endWindow k s).pilot.down = s.pilot.down := by
  unfold endWindow
  split
  · rfl
  · simp [huntWindowClosed_down, updateDrive]

theorem sendHeldGrant_down (s : State) : (sendHeldGrant s).pilot.down = s.pilot.down := by
  unfold sendHeldGrant queueGrant
  split
  · split
    · split
      · rfl
      · split
        · next hjoin =>
          obtain ⟨hdown, -⟩ := joinQueue_pilot hjoin
          exact hdown
        · rw [endWindow_down]
          rfl
    · rfl
  · rfl

theorem admOutcome_down (o : DownOutcome) (s : State) : (admOutcome o s).pilot.down = s.pilot.down := by
  unfold admOutcome
  split
  · rfl
  · rw [sendHeldGrant_down]
    obtain ⟨hdown, -⟩ := sendReleaseDue_pilot (admOutcomeEffect _ o (admDealt s))
    refine hdown.trans ?_
    unfold admOutcomeEffect
    (repeat' split) <;> simp [endWindow_down, admDealt]

theorem queryOutcome_down (o : DownOutcome) (a : Nat) (s : State) :
    (queryOutcome o a s).pilot.down = s.pilot.down := by
  unfold queryOutcome missedAnswer changeStation
  dsimp only
  (repeat' split) <;> simp [updateStation]

/-- No requester reaches the channel when it learns of an outcome. -/
theorem handOutcome_down (m : DownMessage) (o : DownOutcome) (s : State) :
    (handOutcome m o s).pilot.down = s.pilot.down := by
  unfold handOutcome
  cases m.cls with
  | hunt =>
    obtain ⟨hdown, -⟩ := huntOutcome_pilot o s
    exact hdown
  | admission => exact admOutcome_down o s
  | host => exact queryOutcome_down o m.dest s
  | poll => exact queryOutcome_down o m.dest s

theorem endMessage_handed {s : State} {m : DownMessage} {o : DownOutcome} (hm : s.pilot.down.msg = some m)
    (ho : s.pilot.down.outcome = some o) : endMessage s = handOutcome m o (freeDown s) := by
  rw [endMessage, hm, ho]

theorem endMessage_of_no_message {s : State} (hm : s.pilot.down.msg = none) : endMessage s = freeDown s := by
  rw [endMessage, hm]

theorem endMessage_down (s : State) :
    (endMessage s).pilot.down = { s.pilot.down with stage := .freeChannel, msg := none, outcome := none } := by
  unfold endMessage
  split
  · exact handOutcome_down _ _ _
  · rfl

/-! ## The next message -/

theorem exec_downMessageEnd {s : State} (hstage : s.pilot.down.stage = .ending) (hleft : s.pilot.down.endingLeft = 0) :
    exec .downMessageEnd s =
      .next (if s.due.inSlot = true then settle (arbitrate (endMessage s)) else endMessage s) := by
  have hdue : endingDue s = true := by simp [endingDue, hstage, hleft]
  exact congrArg Host.Outcome.next (if_pos hdue)

/-- With no message waiting the free channel stays free (R123). -/
theorem arbitrate_of_empty {s : State} (h : s.pilot.queue = []) : arbitrate s = s := by
  have hnone : chosenMessage s.pilot.queue = none := by rw [h]; rfl
  unfold arbitrate
  split
  · rw [hnone]
  · rfl

/-- The chosen message leaves the queue for the channel (R118, R123). -/
theorem settle_putInFlight (m : DownMessage) (s : State) :
    settle (putInFlight m s) =
      { s with
        hunt := (settle (putInFlight m s)).hunt
        adm := (settle (putInFlight m s)).adm
        pilot :=
          { s.pilot with
            queue := s.pilot.queue.eraseP fun e => e.msg.cls == m.cls
            down := channelFor s.plant.takeTimeout m s.pilot.down
            stations := (settle (putInFlight m s)).pilot.stations
            half := (settle (putInFlight m s)).pilot.half
            up := { s.pilot.up with refusalShown := (settle (putInFlight m s)).pilot.up.refusalShown } } } := by
  unfold putInFlight noteInFlight
  cases m.cls <;> rfl

/-- Settles O28: each requester's outcome by its own table, and the arbiter's choice from the state reached. -/
theorem downMessageEndHandsItsOutcome : Obligations.DownMessageEndHandsItsOutcome := by
  intro s hstage hleft
  refine ⟨_, endMessage s, exec_downMessageEnd hstage hleft, rfl, endMessage_down s, fun m o hm ho => ?_,
    fun hm => ?_, fun hslot => by simp [hslot], fun hslot => ?_, fun hslot hqueue => ?_,
    fun q1 e q2 hslot hqueue h1 h2 => ?_, ?_⟩
  · rw [endMessage_handed hm ho]
    refine ⟨fun hc => ?_, fun hc => ?_, fun hc => ?_⟩
    · have hhanded : handOutcome m o (freeDown s) = queryOutcome o m.dest (freeDown s) := by
        rcases hc with hc | hc <;> simp [handOutcome, hc]
      rw [hhanded]
      exact queryOutcome_ended o m.dest (freeDown s)
    · have hhanded : handOutcome m o (freeDown s) = huntOutcome o (freeDown s) := by simp [handOutcome, hc]
      rw [hhanded]
      exact huntOutcome_ended o (freeDown s)
    · have hhanded : handOutcome m o (freeDown s) = admOutcome o (freeDown s) := by simp [handOutcome, hc]
      rw [hhanded]
      exact admOutcome_freed_ended o s
  · rw [endMessage_of_no_message hm]
    rfl
  · rw [if_pos hslot]
    exact ⟨rfl, rfl⟩
  · rw [if_pos hslot, arbitrate_of_empty hqueue]
    rfl
  · have hdown := endMessage_down s
    have hlaunched : arbitrate (endMessage s) = putInFlight e.msg (endMessage s) :=
      arbitrate_launches (by rw [hdown]) (by rw [hqueue]; exact chosenMessage_first h1 h2)
    have hchannel : channelFor (endMessage s).plant.takeTimeout e.msg (endMessage s).pilot.down =
        { stage := .offering, msg := some e.msg, cell := 1, phase := false, echoLooks := 0, echoSeen := false,
          idleLooks := 0, slotsOffered := 0, loadedTake := s.plant.takeTimeout, endingLeft := 0, outcome := none } := by
      have hplant : (endMessage s).plant = s.plant := by simp [State.plant]
      rw [hplant, hdown]
      simp [channelFor, hleft]
    rw [if_pos hslot, hlaunched]
    refine ⟨?_, ?_⟩
    · have hwritten := settle_putInFlight e.msg (endMessage s)
      rw [hchannel, hqueue, eraseP_class h1] at hwritten
      exact hwritten
    · obtain ⟨-, -, hnoted⟩ := putInFlight_launched e.msg (endMessage s)
      exact hnoted.of_same ⟨rfl, rfl, rfl⟩ ⟨rfl, rfl, rfl⟩
  · split <;> simp [SameClock, SameSettings, SameLine]

end Sys2Proof.Machine

/-! PROOFS. What the queues of the record interface show (R169, R171, R172), and that no operation outside that block
moves it: such an operation at most adds a report within the 32 places. -/

namespace Sys2Proof.Machine

/-- What `QueuesAgree` reads of the record interface: the waiting commands, the reply places, the transmission, and by
how many reports the report queue passes its 32 places. -/
def HostIf.queues (h : HostIf) : List Command × List ReplyPlace × Transmitter × Nat :=
  (h.commands, h.replies, h.tx, h.reports.length - 32)

/-- A fold leaves the queues as each of its steps does. -/
theorem foldl_queues {α : Type} {f : State → α → State} (hf : ∀ u x, (f u x).host.queues = u.host.queues)
    (l : List α) (s : State) : (l.foldl f s).host.queues = s.host.queues := by
  induction l generalizing s with
  | nil => rfl
  | cons x rest ih => rw [List.foldl_cons, ih, hf]

/-! ## Reports -/

section
variable (s : State)

@[simp] theorem placeReport_queues (r : Report) : (placeReport r s).host.queues = s.host.queues := by
  unfold placeReport
  split
  · simp only [HostIf.queues, State.setHost_host, List.length_append, List.length_singleton, Prod.mk.injEq, true_and]
    omega
  · rfl

@[simp] theorem addReport_queues (r : Report) : (addReport r s).host.queues = s.host.queues := by
  unfold addReport
  (repeat' split) <;> simp

@[simp] theorem addStationReport_queues (new : StationReport) :
    (addStationReport new s).host.queues = s.host.queues := by
  unfold addStationReport
  split
  · split
    · simp [HostIf.queues]
    · exact placeReport_queues s _
  · rfl

@[simp] theorem reportStation_queues (st : Station) (q : Option QueryResult) :
    (reportStation st q s).host.queues = s.host.queues := by simp [reportStation]

end

/-! ## The sequencer core and the condition monitor -/

section
variable (s : State)

@[simp] theorem seqTo_queues (r : Sequencer) (e : SeqEvent) (o : Option ChangeOrigin) :
    (seqTo r e o s).host.queues = s.host.queues := by
  unfold seqTo
  (repeat' split) <;> simp

@[simp] theorem seqHold_queues : (seqHold s).host.queues = s.host.queues := by
  unfold seqHold
  (repeat' split) <;> simp

@[simp] theorem seqBlockChange_queues (oh oo : List Cond) :
    (seqBlockChange oh oo s).host.queues = s.host.queues := by
  unfold seqBlockChange
  (repeat' split) <;> simp

@[simp] theorem adoptRecords_queues (t : CondTable CondRec) : (adoptRecords t s).host.queues = s.host.queues := by
  unfold adoptRecords
  (repeat' split) <;> simp

@[simp] theorem reportCondition_queues (k : CondCause) (c : Cond) :
    (reportCondition k s c).host.queues = s.host.queues := by simp [reportCondition]

@[simp] theorem ownerReport_queues (c : Cond) (a : Bool) : (ownerReport c a s).host.queues = s.host.queues := by
  unfold ownerReport
  (repeat' split) <;> simp

@[simp] theorem foldl_reportCondition_queues (k : CondCause) (l : List Cond) :
    (l.foldl (reportCondition k) s).host.queues = s.host.queues :=
  foldl_queues (fun u x => reportCondition_queues u _ x) l s

@[simp] theorem replaceRecords_queues (k : CondCause) (t : CondTable CondRec) :
    (replaceRecords k t s).host.queues = s.host.queues := by simp [replaceRecords]

end

/-! ## The hunt controller and its bar -/

section
variable (s : State)

@[simp] theorem endStep_queues (r : StepResult) : (endStep r s).host.queues = s.host.queues := by simp [endStep]

@[simp] theorem finishHunt_queues (r : LastResult) (l : List StepRecord) (n : HuntState) :
    (finishHunt r l n s).host.queues = s.host.queues := by simp [finishHunt]

@[simp] theorem endHunt_queues (o : HuntOutcome) (c : Option AbortCause) (b : Option (List Cond)) (u : Option Nat)
    (n : HuntState) :
    (endHunt o c b u n s).host.queues = s.host.queues := by simp [endHunt]

@[simp] theorem beginSteps_queues (u : Option Nat) (l : List HuntStep) :
    (beginSteps u l s).host.queues = s.host.queues := by
  induction l generalizing s with
  | nil => simp [beginSteps]
  | cons st rest ih =>
    unfold beginSteps
    dsimp only
    split
    · split
      · simp [sendHunt_frame ‹_›]
      · simp [ih]
    · simp [ih]

@[simp] theorem continueHunt_queues (u : Option Nat) :
    (continueHunt u s).host.queues = s.host.queues := by simp [continueHunt]

@[simp] theorem stepOver_queues (r : StepResult) (u : Option Nat) :
    (stepOver r u s).host.queues = s.host.queues := by simp [stepOver]

@[simp] theorem restoreFailed_queues (u : Option Nat) :
    (restoreFailed u s).host.queues = s.host.queues := by simp [restoreFailed]

@[simp] theorem huntAbort_queues (c : AbortCause) : (huntAbort c s).host.queues = s.host.queues := by
  unfold huntAbort
  (repeat' split) <;> simp

@[simp] theorem huntBarArrival_queues (b : State) : (huntBarArrival b s).host.queues = s.host.queues := by
  unfold huntBarArrival
  (repeat' split) <;> simp

@[simp] theorem setCondition_queues (c : Cond) (a : Bool) :
    (setCondition c a s).host.queues = s.host.queues := by simp [setCondition]

@[simp] theorem applyTable_queues : (applyTable s).host.queues = s.host.queues := by simp [applyTable]

@[simp] theorem startHuntNow_queues (o : Option HuntOrigin) :
    (startHuntNow o s).host.queues = s.host.queues := by simp [startHuntNow]

@[simp] theorem admitHunt_queues (o : HuntOrigin) : (admitHunt o s).host.queues = s.host.queues := by
  unfold admitHunt
  (repeat' split) <;> simp

@[simp] theorem huntNotStarted_queues (r : NotStarted) (o : Option HuntOrigin) :
    (huntNotStarted r o s).host.queues = s.host.queues := by simp [huntNotStarted]

@[simp] theorem huntRequestSef_queues : (huntRequestSef s).host.queues = s.host.queues := by
  unfold huntRequestSef
  (repeat' split) <;> simp

@[simp] theorem huntWindowClosed_queues : (huntWindowClosed s).host.queues = s.host.queues := by
  unfold huntWindowClosed
  (repeat' split) <;> simp

@[simp] theorem huntGroupChange_queues : (huntGroupChange s).host.queues = s.host.queues := by
  unfold huntGroupChange
  (repeat' split) <;> simp

@[simp] theorem sendHeldHunt_queues : (sendHeldHunt s).host.queues = s.host.queues := by
  unfold sendHeldHunt
  split
  · split
    · simp [sendHunt_frame ‹_›]
    · simp
  · split
    · simp [sendHunt_frame ‹_›]
    · simp
  all_goals rfl

@[simp] theorem huntOutcome_queues (o : DownOutcome) : (huntOutcome o s).host.queues = s.host.queues := by
  unfold huntOutcome
  (repeat' split) <;> simp

@[simp] theorem huntSwitchDone_queues (a : Nat) (r : SwitchResult) :
    (huntSwitchDone a r s).host.queues = s.host.queues := by
  unfold huntSwitchDone
  (repeat' split) <;> simp

@[simp] theorem beginRestore_queues : (beginRestore s).host.queues = s.host.queues := by
  unfold beginRestore
  dsimp only
  split
  · simp [sendHunt_frame ‹_›]
  · simp

@[simp] theorem judgeDwell_queues : (judgeDwell s).host.queues = s.host.queues := by
  unfold judgeDwell
  (repeat' split) <;> simp

end

/-! ## The start admission unit -/

section
variable (s : State)

@[simp] theorem startReport_queues (n : Nat) (e : StartEvent) (c : Option StartCause) (so : Option Nat)
    (w : Option (Nat × Nat)) :
    (startReport n e c so w s).host.queues = s.host.queues := by simp [startReport]

@[simp] theorem queueRelease_queues (n a : Nat) : (queueRelease n a s).host.queues = s.host.queues := by
  unfold queueRelease
  split
  · simp
  · split
    · simp [joinQueue_frame ‹_›]
    · simp

@[simp] theorem settleGrant_queues (w : StartWindow) (b : Bool) :
    (settleGrant w b s).host.queues = s.host.queues := by
  unfold settleGrant
  (repeat' split) <;> simp

@[simp] theorem endWindow_queues (c : StartCause) : (endWindow c s).host.queues = s.host.queues := by
  unfold endWindow
  (repeat' split) <;> simp

@[simp] theorem queueGrant_queues (w : StartWindow) : (queueGrant w s).host.queues = s.host.queues := by
  unfold queueGrant
  split
  · simp
  · split
    · simp [joinQueue_frame ‹_›]
    · simp

@[simp] theorem sendReleaseDue_queues : (sendReleaseDue s).host.queues = s.host.queues := by
  unfold sendReleaseDue
  (repeat' split) <;> simp

@[simp] theorem sendHeldGrant_queues : (sendHeldGrant s).host.queues = s.host.queues := by
  unfold sendHeldGrant
  (repeat' split) <;> simp

@[simp] theorem admOutcomeEffect_queues (m : StartMessage) (o : DownOutcome) :
    (admOutcomeEffect m o s).host.queues = s.host.queues := by
  unfold admOutcomeEffect
  (repeat' split) <;> simp

@[simp] theorem admOutcome_queues (o : DownOutcome) : (admOutcome o s).host.queues = s.host.queues := by
  unfold admOutcome
  (repeat' split) <;> simp

@[simp] theorem makePending_queues (d : Drive) (n : Nat) :
    (makePending d n s).host.queues = s.host.queues := by simp [makePending]

@[simp] theorem withdrawRequest_queues (c : StartCause) (n : Nat) :
    (withdrawRequest c s n).host.queues = s.host.queues := by simp [withdrawRequest]

@[simp] theorem foldl_withdrawRequest_queues (c : StartCause) (l : List Nat) :
    (l.foldl (withdrawRequest c) s).host.queues = s.host.queues :=
  foldl_queues (fun u x => withdrawRequest_queues u _ x) l s

@[simp] theorem admStartRequest_queues (a n : Nat) : (admStartRequest a n s).host.queues = s.host.queues := by
  unfold admStartRequest
  (repeat' split) <;> simp

@[simp] theorem admStartDone_queues (a n : Nat) : (admStartDone a n s).host.queues = s.host.queues := by
  unfold admStartDone
  (repeat' split) <;> simp

@[simp] theorem admStartAbandon_queues (a n : Nat) : (admStartAbandon a n s).host.queues = s.host.queues := by
  unfold admStartAbandon
  (repeat' split) <;> simp

@[simp] theorem openWindow_queues (d : Drive) : (openWindow d s).host.queues = s.host.queues := by
  unfold openWindow
  (repeat' split) <;> simp

@[simp] theorem rebuildDrives_queues (l : List DriveEntry) : (rebuildDrives l s).host.queues = s.host.queues := by
  unfold rebuildDrives
  dsimp only
  split <;> simp

@[simp] theorem drivesInvalid_queues : (drivesInvalid s).host.queues = s.host.queues := by simp [drivesInvalid]

end

/-! ## The sequencer -/

section
variable (s : State)

@[simp] theorem seqMove_queues (r : Sequencer) (e : SeqEvent) (o : Option ChangeOrigin) :
    (seqMove r e o s).host.queues = s.host.queues := by
  unfold seqMove
  (repeat' split) <;> simp

@[simp] theorem tripFromClosed_queues (t : LastTrip) : (tripFromClosed t s).host.queues = s.host.queues := by
  unfold tripFromClosed
  (repeat' split) <;> simp

@[simp] theorem seqTrip_queues (t : LastTrip) : (seqTrip t s).host.queues = s.host.queues := by
  unfold seqTrip
  (repeat' split) <;> simp

@[simp] theorem openJudgement_queues (o : ChangeOrigin) : (openJudgement o s).host.queues = s.host.queues := by
  unfold openJudgement
  repeat' ((try dsimp only); split)
  all_goals simp

@[simp] theorem externalClosing_queues (o : ChangeOrigin) :
    (externalClosing o s).host.queues = s.host.queues := by simp [externalClosing]

@[simp] theorem initialChange_queues (n : BreakerPos) : (initialChange n s).host.queues = s.host.queues := by
  unfold initialChange
  (repeat' split) <;> simp

@[simp] theorem laterChange_queues (n : BreakerPos) (o : ChangeOrigin) (b : Bool) :
    (laterChange n o b s).host.queues = s.host.queues := by
  unfold laterChange
  (repeat' split) <;> simp

@[simp] theorem seqBreakerChange_queues (n : BreakerPos) (o : ChangeOrigin) :
    (seqBreakerChange n o s).host.queues = s.host.queues := by
  unfold seqBreakerChange
  (repeat' split) <;> simp

@[simp] theorem seqClosedOk_queues : (seqClosedOk s).host.queues = s.host.queues := by
  unfold seqClosedOk
  (repeat' split) <;> simp

@[simp] theorem seqTimedOut_queues : (seqTimedOut s).host.queues = s.host.queues := by
  unfold seqTimedOut
  (repeat' split) <;> simp

@[simp] theorem seqBreakerFail_queues : (seqBreakerFail s).host.queues = s.host.queues := by
  unfold seqBreakerFail
  (repeat' split) <;> simp

@[simp] theorem seqGroupChange_queues : (seqGroupChange s).host.queues = s.host.queues := by
  unfold seqGroupChange
  (repeat' split) <;> simp

@[simp] theorem deadTimeEnds_queues : (deadTimeEnds s).host.queues = s.host.queues := by
  unfold deadTimeEnds
  repeat' ((try dsimp only); split)
  all_goals simp

end

/-! ## The breaker interface -/

section
variable (s : State)

@[simp] theorem completeTrip_queues : (completeTrip s).host.queues = s.host.queues := by
  unfold completeTrip
  (repeat' split) <;> simp

@[simp] theorem completeClose_queues : (completeClose s).host.queues = s.host.queues := by
  unfold completeClose
  (repeat' split) <;> simp

@[simp] theorem ownOutputs_queues (n : BreakerPos) : (ownOutputs n s).host.queues = s.host.queues := by
  unfold ownOutputs
  (repeat' split) <;> simp

@[simp] theorem acceptPosition_queues (n : BreakerPos) : (acceptPosition n s).host.queues = s.host.queues := by
  unfold acceptPosition
  (repeat' split) <;> simp

@[simp] theorem scanPosition_queues (a b : Bool) : (scanPosition a b s).host.queues = s.host.queues := by
  unfold scanPosition
  (repeat' split) <;> simp

@[simp] theorem scanReady_queues (b : Bool) : (scanReady b s).host.queues = s.host.queues := by
  unfold scanReady
  (repeat' split) <;> simp

@[simp] theorem tripTimeout_queues : (tripTimeout s).host.queues = s.host.queues := by
  unfold tripTimeout
  (repeat' split) <;> simp

end

/-! ## The regime unit -/

section
variable (s : State)

@[simp] theorem judgeFireStale_queues : (judgeFireStale s).host.queues = s.host.queues := by simp [judgeFireStale]

@[simp] theorem judgeFireRegime_queues :
    (judgeFireRegime s).host.queues = s.host.queues := by simp [judgeFireRegime]

@[simp] theorem cancelOverride_queues : (cancelOverride s).host.queues = s.host.queues := by
  unfold cancelOverride
  repeat' ((try dsimp only); split)
  all_goals simp

@[simp] theorem takeIntoForce_queues (g : Nat) : (takeIntoForce g s).host.queues = s.host.queues := by
  unfold takeIntoForce
  (repeat' split) <;> simp

@[simp] theorem regimeStages_queues : (regimeStages s).host.queues = s.host.queues := by simp [regimeStages]

@[simp] theorem groupWork_queues : (groupWork s).host.queues = s.host.queues := by
  unfold groupWork
  repeat' ((try dsimp only); split)
  all_goals simp

end

/-! ## The protection unit and the measurement unit -/

section
variable (s : State)

@[simp] theorem handTrip_queues (t : Trip) : (handTrip t s).host.queues = s.host.queues := by simp [handTrip]

@[simp] theorem issueTrip_queues (t : Trip) : (issueTrip t s).host.queues = s.host.queues := by simp [issueTrip]

@[simp] theorem sefStage_queues : (sefStage s).host.queues = s.host.queues := by
  unfold sefStage
  repeat' ((try dsimp only); split)
  all_goals simp

@[simp] theorem protPoint_queues (q : Multiples) (b : Bool) : (protPoint q b s).host.queues = s.host.queues := by
  unfold protPoint
  repeat' ((try dsimp only); split)
  all_goals simp

@[simp] theorem protLoss_queues : (protLoss s).host.queues = s.host.queues := by simp [protLoss]

@[simp] theorem handPoint_queues : (handPoint s).host.queues = s.host.queues := by simp [handPoint]

@[simp] theorem evaluationPoint_queues :
    (evaluationPoint s).host.queues = s.host.queues := by simp [evaluationPoint]

@[simp] theorem acceptSet_queues (x : SampleSet) : (acceptSet x s).host.queues = s.host.queues := by
  unfold acceptSet
  repeat' ((try dsimp only); split)
  all_goals simp

end

/-! ## The pilot bus controller -/

section
variable (s : State)

@[simp] theorem judgeSilent_queues : (judgeSilent s).host.queues = s.host.queues := by simp [judgeSilent]

@[simp] theorem changeStation_queues (o n : Station) (q : Option QueryResult) :
    (changeStation o n q s).host.queues = s.host.queues := by
  unfold changeStation
  (repeat' split) <;> simp

@[simp] theorem missedAnswer_queues (st : Station) :
    (missedAnswer st s).host.queues = s.host.queues := by simp [missedAnswer]

@[simp] theorem queryOutcome_queues (o : DownOutcome) (a : Nat) :
    (queryOutcome o a s).host.queues = s.host.queues := by
  unfold queryOutcome
  (repeat' split) <;> simp

@[simp] theorem handOutcome_queues (m : DownMessage) (o : DownOutcome) :
    (handOutcome m o s).host.queues = s.host.queues := by
  unfold handOutcome
  (repeat' split) <;> simp

@[simp] theorem endMessage_queues : (endMessage s).host.queues = s.host.queues := by
  unfold endMessage
  (repeat' split) <;> simp

@[simp] theorem deliverTo_queues (a : Nat) (f : Station → Station) (q : Station → Option QueryResult) :
    (deliverTo a f q s).host.queues = s.host.queues := by
  unfold deliverTo
  (repeat' split) <;> simp

@[simp] theorem rebuildStations_queues (l : List StationEntry) :
    (rebuildStations l s).host.queues = s.host.queues := by simp [rebuildStations]

@[simp] theorem dropMark_queues (st : Station) : (dropMark s st).host.queues = s.host.queues := by
  unfold dropMark
  (repeat' split) <;> simp

@[simp] theorem foldl_dropMark_queues (l : List Station) :
    (l.foldl dropMark s).host.queues = s.host.queues := foldl_queues dropMark_queues l s

@[simp] theorem stationsInvalid_queues :
    (stationsInvalid s).host.queues = s.host.queues := by simp [stationsInvalid]

end

/-! ## The settings store -/

section
variable (s : State)

@[simp] theorem judgeIntegrity_queues : (judgeIntegrity s).host.queues = s.host.queues := by simp [judgeIntegrity]

@[simp] theorem reportImage_queues (r : ImageReport) :
    (reportImage r s).host.queues = s.host.queues := by simp [reportImage]

@[simp] theorem plantChanged_queues : (plantChanged s).host.queues = s.host.queues := by simp [plantChanged]

@[simp] theorem cancelAtLoad_queues (g : Nat) : (cancelAtLoad g s).host.queues = s.host.queues := by
  unfold cancelAtLoad
  (repeat' split) <;> simp

@[simp] theorem usersAccept_queues (i : ImageId) : (usersAccept i s).host.queues = s.host.queues := by
  unfold usersAccept
  (repeat' split) <;> simp

@[simp] theorem usersInvalid_queues (i : ImageId) : (usersInvalid i s).host.queues = s.host.queues := by
  unfold usersInvalid
  (repeat' split) <;> simp

@[simp] theorem checkImage_queues (i : ImageId) : (checkImage s i).host.queues = s.host.queues := by
  unfold checkImage
  repeat' ((try dsimp only); split)
  all_goals simp

@[simp] theorem endCheck_queues : (endCheck s).host.queues = s.host.queues := by
  unfold endCheck
  (repeat' split) <;> simp

@[simp] theorem foldl_checkImage_queues (l : List ImageId) :
    (l.foldl checkImage s).host.queues = s.host.queues := foldl_queues checkImage_queues l s

@[simp] theorem fullPass_queues : (fullPass s).host.queues = s.host.queues := by simp [fullPass]

@[simp] theorem acceptImage_queues (i : ImageId) (c : List Byte) (w : Word16) :
    (acceptImage i c w s).host.queues = s.host.queues := by simp [acceptImage]

end

end Sys2Proof.Machine

/-! PROOFS. The queues of the record interface hold to their sizes and to one another (R169 to R172): the rows of the
other blocks, the execution of a command, reception, transmission, the restarts, and every step. -/

namespace Sys2Proof.Machine

/-! ## The invariant -/

/-- The kind and tag of each unfilled reply place, in order. -/
def unfilledLabels (l : List ReplyPlace) : List (Nat × Byte) :=
  (l.filter fun p => !p.reply.isSome).map ReplyPlace.label

@[simp] theorem unfilledLabels_append (l m : List ReplyPlace) :
    unfilledLabels (l ++ m) = unfilledLabels l ++ unfilledLabels m := by simp [unfilledLabels]

theorem unfilledLabels_filledPlace (k : Nat) (tag : Byte) (r : Reply) :
    unfilledLabels [filledPlace k tag r] = [] := rfl

theorem unfilledLabels_cons (p : ReplyPlace) (l : List ReplyPlace) :
    unfilledLabels (p :: l) = if p.reply.isSome then unfilledLabels l else p.label :: unfilledLabels l := by
  unfold unfilledLabels
  cases h : p.reply.isSome <;> simp only [List.filter_cons, h] <;> rfl

/-- A reply takes the oldest unfilled place (R170). -/
theorem unfilledLabels_fillFirst (r : Reply) (m : Option RestartKind) (l : List ReplyPlace) :
    unfilledLabels (fillFirst r m l) = (unfilledLabels l).tail := by
  induction l with
  | nil => rfl
  | cons p rest ih =>
    unfold fillFirst
    split
    · next h => simp [unfilledLabels_cons, h, ih]
    · next h => simp [unfilledLabels_cons, h]

@[simp] theorem length_fillFirst (r : Reply) (m : Option RestartKind) (l : List ReplyPlace) :
    (fillFirst r m l).length = l.length := by
  induction l with
  | nil => rfl
  | cons p rest ih =>
    unfold fillFirst
    split <;> simp [ih]

/-- A filled head stays at the head when another place is filled (R170, R171). -/
theorem head?_fillFirst {p : ReplyPlace} {l : List ReplyPlace} (hhead : l.head? = some p) (hp : p.reply.isSome = true)
    (r : Reply) (m : Option RestartKind) : (fillFirst r m l).head? = some p := by
  cases l with
  | nil => cases hhead
  | cons q rest =>
    obtain rfl : q = p := Option.some.inj hhead
    simp [fillFirst, hp]

/-- The invariant reads of the state what `HostIf.queues` shows of it. -/
theorem QueuesAgree.of_queues {s t : State} (hs : QueuesAgree s) (h : t.host.queues = s.host.queues) :
    QueuesAgree t := by
  simp only [HostIf.queues, Prod.mk.injEq] at h
  obtain ⟨hcommands, hreplies, htx, hexcess⟩ := h
  obtain ⟨hfour, height, hfit, hlabels, hsent⟩ := hs
  refine ⟨?_, ?_, by omega, ?_, ?_⟩
  · rwa [hcommands]
  · rwa [hreplies]
  · rwa [hcommands, hreplies]
  · rwa [htx, hreplies]

/-- Cleared queues and an idle line agree (R176, R178). -/
theorem queuesAgree_of_cleared {t : State} (hcommands : t.host.commands = []) (hreplies : t.host.replies = [])
    (hreports : t.host.reports.length ≤ 32) (htx : t.host.tx = .idle) : QueuesAgree t := by
  simp [QueuesAgree, hcommands, hreplies, hreports, htx]

/-- A report leaves its queue, and at most the OVERRUN report takes the place (R172). -/
theorem length_afterReportLeaves (now : Time) (rest : List Report) (h : HostIf) :
    (afterReportLeaves now rest h).reports.length ≤ rest.length + 1 := by
  unfold afterReportLeaves
  split <;> simp

theorem afterReportLeaves_others (now : Time) (rest : List Report) (h : HostIf) :
    (afterReportLeaves now rest h).commands = h.commands ∧ (afterReportLeaves now rest h).replies = h.replies := by
  unfold afterReportLeaves
  split <;> exact ⟨rfl, rfl⟩

/-! ## The execution of a command -/

section
variable (s : State)

@[simp] theorem ownLoadImage_queues (p : List Byte) : (ownLoadImage p s).2.host.queues = s.host.queues := by
  unfold ownLoadImage
  dsimp only
  (repeat' split) <;> simp

@[simp] theorem ownCheckImages_queues : (ownCheckImages s).2.host.queues = s.host.queues := by simp [ownCheckImages]

@[simp] theorem ownSetFireLevel_queues (p : List Byte) : (ownSetFireLevel p s).2.host.queues = s.host.queues := by
  unfold ownSetFireLevel
  dsimp only
  split <;> simp

@[simp] theorem ownSelectGroup_queues (p : List Byte) : (ownSelectGroup p s).2.host.queues = s.host.queues := by
  unfold ownSelectGroup
  dsimp only
  (repeat' split) <;> simp

@[simp] theorem ownTrip_queues : (ownTrip s).2.host.queues = s.host.queues := by simp [ownTrip]

@[simp] theorem ownClose_queues : (ownClose s).2.host.queues = s.host.queues := by
  unfold ownClose
  (repeat' split) <;> simp

@[simp] theorem ownResetLockout_queues : (ownResetLockout s).2.host.queues = s.host.queues := by
  unfold ownResetLockout judgeReset
  (repeat' split) <;> simp

@[simp] theorem ownSetPermit_queues (p : List Byte) : (ownSetPermit p s).2.host.queues = s.host.queues := by
  unfold ownSetPermit
  (repeat' split) <;> simp

@[simp] theorem ownAckConditions_queues (p : List Byte) : (ownAckConditions p s).2.host.queues = s.host.queues := by
  unfold ownAckConditions
  dsimp only
  split <;> simp [acknowledge]

@[simp] theorem ownStartHunt_queues (p : List Byte) : (ownStartHunt p s).2.host.queues = s.host.queues := by
  unfold ownStartHunt
  split <;> simp

@[simp] theorem ownStopHunt_queues (p : List Byte) : (ownStopHunt p s).2.host.queues = s.host.queues := by
  unfold ownStopHunt
  split <;> simp

@[simp] theorem ownRequestStart_queues (p : List Byte) : (ownRequestStart p s).2.host.queues = s.host.queues := by
  unfold ownRequestStart
  dsimp only
  (repeat' split) <;> simp

@[simp] theorem ownCancelStart_queues (p : List Byte) : (ownCancelStart p s).2.host.queues = s.host.queues := by
  unfold ownCancelStart
  dsimp only
  (repeat' split) <;> simp

@[simp] theorem ownPilotQuery_queues (p : List Byte) : (ownPilotQuery p s).2.host.queues = s.host.queues := by
  unfold ownPilotQuery
  dsimp only
  split
  · rfl
  · split
    · rfl
    · split
      · simp
      · split
        · next hj => simp [joinQueue_frame hj]
        · rfl

/-- The mask is none of the queues (R173). -/
@[simp] theorem ownSetReportMask_queues (p : List Byte) : (ownSetReportMask p s).2.host.queues = s.host.queues := rfl

end

section
variable {s : State} (hs : QueuesAgree s)
include hs

/-- The head command leaves its queue and the oldest unfilled place takes its reply (R170). -/
theorem QueuesAgree.replied {t : State} (ht : t.host.queues = (popCommand s).host.queues) (r : Reply)
    (m : Option RestartKind) : QueuesAgree (fillReply r m t) := by
  simp only [HostIf.queues, popCommand, State.setHost_host, Prod.mk.injEq] at ht
  obtain ⟨hcommands, hreplies, htx, hexcess⟩ := ht
  obtain ⟨hfour, height, hfit, hlabels, hsent⟩ := hs
  refine ⟨?_, ?_, ?_, ?_, fun p hp => ?_⟩
  · simp only [fillReply_host, hcommands, List.length_drop]
    omega
  · simpa [hreplies] using height
  · simp only [fillReply_host]
    omega
  · have hfilled := unfilledLabels_fillFirst r m s.host.replies
    simp only [unfilledLabels, hlabels] at hfilled
    simpa [hcommands, hreplies] using hfilled
  · simp only [fillReply_host, htx] at hp
    obtain ⟨hhead, hpfilled⟩ := hsent p hp
    exact ⟨by simpa [hreplies] using head?_fillFirst hhead hpfilled r m, hpfilled⟩

/-- A command's row keeps the queues in agreement when its owner leaves them alone (R170). -/
theorem QueuesAgree.ran (k : CommandKind) {own : List Byte → State → Reply × State}
    (hown : ∀ p u, (own p u).2.host.queues = u.host.queues) : QueuesAgree (runCommand k own s) := by
  unfold runCommand
  split
  · unfold execute
    split
    · exact hs.replied (hown _ _) _ _
    · exact hs.replied rfl _ _
  · exact hs

theorem QueuesAgree.ranRestart (other : List Byte) : QueuesAgree (runRestart other s) := by
  have htaken (c : Command) : QueuesAgree (executeRestart c s) := by
    unfold executeRestart
    split
    · exact hs.replied rfl _ _
    · split
      · exact hs.replied rfl _ _
      · split
        · unfold fullRestartTaken
          split <;> exact hs.replied rfl _ _
        · exact hs.replied rfl _ _
  unfold runRestart
  split
  · split
    · exact hs
    · exact htaken _
  · exact hs

/-! ## Reception -/

/-- A judged record's place joins the replies, and its command the command queue where the place is unfilled (R169). -/
theorem QueuesAgree.joined {t : State} {p : ReplyPlace} {l : List Command}
    (ht : t.host.queues =
      (s.host.commands ++ l, s.host.replies ++ [p], s.host.tx, s.host.reports.length - 32))
    (hp : unfilledLabels [p] = l.map Command.label) (hplace : s.host.replies.length < 8)
    (hroom : s.host.commands.length + l.length ≤ 4) : QueuesAgree t := by
  simp only [HostIf.queues, Prod.mk.injEq] at ht
  obtain ⟨hcommands, hreplies, htx, hexcess⟩ := ht
  obtain ⟨-, -, hfit, hlabels, hsent⟩ := hs
  refine ⟨?_, ?_, by omega, ?_, fun q hq => ?_⟩
  · rwa [hcommands, List.length_append]
  · rw [hreplies, List.length_append]
    exact hplace
  · change unfilledLabels s.host.replies = _ at hlabels
    change unfilledLabels t.host.replies = _
    rw [hreplies, hcommands, unfilledLabels_append, hp, hlabels, List.map_append]
  · obtain ⟨hhead, hfilled⟩ := hsent q (htx ▸ hq)
    exact ⟨by simp [hreplies, hhead], hfilled⟩

/-- A record answered at its judgement takes a filled place (R169). -/
theorem QueuesAgree.answered {t : State} {k : Nat} {tag : Byte} {r : Reply}
    (ht : t.host.queues =
      (s.host.commands, s.host.replies ++ [filledPlace k tag r], s.host.tx, s.host.reports.length - 32))
    (hplace : s.host.replies.length < 8) : QueuesAgree t :=
  hs.joined (l := []) (by rw [ht, List.append_nil]) (unfilledLabels_filledPlace k tag r) hplace hs.1

theorem QueuesAgree.judged (r : HostRecord) (more : List HostRecord) :
    QueuesAgree (s.setHost (judgeRecord r { s.host with arrived := more })) := by
  unfold judgeRecord
  split
  · exact hs.of_queues rfl
  · next hfull =>
    have hplace := Nat.lt_of_not_le hfull
    split
    · exact hs.answered rfl hplace
    · split
      · exact hs.answered rfl hplace
      · split
        · exact hs.answered rfl hplace
        · next hroom => exact hs.joined rfl rfl hplace (Nat.lt_of_not_le hroom)

/-! ## Transmission -/

theorem QueuesAgree.chosen (now : Time) : QueuesAgree (s.setHost (chooseRecord now s.host)) := by
  unfold chooseRecord
  split
  · next p more hreplies =>
    split
    · next hp =>
      obtain ⟨hfour, height, hfit, hlabels, -⟩ := hs
      refine ⟨hfour, height, hfit, hlabels, fun q hq => ?_⟩
      cases hq
      exact ⟨by simp [hreplies], hp⟩
    · exact hs
  · split
    · next r rest hreports =>
      obtain ⟨hfour, height, hfit, hlabels, -⟩ := hs
      obtain ⟨hcommands, hreplies⟩ := afterReportLeaves_others now rest s.host
      have hleft := length_afterReportLeaves now rest s.host
      rw [hreports, List.length_cons] at hfit
      refine ⟨?_, ?_, hleft.trans hfit, ?_, nofun⟩
      · simpa [hcommands] using hfour
      · simpa [hreplies] using height
      · simpa [hcommands, hreplies] using hlabels
    · exact hs

/-- The end of a reply frees its filled place at the head of the queue (R171). -/
theorem QueuesAgree.sent {p : ReplyPlace} (hp : s.host.tx = .reply p) :
    QueuesAgree (s.setHost { s.host with tx := .idle, replies := s.host.replies.drop 1 }) := by
  obtain ⟨hfour, height, hfit, hlabels, hsent⟩ := hs
  obtain ⟨hhead, hfilled⟩ := hsent p hp
  obtain ⟨more, hmore⟩ := List.head?_eq_some_iff.mp hhead
  change unfilledLabels s.host.replies = _ at hlabels
  rw [hmore, unfilledLabels_cons, if_pos hfilled] at hlabels
  refine ⟨hfour, ?_, hfit, ?_, nofun⟩
  · simp only [State.setHost_host, List.length_drop]
    omega
  · simpa [hmore, unfilledLabels] using hlabels

theorem QueuesAgree.transmitted : Ends (execTransmissionEnd s) QueuesAgree := by
  rw [execTransmissionEnd, ends_next]
  split
  · exact hs
  · obtain ⟨hfour, height, hfit, hlabels, -⟩ := hs
    exact ⟨hfour, height, hfit, hlabels, nofun⟩
  · next p hp =>
    have hfreed := hs.sent hp
    unfold afterReply
    split
    · exact hfreed
    · exact queuesAgree_of_cleared rfl rfl (Nat.zero_le _) rfl
    · exact hfreed.of_queues rfl

end

/-! ## Every command -/

/-- A row that leaves what the queues show as it is. -/
theorem ends_of_queues {s t : State} (hs : QueuesAgree s) (h : t.host.queues = s.host.queues) :
    Ends (.next t) QueuesAgree := (ends_next _ _).mpr (hs.of_queues h)

/-- A row that acts when it is due, and leaves the state alone when it is not. -/
theorem ends_ite_queues {s t : State} {p : Prop} [Decidable p] (hs : QueuesAgree s)
    (h : t.host.queues = s.host.queues) : Ends (.next (if p then t else s)) QueuesAgree :=
  ends_of_queues hs (by split <;> [exact h; rfl])

theorem fullRestart_queuesAgree (k : RestartCause) (b1 b0 : Bool) (s : State) :
    QueuesAgree (fullRestart k b1 b0 s) := queuesAgree_of_cleared rfl rfl (by decide : 1 ≤ 32) rfl

/-- Every command keeps the queues in agreement. -/
theorem exec_queuesAgree (c : Instr) {s : State} (hs : QueuesAgree s) : Ends (exec c s) QueuesAgree := by
  cases c with
  | fullRestart k b1 b0 =>
    exact (ends_next _ _).mpr ((fullRestart_queuesAgree (causeOf k) b1 b0 s).of_queues rfl)
  | fullRestartByCommand b1 b0 =>
    refine (ends_next _ _).mpr ?_
    split
    · exact fullRestart_queuesAgree _ b1 b0 s
    · exact hs
  | timeBaseEvent a b r => exact ends_of_queues hs (by simp [paceTimers, advanceTime])
  | sampleSetArrival | lossDeclared | tripTimerExpiry | closeTimerExpiry | deadTimerExpiry | holdExceeded
  | reclaimTimerExpiry | scanEvent | fireLevelExpiry | slotEvent | takeTimeout | holdingTimeout | refusingEnd
  | coolDownEnd | dwellExpiry | settlingEnd | startWindowExpiry => exact ends_ite_queues hs (by simp)
  | backingWriteCompletion b =>
    refine ends_of_queues hs ?_
    dsimp only
    split
    · rfl
    · split <;> simp
  | downMessageEnd | wholeSecondBoundary =>
    refine ends_ite_queues hs ?_
    dsimp only
    split <;> simp
  | switchWaitExpiry =>
    refine ends_ite_queues hs ?_
    split <;> simp
  | pollTimerExpiry =>
    refine ends_ite_queues hs ?_
    dsimp only
    split
    · split <;> simp
    · rfl
  | status | switchDone | startRequest | startDone | startAbandon =>
    refine ends_of_queues hs ?_
    split <;> simp
  | replyWaitExpiry | requestLifetimeExpiry =>
    refine ends_of_queues hs ?_
    split
    · split <;> simp
    · rfl
  | hostRecordArrival =>
    refine (ends_next _ _).mpr ?_
    split
    · exact hs.judged _ _
    · exact hs
  | transmissionStart =>
    refine (ends_next _ _).mpr ?_
    split
    · exact hs.chosen _
    · exact hs
  | transmissionEnd => exact hs.transmitted
  | hostByteReceived => exact ends_of_queues hs rfl
  | receiveTimeout => exact ends_ite_queues hs rfl
  | echo => exact (ends_next _ _).mpr (hs.ran _ fun _ _ => rfl)
  | readStatus => exact (ends_next _ _).mpr (hs.ran _ fun p u => by rw [ownReadStatus_state])
  | readMeasure => exact (ends_next _ _).mpr (hs.ran _ fun _ _ => rfl)
  | readImage => exact (ends_next _ _).mpr (hs.ran _ fun p u => by rw [ownReadImage_state])
  | loadImage | checkImages | setFireLevel | selectGroup | trip | close | resetLockout | setPermit | ackConditions
  | startHunt | stopHunt | requestStart | cancelStart | pilotQuery | setReportMask =>
    exact (ends_next _ _).mpr (hs.ran _ fun _ _ => by simp)
  | restartLink | restartFull => exact (ends_next _ _).mpr (hs.ranRestart _)

/-- Settles O60: the front command keeps the queues in agreement, and the queue of commands is no part of it. -/
theorem stepKeepsTheQueuesInAgreement : Obligations.StepKeepsTheQueuesInAgreement := by
  intro s t hs e
  unfold step at e
  split at e
  · cases e
    exact hs
  · next c rest _ => exact exec_queuesAgree c (s := s.setPending rest) hs t e

end Sys2Proof.Machine

/-! PROOFS. A full restart meets every invariant, whatever state it finds (R16, R40, R64, R77, R101, R113, R139, R154,
R167, R178), and the reset state is a restart of itself. -/

namespace Sys2Proof.Machine

section
variable (k : RestartCause) (b1 b0 : Bool) (s : State)

/-- The windows are empty (R16). -/
theorem fullRestart_measurementExact : MeasurementExact (fullRestart k b1 b0 s) :=
  (measurementExact_iff _).mpr
    ⟨Nat.zero_le _, Nat.zero_le _, fun _ => rfl, windowExact_empty, windowExact_empty, windowExact_empty,
      windowExact_empty, windowExact_empty⟩

/-- Every accumulator and count is 0 (R40). -/
theorem fullRestart_protectionBounded : ProtectionBounded (fullRestart k b1 b0 s) :=
  (protectionBounded_iff _).mpr (valuesBounded_zero _ _)

/-- Both outputs are released and no memo stands (R77). -/
theorem fullRestart_coilInterlock : CoilInterlock (fullRestart k b1 b0 s) :=
  ⟨nofun, nofun, rfl, rfl, rfl, nofun, nofun⟩

/-- The sequencer waits in LOCKOUT for the first position (R101). -/
theorem fullRestart_sequencerShape : SequencerShape (fullRestart k b1 b0 s) :=
  ⟨iff_of_false nofun nofun, rfl, iff_of_true rfl rfl, iff_of_false nofun nofun, nofun, nofun, fun _ => rfl,
    iff_of_true rfl rfl⟩

/-- No hunt message is queued or in flight (R139, R154). -/
theorem fullRestart_huntMessageTracked : HuntMessageTracked (fullRestart k b1 b0 s) :=
  ⟨nofun, nofun, fun _ => rfl, nofun, rfl, rfl⟩

/-- No drive has a request, and none waits or has a window (R167). -/
theorem fullRestart_admissionAgrees : AdmissionAgrees (fullRestart k b1 b0 s) := by
  obtain ⟨hnone, hle⟩ := admissionAtRestart_from (fullRestart k b1 b0 s).store.images
  refine ⟨fun d hd => ⟨hle d hd, ?_, ?_⟩, nofun, nofun⟩
  · exact iff_of_false (by simp [Drive.isPending, hnone d hd]) nofun
  · exact iff_of_false (by simp [hnone d hd]) nofun

theorem fullRestart_sound : Sound (fullRestart k b1 b0 s) :=
  ⟨fullRestart_measurementExact k b1 b0 s, fullRestart_protectionBounded k b1 b0 s, fullRestart_rankCovers k b1 b0 s,
    fullRestart_current k b1 b0 s, rfl, fullRestart_coilInterlock k b1 b0 s,
    (ownersHold_iff _).mpr fun c => fullRestart_owned c k b1 b0 s, fullRestart_sequencerShape k b1 b0 s,
    fullRestart_huntMessageTracked k b1 b0 s, nofun, fullRestart_admissionAgrees k b1 b0 s,
    fullRestart_queuesAgree k b1 b0 s⟩

end

/-- The reset state is what a power-on restart makes of it (log entry 2). -/
theorem fullRestart_reset : fullRestart .powerOn false false State.reset = State.reset := rfl

/-- Settles O2: reset is a full restart, and every full restart meets the invariants. -/
theorem resetIsSound : Obligations.ResetIsSound :=
  ⟨congrArg Host.Outcome.next (congrArg (State.setResetLow · false) fullRestart_reset),
    fullRestart_reset ▸ fullRestart_sound .powerOn false false State.reset⟩

end Sys2Proof.Machine

/-! PROOFS. The receive parser (R168): a record put together byte by byte, and what is discarded. -/

namespace Sys2Proof.Machine

/-! ## One byte -/

/-- The state with its receive parser replaced. -/
def withParser (p : Parser) (s : State) : State := s.setHost { s.host with parser := p }

section
variable {s : State} {p q : Parser} {b : Byte}

/-- A byte that completes no record moves the parser alone (R168). -/
theorem hostByteReceived_of_partial (h : parseByte s.time b s.host.parser = (q, none)) :
    exec (.hostByteReceived b) s = .next (withParser q s) := by
  simp [exec, execHostByteReceived, h, withParser]

theorem receiveBytes_of_partial (h : parseByte s.time b p = (q, none)) (rest : List Byte) :
    receiveBytes (b :: rest) (withParser p s) = receiveBytes rest (withParser q s) := by
  rw [receiveBytes, hostByteReceived_of_partial (s := withParser p s) h]
  rfl

/-- The byte that completes a record hands it on, besides moving the parser (R168). -/
theorem receiveBytes_of_complete {r : HostRecord} (h : parseByte s.time b p = (q, some r)) :
    receiveBytes [b] (withParser p s) =
      .next { s with host := { s.host with parser := q, arrived := s.host.arrived ++ [r] } } := by
  have hbyte : parseByte (withParser p s).time b (withParser p s).host.parser = (q, some r) := h
  simp only [receiveBytes, exec, execHostByteReceived, hbyte]
  rfl

end

/-! ## The bytes of a record -/

section
variable (s : State) (length kind tag hi lo : Byte) (payload : List Byte)

/-- SYNC and LENGTH (R168). -/
theorem receiveBytes_start (hsync : s.host.parser.stage = .syncWait) (hlength : length.toNat ≤ 248)
    (rest : List Byte) :
    receiveBytes (0xC3 :: length :: rest) s =
      receiveBytes rest (withParser ⟨.header, length, [], [], [], s.time⟩ s) := by
  have hfirst : parseByte s.time 0xC3 s.host.parser = (⟨.length, 0, [], [], [], s.time⟩, none) := by
    simp [parseByte, hsync, parserIdle]
  have hsecond : parseByte s.time length ⟨.length, 0, [], [], [], s.time⟩ =
      (⟨.header, length, [], [], [], s.time⟩, none) := if_neg (Nat.not_lt.mpr hlength)
  exact (receiveBytes_of_partial (p := s.host.parser) hfirst _).trans (receiveBytes_of_partial hsecond _)

/-- KIND and TAG: the payload is next, or CHECK where LENGTH is 0 (R168). -/
theorem receiveBytes_header (rest : List Byte) :
    receiveBytes (kind :: tag :: rest) (withParser ⟨.header, length, [], [], [], s.time⟩ s) =
      receiveBytes rest
        (withParser ⟨if length = 0 then .check else .payload, length, [kind, tag], [], [], s.time⟩ s) := by
  have hsecond : parseByte s.time tag ⟨.header, length, [kind], [], [], s.time⟩ =
      (⟨if length = 0 then .check else .payload, length, [kind, tag], [], [], s.time⟩, none) := by
    change (if length = 0 then _ else _) = _
    split <;> rfl
  exact (receiveBytes_of_partial rfl _).trans (receiveBytes_of_partial hsecond _)

/-- The payload, from the bytes that have come to the last one that LENGTH counts (R168). -/
theorem receiveBytes_payload (header rest : List Byte) (hne : payload ≠ []) (come : List Byte)
    (hlength : come.length + payload.length = length.toNat) :
    receiveBytes (payload ++ rest) (withParser ⟨.payload, length, header, come, [], s.time⟩ s) =
      receiveBytes rest (withParser ⟨.check, length, header, come ++ payload, [], s.time⟩ s) := by
  induction payload generalizing come with
  | nil => exact absurd rfl hne
  | cons b more ih =>
    rw [List.length_cons] at hlength
    cases more with
    | nil =>
      have hlast : parseByte s.time b ⟨.payload, length, header, come, [], s.time⟩ =
          (⟨.check, length, header, come ++ [b], [], s.time⟩, none) := if_pos (by simpa using hlength)
      exact receiveBytes_of_partial hlast _
    | cons c more =>
      have hmore : parseByte s.time b ⟨.payload, length, header, come, [], s.time⟩ =
          (⟨.payload, length, header, come ++ [b], [], s.time⟩, none) := by
        refine if_neg ?_
        simp only [List.length_append, List.length_cons, List.length_nil] at hlength ⊢
        omega
      have hcome : (come ++ [b]).length + (c :: more).length = length.toNat := by
        rw [List.length_append, List.length_singleton]
        omega
      refine (receiveBytes_of_partial hmore _).trans ((ih (List.cons_ne_nil c more) _ hcome).trans ?_)
      rw [List.append_assoc]
      rfl

/-- The two CHECK bytes: the record arrives (R168). -/
theorem receiveBytes_check :
    receiveBytes [hi, lo] (withParser ⟨.check, length, [kind, tag], payload, [], s.time⟩ s) =
      .next
        { s with
          host :=
            { s.host with
              parser := parserIdle s.time
              arrived :=
                s.host.arrived ++
                  [{ length := length, kind := kind, tag := tag, payload := payload, check := hi ++ lo }] } } :=
  (receiveBytes_of_partial rfl _).trans (receiveBytes_of_complete rfl)

end

/-- A whole record, byte by byte (R168). -/
theorem receiveBytes_record {s : State} {payload : List Byte} (hsync : s.host.parser.stage = .syncWait)
    (hle : payload.length ≤ 248) (kind tag hi lo : Byte) :
    receiveBytes ([0xC3, BitVec.ofNat 8 payload.length, kind, tag] ++ payload ++ [hi, lo]) s =
      .next
        { s with
          host :=
            { s.host with
              parser := parserIdle s.time
              arrived :=
                s.host.arrived ++
                  [{ length := BitVec.ofNat 8 payload.length, kind := kind, tag := tag, payload := payload,
                     check := hi ++ lo }] } } := by
  have hlength : (BitVec.ofNat 8 payload.length).toNat = payload.length := by
    rw [BitVec.toNat_ofNat]
    omega
  simp only [List.cons_append, List.nil_append]
  rw [receiveBytes_start s _ hsync (by rwa [hlength]), receiveBytes_header]
  by_cases hnil : payload = []
  · subst hnil
    exact receiveBytes_check s 0 kind tag hi lo []
  · have hne : BitVec.ofNat 8 payload.length ≠ 0 := fun h => by
      rw [h] at hlength
      exact hnil (List.length_eq_zero_iff.mp hlength.symm)
    rw [if_neg hne, receiveBytes_payload s _ payload _ _ hnil [] (by simp [hlength])]
    exact receiveBytes_check s _ kind tag hi lo payload

/-! ## What is discarded -/

theorem parseByte_no_sync {now : Time} {b : Byte} {p : Parser} (hsync : p.stage = .syncWait) (hb : b ≠ 0xC3) :
    parseByte now b p = (parserIdle now, none) := by
  simp only [parseByte, hsync, if_neg hb]

theorem parseByte_long {now : Time} {b : Byte} {p : Parser} (hstage : p.stage = .length) (hb : 248 < b.toNat) :
    parseByte now b p = (parserIdle now, none) := by
  simp only [parseByte, hstage, if_pos hb]

theorem receiveDue_iff (s : State) :
    receiveDue s = true ↔ s.host.parser.stage ≠ .syncWait ∧ 3 ≤ elapsed s.time s.host.parser.lastByte := by
  simp [receiveDue]

theorem receiveTimeout_of_due {s : State} (h : receiveDue s = true) :
    exec .receiveTimeout s = .next (withParser (parserIdle s.host.parser.lastByte) s) :=
  congrArg Host.Outcome.next (if_pos h)

theorem receiveTimeout_of_not_due {s : State} (h : ¬ receiveDue s = true) : exec .receiveTimeout s = .next s :=
  congrArg Host.Outcome.next (if_neg h)

/-- Settles O50, the record by its parts, the payload by induction on its bytes. -/
theorem bytesAssembleARecord : Obligations.BytesAssembleARecord := by
  refine ⟨fun s kind tag hi lo payload hsync hle => ⟨_, rfl, receiveBytes_record hsync hle kind tag hi lo⟩,
    fun s b => ⟨fun hsync hb => ?_, fun hstage hb => ?_, fun hstage hwait => ?_, fun h => ?_⟩⟩
  · exact ⟨_, rfl, hostByteReceived_of_partial (parseByte_no_sync hsync hb)⟩
  · exact ⟨_, rfl, hostByteReceived_of_partial (parseByte_long hstage hb)⟩
  · exact ⟨_, rfl, receiveTimeout_of_due ((receiveDue_iff s).mpr ⟨hstage, hwait⟩)⟩
  · refine receiveTimeout_of_not_due fun hdue => ?_
    obtain ⟨hstage, hwait⟩ := (receiveDue_iff s).mp hdue
    exact h.elim hstage (by omega)

end Sys2Proof.Machine

/-! PROOFS. The record interface: commands in their turn (R170, R176, R177), the report mask and the report queue (R172,
R173), the judgement of a record (R169), and the transmitter (R171, R172, R176, R177). -/

namespace Sys2Proof.Machine

/-! ## Commands in their turn -/

section
variable {k : CommandKind} {c : Command} {rest : List Command} {s : State}

theorem headCommand_of_headIs (h : HeadIs k c rest s) : headCommand k s = some c := by
  obtain ⟨hcommands, hkind, hrestart⟩ := h
  simp only [headCommand, hcommands]
  exact if_pos ⟨hkind, hrestart⟩

theorem headCommand_eq_none
    (h : ∀ c rest, s.host.commands = c :: rest → c.kind.toNat ≠ commandCode k ∨ s.host.restart ≠ .none) :
    headCommand k s = none := by
  unfold headCommand
  split
  · next c rest hcommands =>
    exact if_neg fun ⟨hkind, hrestart⟩ => (h c rest hcommands).elim (· hkind) (· hrestart)
  · rfl

theorem popCommand_of_headIs (h : HeadIs k c rest s) : popCommand s = withCommands rest s := by
  simp only [popCommand, withCommands, h.1, List.drop_one, List.tail_cons]

/-- A RESTART that is not left to the other row is executed on the state without it (R176, R177). -/
theorem runRestart_head {other : List Byte} (h : HeadIs .restart c rest s) (hother : c.payload ≠ other) :
    runRestart other s = executeRestart c s := by
  simp only [runRestart, headCommand_of_headIs h, if_neg hother]

theorem executeRestart_wrong_length (h : HeadIs .restart c rest s) (hl : c.payload.length ≠ 1) :
    executeRestart c s = { s with host := s.host.afterReply (badArgument 0) none rest } := by
  rw [executeRestart, if_pos hl, popCommand_of_headIs h, fillReply_withCommands]

theorem executeRestart_link (h : HeadIs .restart c rest s) (hp : c.payload = [1]) :
    executeRestart c s = linkRestartTaken (withCommands rest s) := by
  simp [executeRestart, hp, popCommand_of_headIs h, u8]

theorem executeRestart_full (h : HeadIs .restart c rest s) (hp : c.payload = [2]) :
    executeRestart c s = fullRestartTaken (withCommands rest s) := by
  simp [executeRestart, hp, popCommand_of_headIs h, u8]

/-- RESTART FULL is refused while a coil output is asserted, and taken otherwise (R177). -/
theorem fullRestartTaken_eq (u : State) :
    fullRestartTaken u =
      if u.brk.tripOut = true ∨ u.brk.closeOut = true then fillReply (refusedFor .outputActive .empty) none u
      else fillReply (okReply .empty) (some .full) (u.setHost { u.host with restart := .full }) := by
  simp [fullRestartTaken]

/-- RESTART LINK's row refuses a RESTART of the wrong length (log entry 13). -/
theorem restartLink_wrong_length (h : HeadIs .restart c rest s)
    (hl : payloadLengthOk .restart c.payload.length = false) :
    exec .restartLink s = .next { s with host := s.host.afterReply (badArgument 0) none rest } := by
  have hlength : c.payload.length ≠ 1 := beq_eq_false_iff_ne.mp hl
  have hother : c.payload ≠ [2] := fun e => hlength (by rw [e]; rfl)
  exact congrArg Host.Outcome.next ((runRestart_head h hother).trans (executeRestart_wrong_length h hlength))

/-- A row refuses its command when the payload has the wrong length (R170). -/
theorem rowOf_wrong_length (h : HeadIs k c rest s) (hl : payloadLengthOk k c.payload.length = false) :
    exec (rowOf k) s = .next { s with host := s.host.afterReply (badArgument 0) none rest } := by
  cases k with
  | restart => exact restartLink_wrong_length h hl
  | _ => exact congrArg Host.Outcome.next (runCommand_wrong_length _ h hl)

/-- A row whose command does not stand at the head, or is held back, does nothing (R170, R176). -/
theorem rowOf_of_no_head (h : headCommand k s = none) : exec (rowOf k) s = .next s := by
  cases k with
  | restart => exact congrArg Host.Outcome.next (by simp only [runRestart, h])
  | _ => exact congrArg Host.Outcome.next (runCommand_not_head _ h)

end

/-- Settles O49: each row by its own command, and RESTART by its payload. -/
theorem commandsAreExecutedInTurn : Obligations.CommandsAreExecutedInTurn := by
  refine ⟨fun k s => ⟨fun c rest h hl => rowOf_wrong_length h hl, fun h => rowOf_of_no_head (headCommand_eq_none h)⟩,
    fun c rest s h => ⟨fun hp => ?_, fun hp htrip hclose => ?_, fun hp hout => ?_⟩⟩
  all_goals refine congrArg Host.Outcome.next ((runRestart_head h (by simp [hp])).trans ?_)
  · rw [executeRestart_link h hp]
    rfl
  · rw [executeRestart_full h hp, fullRestartTaken_eq, if_neg (by simp [htrip, hclose])]
    rfl
  · rw [executeRestart_full h hp, fullRestartTaken_eq, if_pos (by simpa using hout)]
    rfl

/-! ## Reports -/

section
variable {r : Report} {s : State}

theorem addReport_masked (h : s.host.mask.getLsbD (reportBit r) = false) : addReport r s = s :=
  if_neg (Bool.eq_false_iff.mp h)

theorem addReport_enabled (h : s.host.mask.getLsbD (reportBit r) = true) : addReport r s = placeReport r s := if_pos h

end

/-- Settles O48: the mask by SET_REPORT_MASK's owner, and a report by the mask and the room in its queue. -/
theorem reportsAreMaskedAndPlaced : Obligations.ReportsAreMaskedAndPlaced := by
  refine ⟨fun c rest hi lo m s h hp hm => ?_, fun r s => ⟨addReport_masked, fun h hroom => ?_, fun h hfull => ?_⟩⟩
  · refine congrArg Host.Outcome.next ((runCommand_head ownSetReportMask h (by rw [hp]; rfl)).trans ?_)
    rw [hp, hm]
    rfl
  · rw [addReport_enabled h]
    exact if_pos hroom
  · rw [addReport_enabled h]
    exact if_neg (Nat.not_lt.mpr hfull)

/-! ## The judgement of a record -/

theorem hostRecordArrival_of_arrived {s : State} {r : HostRecord} {more : List HostRecord}
    (h : s.host.arrived = r :: more) :
    exec .hostRecordArrival s = .next { s with host := judgeRecord r { s.host with arrived := more } } := by
  simp only [exec, execHostRecordArrival, h]
  rfl

theorem isCommandKind_iff (k : Byte) : isCommandKind k = true ↔ 1 ≤ k.toNat ∧ k.toNat ≤ 0x14 := by
  simp [isCommandKind]

section
variable {r : HostRecord} {h : HostIf}

theorem judgeRecord_no_place (hfull : 8 ≤ h.replies.length) :
    judgeRecord r h = { h with lostRecords := min 255 (h.lostRecords + 1) } := if_pos hfull

theorem judgeRecord_bad_check (hplace : h.replies.length < 8) (hcheck : r.check ≠ recordCrc r) :
    judgeRecord r h = { h with replies := h.replies ++ [filledPlace nakKind r.tag ⟨none, .empty⟩] } := by
  rw [judgeRecord, if_neg (Nat.not_le.mpr hplace), if_pos hcheck]

theorem judgeRecord_bad_kind (hplace : h.replies.length < 8) (hcheck : r.check = recordCrc r)
    (hkind : r.kind = 0 ∨ 0x14 < r.kind.toNat) :
    judgeRecord r h =
      { h with replies := h.replies ++ [filledPlace badKindKind r.tag ⟨some .badKind, .kind r.kind⟩] } := by
  have hno : ¬ isCommandKind r.kind = true := by
    rw [isCommandKind_iff]
    rcases hkind with hzero | hbig
    · simp [hzero]
    · omega
  rw [judgeRecord, if_neg (Nat.not_le.mpr hplace), if_neg (not_not.mpr hcheck), if_pos (by simpa using hno)]

theorem judgeRecord_queue_full (hplace : h.replies.length < 8) (hcheck : r.check = recordCrc r)
    (hkind : isCommandKind r.kind = true) (hfull : 4 ≤ h.commands.length) :
    judgeRecord r h =
      { h with replies := h.replies ++ [filledPlace (replyKindOf r.kind) r.tag ⟨some .queueFull, .empty⟩] } := by
  rw [judgeRecord, if_neg (Nat.not_le.mpr hplace), if_neg (not_not.mpr hcheck), if_neg (by simp [hkind]), if_pos hfull]

theorem judgeRecord_taken (hplace : h.replies.length < 8) (hcheck : r.check = recordCrc r)
    (hkind : isCommandKind r.kind = true) (hroom : h.commands.length < 4) :
    judgeRecord r h =
      { h with
        replies := h.replies ++ [{ kind := replyKindOf r.kind, tag := r.tag, reply := none, restart := none }]
        commands := h.commands ++ [{ kind := r.kind, tag := r.tag, payload := r.payload }] } := by
  rw [judgeRecord, if_neg (Nat.not_le.mpr hplace), if_neg (not_not.mpr hcheck), if_neg (by simp [hkind]),
    if_neg (Nat.not_le.mpr hroom)]

end

/-- Settles O51, test by test in the order of R169. -/
theorem recordsAreJudgedInOrder : Obligations.RecordsAreJudgedInOrder := by
  intro s r more harrived
  refine ⟨_, hostRecordArrival_of_arrived harrived, fun hfull => ?_, fun hplace hcheck => ?_,
    fun hplace hcheck hkind => ?_, fun hplace hcheck hlo hhi hfull => ?_, fun hplace hcheck hlo hhi hroom => ?_⟩
  · exact judgeRecord_no_place hfull
  · exact judgeRecord_bad_check hplace hcheck
  · exact judgeRecord_bad_kind hplace hcheck hkind
  · exact judgeRecord_queue_full hplace hcheck ((isCommandKind_iff _).mpr ⟨hlo, hhi⟩) hfull
  · exact judgeRecord_taken hplace hcheck ((isCommandKind_iff _).mpr ⟨hlo, hhi⟩) hroom

/-! ## The transmitter -/

section
variable {s : State}

theorem transmissionStart_of_idle (hidle : s.host.tx = .idle) :
    exec .transmissionStart s = .next { s with host := chooseRecord s.time s.host } :=
  congrArg Host.Outcome.next (if_pos hidle)

/-- With a reply place in the queue the line waits for it or sends it (R171). -/
theorem chooseRecord_reply {now : Time} {h : HostIf} {p : ReplyPlace} {more : List ReplyPlace}
    (hreplies : h.replies = p :: more) :
    chooseRecord now h = if p.reply.isSome then { h with tx := .reply p } else h := by
  simp only [chooseRecord, hreplies]

/-- With no reply place the oldest report is sent (R171, R172). -/
theorem chooseRecord_report {now : Time} {h : HostIf} {r : Report} {more : List Report} (hreplies : h.replies = [])
    (hreports : h.reports = r :: more) :
    chooseRecord now h = { afterReportLeaves now more h with tx := .report r } := by
  simp only [chooseRecord, hreplies, hreports]

theorem chooseRecord_nothing {now : Time} {h : HostIf} (hreplies : h.replies = []) (hreports : h.reports = []) :
    chooseRecord now h = h := by
  simp only [chooseRecord, hreplies, hreports]

theorem transmissionEnd_of_report {r : Report} (htx : s.host.tx = .report r) :
    exec .transmissionEnd s = .next { s with host := { s.host with tx := .idle } } := by
  simp only [exec, execTransmissionEnd, htx]
  rfl

/-- The end of a reply frees its place and sets going what the reply was marked with (R171, R176, R177). -/
theorem transmissionEnd_of_reply {p q : ReplyPlace} {more : List ReplyPlace} (htx : s.host.tx = .reply p)
    (hreplies : s.host.replies = q :: more) :
    exec .transmissionEnd s = .next { s with host := afterReply p { s.host with tx := .idle, replies := more } } := by
  simp only [exec, execTransmissionEnd, htx, hreplies]
  rfl

end

/-- Settles O52, the start by the transmitter's choice and the end by what was sent. -/
theorem transmitterSendsInOrder : Obligations.TransmitterSendsInOrder := by
  refine ⟨fun s hidle => ?_, fun s => ⟨fun r htx => transmissionEnd_of_report htx, fun p more htx hreplies => ?_⟩⟩
  · rw [transmissionStart_of_idle hidle]
    refine ⟨fun p more hreplies => ?_, fun r more hreplies hreports => ?_, fun hreplies hreports => ?_⟩
    · rw [chooseRecord_reply hreplies]
      exact ⟨fun hp => by rw [if_pos hp], fun hp => by simp [hp]⟩
    · rw [chooseRecord_report hreplies hreports]
      exact ⟨fun hover => by simp [afterReportLeaves, hover], fun hover => by simp [afterReportLeaves, hover]⟩
    · rw [chooseRecord_nothing hreplies hreports]
  · rw [transmissionEnd_of_reply htx hreplies]
    refine ⟨fun hp => ?_, fun hp => ?_, fun hp => ?_⟩
    · simp only [afterReply, hp]
    · simp only [afterReply, hp]
    · refine ⟨_, rfl, ?_⟩
      simp [afterReply, hp, linkReset, parserIdle]

end Sys2Proof.Machine

/-! PROOFS. A step runs the command at the front of the queue (00_scope.md 2.2): every command ends in a next state, and
none touches the queue of waiting commands. -/

namespace Sys2Proof.Machine

/-! ## Host commands -/

section
variable (p : List Byte) (s : State)

@[simp] theorem ownLoadImage_pending : (ownLoadImage p s).2.pending = s.pending := by
  unfold ownLoadImage
  dsimp only
  (repeat' split) <;> simp

@[simp] theorem ownCheckImages_pending : (ownCheckImages s).2.pending = s.pending := by simp [ownCheckImages]

@[simp] theorem ownSetFireLevel_pending : (ownSetFireLevel p s).2.pending = s.pending := by
  unfold ownSetFireLevel
  dsimp only
  split <;> simp

@[simp] theorem ownSelectGroup_pending : (ownSelectGroup p s).2.pending = s.pending := by
  unfold ownSelectGroup
  dsimp only
  (repeat' split) <;> simp

@[simp] theorem ownTrip_pending : (ownTrip s).2.pending = s.pending := by simp [ownTrip]

@[simp] theorem ownClose_pending : (ownClose s).2.pending = s.pending := by
  unfold ownClose
  (repeat' split) <;> simp

@[simp] theorem ownResetLockout_pending : (ownResetLockout s).2.pending = s.pending := by
  unfold ownResetLockout judgeReset
  (repeat' split) <;> simp

@[simp] theorem ownSetPermit_pending : (ownSetPermit p s).2.pending = s.pending := by
  unfold ownSetPermit
  (repeat' split) <;> simp

@[simp] theorem ownAckConditions_pending : (ownAckConditions p s).2.pending = s.pending := by
  unfold ownAckConditions
  dsimp only
  split <;> simp [acknowledge]

@[simp] theorem ownStartHunt_pending : (ownStartHunt p s).2.pending = s.pending := by
  unfold ownStartHunt
  split <;> simp

@[simp] theorem ownStopHunt_pending : (ownStopHunt p s).2.pending = s.pending := by
  unfold ownStopHunt
  split <;> simp

@[simp] theorem ownRequestStart_pending : (ownRequestStart p s).2.pending = s.pending := by
  unfold ownRequestStart
  dsimp only
  (repeat' split) <;> simp

@[simp] theorem ownCancelStart_pending : (ownCancelStart p s).2.pending = s.pending := by
  unfold ownCancelStart
  dsimp only
  (repeat' split) <;> simp

@[simp] theorem ownPilotQuery_pending : (ownPilotQuery p s).2.pending = s.pending := by
  unfold ownPilotQuery
  dsimp only
  split
  · rfl
  · split
    · rfl
    · split
      · simp
      · split
        · next hj => simp [joinQueue_frame hj]
        · rfl

@[simp] theorem ownSetReportMask_pending : (ownSetReportMask p s).2.pending = s.pending := rfl

/-- A command's row leaves the waiting commands alone when the command's owner does (R170). -/
theorem runCommand_pending (k : CommandKind) {own : List Byte → State → Reply × State}
    (hown : ∀ p u, (own p u).2.pending = u.pending) : (runCommand k own s).pending = s.pending := by
  have hpop : (popCommand s).pending = s.pending := rfl
  unfold runCommand
  split
  · unfold execute
    split <;> simp [hown, hpop]
  · rfl

theorem runRestart_pending (other : List Byte) : (runRestart other s).pending = s.pending := by
  unfold runRestart executeRestart linkRestartTaken fullRestartTaken
  repeat' split
  all_goals rfl

end

/-! ## Every command -/

/-- A row that acts when it is due, and leaves the state alone when it is not. -/
theorem ite_pending {s t : State} {due : Prop} [Decidable due] (h : t.pending = s.pending) :
    (if due then t else s).pending = s.pending := by
  split <;> [exact h; rfl]

/-- Every command ends in a next state that keeps the commands that wait, a full restart included. -/
theorem exec_leaves_pending (c : Instr) (s : State) : ∃ t, exec c s = .next t ∧ t.pending = s.pending := by
  cases c with
  | fullRestart => exact ⟨_, rfl, rfl⟩
  | timeBaseEvent => exact ⟨_, rfl, by simp [paceTimers, advanceTime]⟩
  | fullRestartByCommand | receiveTimeout | transmissionStart => exact ⟨_, rfl, ite_pending rfl⟩
  | sampleSetArrival | lossDeclared | tripTimerExpiry | closeTimerExpiry | deadTimerExpiry | holdExceeded
  | reclaimTimerExpiry | scanEvent | fireLevelExpiry | slotEvent | takeTimeout | holdingTimeout | refusingEnd
  | coolDownEnd | dwellExpiry | settlingEnd | startWindowExpiry => exact ⟨_, rfl, ite_pending (by simp)⟩
  | backingWriteCompletion =>
    refine ⟨_, rfl, ?_⟩
    dsimp only
    split
    · rfl
    · split <;> simp
  | downMessageEnd | wholeSecondBoundary =>
    refine ⟨_, rfl, ite_pending ?_⟩
    dsimp only
    split <;> simp
  | switchWaitExpiry =>
    refine ⟨_, rfl, ite_pending ?_⟩
    split <;> simp
  | pollTimerExpiry =>
    refine ⟨_, rfl, ite_pending ?_⟩
    dsimp only
    split
    · split <;> simp
    · rfl
  | status | switchDone | startRequest | startDone | startAbandon =>
    refine ⟨_, rfl, ?_⟩
    split <;> simp
  | replyWaitExpiry | requestLifetimeExpiry =>
    refine ⟨_, rfl, ?_⟩
    split
    · exact ite_pending (by simp)
    · rfl
  | hostRecordArrival | transmissionEnd =>
    refine ⟨_, rfl, ?_⟩
    split <;> rfl
  | hostByteReceived => exact ⟨_, rfl, rfl⟩
  | echo | readMeasure => exact ⟨_, rfl, runCommand_pending s _ fun _ _ => rfl⟩
  | readStatus => exact ⟨_, rfl, runCommand_pending s _ fun p u => by rw [ownReadStatus_state]⟩
  | readImage => exact ⟨_, rfl, runCommand_pending s _ fun p u => by rw [ownReadImage_state]⟩
  | loadImage | checkImages | setFireLevel | selectGroup | trip | close | resetLockout | setPermit | ackConditions
  | startHunt | stopHunt | requestStart | cancelStart | pilotQuery | setReportMask =>
    exact ⟨_, rfl, runCommand_pending s _ fun _ _ => by simp⟩
  | restartLink | restartFull => exact ⟨_, rfl, runRestart_pending s _⟩

/-! ## The step -/

theorem step_of_pending {c : Instr} {rest : List Instr} {s : State} (h : s.pending = c :: rest) :
    step s = exec c (s.setPending rest) := by
  rw [step, h]

theorem step_of_no_pending {s : State} (h : s.pending = []) : step s = .next s := by
  rw [step, h]

/-- Settles O1: the two cases of the queue, and no command that stops the part or moves the queue. -/
theorem stepRunsTheFrontCommand : Obligations.StepRunsTheFrontCommand :=
  ⟨fun _ _ _ => step_of_pending, fun _ => step_of_no_pending, exec_leaves_pending⟩

end Sys2Proof.Machine
